-- ==== Sys2Proof/Word.lean ====
section
/-! DEFINITION. The word types of the STR-6464 and the shape of its sparse tables. -/

namespace Sys2Proof

/-- A register: 32 bits (R4). -/
abbrev Word := BitVec 32

/-- One byte of a frame, a store or a key. -/
abbrev Byte := BitVec 8

/-- A sparse table from a number (an offset, an index, a byte address) to a value. It is kept in one canonical
form: keys strictly rising, and no entry equal to what an unlisted key reads as (Machine/Tab.lean). -/
abbrev Tab (α : Type) := List (Nat × α)

end Sys2Proof
end

