-- ==== Sys2Proof/Machine/Crc.lean ====
section
/-! DEFINITION. The checks the chapters compute over bytes: CRC-16 with polynomial 0x1021 and initial value 0xFFFF
(R543, R457, R512), CRC-32 of IEEE 802.3 (R151, R355, R585), and CRC-64 of ECMA-182 (R524). -/

namespace Sys2Proof.Machine

/-- One bit of CRC-16, most significant bit first. -/
def crc16Bit (c : BitVec 16) : BitVec 16 := if c.msb then (c <<< 1) ^^^ 0x1021 else c <<< 1

/-- One byte of CRC-16. -/
def crc16Byte (c : BitVec 16) (b : Byte) : BitVec 16 :=
  Nat.repeat crc16Bit 8 (c ^^^ (b.setWidth 16 <<< 8))

/-- CRC-16 of a byte string. -/
def crc16 (bs : List Byte) : BitVec 16 := bs.foldl crc16Byte 0xFFFF

/-- One bit of CRC-32, least significant bit first. -/
def crc32Bit (c : Word) : Word := if c.getLsbD 0 then (c >>> 1) ^^^ 0xEDB88320 else c >>> 1

/-- One byte of CRC-32. -/
def crc32Byte (c : Word) (b : Byte) : Word := Nat.repeat crc32Bit 8 (c ^^^ b.setWidth 32)

/-- CRC-32 of a byte string. -/
def crc32 (bs : List Byte) : Word := ~~~(bs.foldl crc32Byte 0xFFFFFFFF)

/-- One bit of CRC-64, most significant bit first. -/
def crc64Bit (c : BitVec 64) : BitVec 64 := if c.msb then (c <<< 1) ^^^ 0x42F0E1EBA9EA3693 else c <<< 1

/-- One byte of CRC-64. -/
def crc64Byte (c : BitVec 64) (b : Byte) : BitVec 64 := Nat.repeat crc64Bit 8 (c ^^^ (b.setWidth 64 <<< 56))

/-- CRC-64 of a byte string, with initial value 0, by the ECMA-182 polynomial. -/
def crc64 (bs : List Byte) : BitVec 64 := bs.foldl crc64Byte 0

end Sys2Proof.Machine
end

