-- ==== Sys2Proof/Config.lean ====
section
/-! DEFINITION. What a part fixes outside this manual's rules: fused values, and the free values of unpredictable results. Every
opaque constant here has NO body, so no proof can see its value. -/

namespace Sys2Proof.Config

/-- The free values: the word an unpredictable result takes at its n-th draw (R19). (log 6 DESIGN CHOICE) -/
opaque freeWord : Nat → Word

/-- R34, R397: the fused module MAC address, first octet in [7:0]. (log 143 DESIGN CHOICE) -/
opaque macAddr : BitVec 48

/-- R440, R452: the fused EUI-64 of the module, first octet in [7:0]. (log 143 DESIGN CHOICE) -/
opaque eui64 : BitVec 64

/-- R140: the fused serial number of the module. (log 143 DESIGN CHOICE) -/
opaque serial : BitVec 64

/-- R156: the silicon revision of the carrier logic. (log 143 DESIGN CHOICE) -/
opaque revision : BitVec 8

/-- R208, R209: the moderation settings of a core target, which no register shows, laid out as INTC_TGT_MOD.
(log 54 DESIGN CHOICE) -/
opaque coreMod : Nat → Word

/-- R340, R341: the pole of the first-order filters, over 2^32: any that puts the corner at 0.5 Hz at 8 kS/s, however the filter is made
discrete. (log 92 DESIGN CHOICE) -/
opaque highPole : Fin 700

/-- R340: how far the high-pass filter's gain lies below 1, over 2^32. (log 92 DESIGN CHOICE) -/
opaque highGain : Fin 1687000

/-- R341: the integrator's weight of a sample, over 2^32: any that makes the gain at 50 Hz unity; and how the weight is divided
between a sample and the one before it. (log 92 DESIGN CHOICE) -/
opaque coilGain : Fin 32700
opaque coilSplit : Fin 168660100

/-- R340, R341: which way a filter rounds. (log 92 DESIGN CHOICE) -/
opaque filterRound : Int → Fin 2

/-- R409, R420: the fused transmit latency of port p. (log 143 DESIGN CHOICE) -/
opaque txLat : Nat → BitVec 16

/-- R409, R420: the fused receive latency of port p. (log 143 DESIGN CHOICE) -/
opaque rxLat : Nat → BitVec 16

/-- R562, R565: the fuse that lets debug be opened. (log 143 DESIGN CHOICE) -/
opaque dbgAllow : Bool

/-- The manufacturer's public keys: 0 the image authority, 1 the firmware authority, 2 the debug authority (R140, R562,
R572). (log 143 DESIGN CHOICE) -/
opaque authorityKey : Nat → List Byte

end Sys2Proof.Config
end

