-- ==== Sys2Proof/Machine/RegMap.lean ====
section
/-! DEFINITION. The register map: every register of the chapters with its offset, its fields, their access codes and
their reset values. One row stands for every instance of a register. -/

namespace Sys2Proof.Machine

/-- The access codes of R6. -/
inductive Acc where
  | ro | rw | wo | w1s | w1c | rc | rwl
  deriving DecidableEq, Repr

/-- A field of a register table: its code, its bits [hi:lo] and its reset value. -/
structure RegField where
  acc   : Acc
  hi    : Nat
  lo    : Nat
  reset : Nat
  deriving DecidableEq, Repr

/-- A register and its instances: `n1` instances `s1` bytes apart, each of `n2` registers `s2` bytes apart. -/
structure RegRow where
  base : Nat
  n1   : Nat
  s1   : Nat
  n2   : Nat
  s2   : Nat
  fields : List RegField
  deriving DecidableEq, Repr

/-- One register. -/
def reg1 (base : Nat) (f : List RegField) : RegRow := ⟨base, 1, 4, 1, 4, f⟩

/-- `n` registers `s` bytes apart. -/
def regN (base n s : Nat) (f : List RegField) : RegRow := ⟨base, n, s, 1, 4, f⟩

/-- `n` instances `s` apart of `m` registers `t` apart. -/
def regNN (base n s m t : Nat) (f : List RegField) : RegRow := ⟨base, n, s, m, t, f⟩

/-- A field of each code, reset 0 unless given. -/
def ro (hi lo : Nat) (reset : Nat := 0) : RegField := ⟨.ro, hi, lo, reset⟩
def rw' (hi lo : Nat) (reset : Nat := 0) : RegField := ⟨.rw, hi, lo, reset⟩
def wo (hi lo : Nat) : RegField := ⟨.wo, hi, lo, 0⟩
def w1s (hi lo : Nat) : RegField := ⟨.w1s, hi, lo, 0⟩
def w1c (hi lo : Nat) : RegField := ⟨.w1c, hi, lo, 0⟩
def rc (hi lo : Nat) : RegField := ⟨.rc, hi, lo, 0⟩
def rwl (hi lo : Nat) (reset : Nat := 0) : RegField := ⟨.rwl, hi, lo, reset⟩

/-- A 32-bit RC counter. -/
def cnt : List RegField := [rc 31 0]

/-- The blocks of R31. -/
inductive Block where
  | sys | img | intc | cal | key | upd | drv | chn | mtr | rfx | net | tsu | dma | air | hier | pln | twn | tst
  deriving DecidableEq, Repr

/-- The block whose 64 KiB window holds an offset (R31). -/
def blockOf (off : Nat) : Option Block :=
  match off / 0x10000 with
  | 0x00 => some .sys | 0x01 => some .img | 0x02 => some .intc | 0x03 => some .cal | 0x04 => some .key
  | 0x05 => some .upd | 0x10 => some .drv | 0x11 => some .chn | 0x12 => some .mtr | 0x13 => some .rfx
  | 0x20 => some .net | 0x21 => some .tsu | 0x22 => some .dma | 0x30 => some .air | 0x40 => some .hier
  | 0x41 => some .pln | 0x50 => some .twn | 0xF0 => some .tst
  | _ => none

/-- SYS (R62, R82, R90 to R93, R105, R106, R108). -/
def sysRegs : List RegRow :=
  [reg1 0x000 [wo 1 0, wo 3 2, wo 5 4, wo 7 6, wo 9 8, wo 11 10, wo 23 16],
   reg1 0x004 [ro 1 0 2, ro 3 2, ro 5 4, ro 7 6, ro 9 8, ro 11 10, ro 12 12, ro 13 13, w1c 14 14, ro 15 15, ro 23 16,
     ro 31 24],
   reg1 0x008 [rw' 7 0], reg1 0x00C [rw' 11 0, rw' 23 16], reg1 0x010 [w1c 7 0], reg1 0x014 [wo 1 0],
   reg1 0x018 [w1c 5 0], reg1 0x01C [ro 3 0, ro 4 4, ro 5 5, ro 6 6], reg1 0x020 [ro 15 0, ro 31 16],
   reg1 0x024 [rwl 31 0], reg1 0x400 [ro 4 0, w1c 5 5, ro 10 6], reg1 0x404 [ro 15 0, ro 31 16],
   reg1 0x408 [ro 15 0, ro 31 16], reg1 0x40C cnt]

/-- IMG (R155). -/
def imgRegs : List RegRow :=
  [reg1 0x10000 [wo 2 0], reg1 0x10004 [ro 0 0, ro 1 1, ro 3 2, ro 4 4, ro 5 5, w1c 6 6, ro 7 7, ro 15 8, ro 23 16],
   reg1 0x10008 [rw' 17 2], reg1 0x1000C [wo 31 0], reg1 0x10010 [rw' 17 0], reg1 0x10014 [ro 31 0],
   reg1 0x10018 [ro 31 0], regN 0x10020 8 4 [ro 31 0], reg1 0x10040 [ro 17 0]]

/-- INTC (R199, R202, R216). The eight words of each pending and mask register are eight registers. -/
def intcRegs : List RegRow :=
  [regN 0x20100 8 4 [ro 31 0], regN 0x20120 8 4 [w1s 31 0], regN 0x20140 8 4 [w1c 31 0],
   regN 0x20160 8 4 [w1s 31 0], regN 0x20180 8 4 [w1c 31 0], regN 0x201A0 8 4 [ro 31 0], regN 0x201C0 8 4 [ro 31 0],
   regN 0x201E0 8 4 [rw' 31 0],
   regN 0x20200 2 0x40 [rw' 3 0, rw' 4 4, rw' 5 5, rw' 6 6], regN 0x20204 2 0x40 [rw' 15 0, rw' 23 16, rw' 27 24 15],
   regN 0x20208 2 0x40 [rc 7 0, rc 11 8, rc 16 12, rc 31 31], regN 0x2020C 2 0x40 [wo 7 0],
   regN 0x20210 2 0x40 [ro 3 0, ro 15 8], regN 0x20214 2 0x40 cnt, regN 0x20300 2 4 [ro 3 0, ro 15 8],
   regN 0x20400 256 4 [ro 1 0, rw' 3 2, rw' 7 4, rw' 12 8]]

/-- CAL (R333). -/
def calRegs : List RegRow :=
  [reg1 0x30000 [ro 0 0, ro 1 1, ro 2 2, w1c 3 3, ro 4 4, ro 15 8], reg1 0x30004 [wo 2 0], reg1 0x30008 [rw' 31 0],
   reg1 0x3000C [rw' 15 0], reg1 0x30010 [ro 14 0], reg1 0x30014 [ro 5 0, ro 13 8, ro 20 16, ro 26 24 5],
   reg1 0x30018 [ro 4 0 1, ro 11 8 1, ro 24 16], reg1 0x3001C [ro 31 0], reg1 0x30020 [ro 15 0],
   reg1 0x30030 [rw' 5 0, rw' 13 8, rw' 20 16, rw' 26 24], reg1 0x30034 [rw' 4 0, rw' 11 8, rw' 24 16],
   reg1 0x30038 [rw' 31 0], reg1 0x3003C [rw' 15 0], reg1 0x30040 [rw' 19 0], reg1 0x30044 [rw' 0 0, rw' 1 1, rw' 15 8 16],
   reg1 0x30048 [ro 31 0], reg1 0x3004C [ro 15 0, ro 16 16], reg1 0x30050 cnt, reg1 0x30054 cnt] ++
  [regN 0x30100 2 0x20 [rw' 5 0, rw' 13 8, rw' 20 16, rw' 26 24], regN 0x30104 2 0x20 [rw' 4 0, rw' 11 8, rw' 24 16],
   regN 0x30108 2 0x20 [rw' 0 0, rw' 14 8], regN 0x3010C 2 0x20 [w1c 0 0, ro 1 1, ro 2 2], regN 0x30110 2 0x20 cnt,
   regN 0x31000 64 0x20 [rw' 31 0], regN 0x31004 64 0x20 [rw' 15 0, rw' 31 16 1], regN 0x31008 64 0x20 [rw' 29 0],
   regN 0x3100C 64 0x20 [rw' 3 0, rw' 4 4, rw' 5 5, rw' 15 8], regN 0x31010 64 0x20 [rw' 31 0],
   regN 0x31014 64 0x20 [rw' 31 0], regN 0x31018 64 0x20 [ro 1 0, ro 15 8], regN 0x3101C 64 0x20 [wo 0 0, wo 1 1]]

/-- KEY (R565). -/
def keyRegs : List RegRow :=
  [reg1 0x40000 [ro 0 0, w1c 1 1, ro 2 2, w1c 3 3, ro 4 4, ro 15 8],
   reg1 0x40004 [wo 3 0, wo 10 4, wo 18 12, wo 21 20, wo 28 24], regN 0x40010 4 4 [wo 31 0], regN 0x40020 16 4 [wo 31 0],
   regN 0x40080 16 4 [ro 31 0], reg1 0x40100 [w1s 0 0, w1s 1 1], reg1 0x40104 [ro 2 0, ro 6 4, ro 15 8],
   reg1 0x40108 [ro 31 0], reg1 0x4010C [ro 0 0, ro 1 1], regN 0x40400 128 8 [ro 1 0, ro 3 2, ro 8 4, ro 9 9, ro 16 10,
     ro 19 17], regN 0x40404 128 8 [ro 7 0, ro 15 8]]

/-- UPD (R589). -/
def updRegs : List RegRow :=
  [reg1 0x50000 [wo 2 0], reg1 0x50004 [ro 0 0, ro 2 1, ro 4 3, ro 5 5, w1c 6 6, w1c 7 7, ro 9 8, ro 10 10, ro 23 16,
     ro 31 24], reg1 0x50008 [rw' 17 2], reg1 0x5000C [wo 31 0], reg1 0x50010 [rw' 17 0], reg1 0x50014 [ro 23 0],
   reg1 0x50018 [ro 31 0], reg1 0x5001C [ro 31 0], reg1 0x50020 [ro 16 0], reg1 0x50024 [ro 3 0, ro 5 4],
   reg1 0x50028 [ro 15 0, ro 31 16]]

/-- DRV (R253), channel n at n times 0x100. -/
def drvRegs : List RegRow :=
  [regN 0x100000 64 0x100 [rw' 15 0], regN 0x100004 64 0x100 [rw' 15 0 0xFFFF, rw' 16 16 1],
   regN 0x100008 64 0x100 [rwl 0 0, rwl 1 1, rwl 4 2, rwl 17 6, rwl 29 18], regN 0x10000C 64 0x100 [rwl 15 0, rwl 31 16],
   regN 0x100010 64 0x100 [ro 15 0], regN 0x100014 64 0x100 [ro 15 0, ro 17 16], regN 0x100018 64 0x100 [ro 15 0],
   regN 0x10001C 64 0x100 [ro 3 0, ro 8 4, ro 11 9], regN 0x100020 64 0x100 [w1c 7 0],
   regN 0x100024 64 0x100 [rw' 3 0 2, rw' 4 4, rw' 15 8 10, rw' 23 16 60, rw' 31 24 0x7F],
   regN 0x100028 64 0x100 [wo 0 0, wo 1 1, wo 2 2], regN 0x10002C 64 0x100 [ro 15 0, ro 31 16],
   regN 0x100030 64 0x100 [rc 7 0, rc 15 8, rc 23 16, rc 31 24]]

/-- CHN (R273), port k at k times 0x1000. -/
def chnRegs : List RegRow :=
  [regN 0x110000 4 0x1000 [rwl 0 0, rwl 1 1, rwl 2 2, rwl 15 8, rwl 18 16], regN 0x110004 4 0x1000 [rwl 15 0, rwl 31 16],
   regN 0x110008 4 0x1000 [rwl 15 0], regN 0x11000C 4 0x1000 [rw' 4 0 4], regN 0x110010 4 0x1000 [wo 0 0, wo 1 1],
   regN 0x110014 4 0x1000 [ro 3 0, ro 15 8, ro 26 16], regN 0x110018 4 0x1000 [w1c 4 0],
   regN 0x11001C 4 0x1000 [rw' 4 0 0x0F], regN 0x110020 4 0x1000 [ro 12 0, ro 23 16], regN 0x110024 4 0x1000 cnt,
   regN 0x110028 4 0x1000 [rc 7 0, rc 15 8, rc 23 16], regNN 0x110400 4 0x1000 128 8 [ro 31 0],
   regNN 0x110404 4 0x1000 128 8 [ro 15 0], regNN 0x110800 4 0x1000 128 8 [rw' 31 0],
   regNN 0x110804 4 0x1000 128 8 [rw' 15 0]]

/-- MTR (R369), point p at 0x1000 + p times 0x80. -/
def mtrRegs : List RegRow :=
  [reg1 0x120000 [ro 0 0, ro 1 1, ro 2 2, ro 5 3 7, w1c 6 6], reg1 0x120004 [w1c 3 0], reg1 0x120008 [rw' 3 0 3],
   reg1 0x12000C [wo 0 0, wo 1 1, wo 14 8], reg1 0x120010 [ro 7 0], regN 0x120020 6 4 cnt, reg1 0x120040 [ro 31 0],
   reg1 0x120044 [ro 15 0], reg1 0x120048 [ro 29 0], reg1 0x12004C [ro 31 0], regN 0x120100 32 4 [ro 31 0],
   regN 0x120200 4 0x10 [rw' 7 0 30], regN 0x120204 4 0x10 [ro 31 0], regN 0x120208 4 0x10 [ro 31 0],
   regN 0x12020C 4 0x10 cnt] ++
  [regN 0x121000 128 0x80 [rwl 2 0, rwl 15 8, rwl 23 16, rwl 24 24, rwl 31 31], regN 0x121004 128 0x80 [rwl 31 0],
   regN 0x121008 128 0x80 [rwl 7 0, rwl 9 8, rwl 31 16], regN 0x12100C 128 0x80 [rw' 15 0, rw' 31 16],
   regNN 0x121010 128 0x80 10 4 [ro 31 0], regN 0x121038 128 0x80 [ro 31 0], regN 0x12103C 128 0x80 [ro 15 0, ro 31 16],
   regN 0x121040 128 0x80 [ro 31 0], regN 0x121044 128 0x80 [w1c 0 0, w1c 1 1]]

/-- RFX (R303). -/
def rfxRegs : List RegRow :=
  [reg1 0x130000 [ro 0 0, ro 26 16], reg1 0x130004 [rw' 31 0], reg1 0x130008 [wo 31 0], reg1 0x13000C [wo 31 0],
   reg1 0x130010 [rw' 31 0 0xFFFFFFFF], reg1 0x130014 [rw' 31 0 0xFFFFFFFF], regN 0x130040 6 4 cnt,
   reg1 0x130060 [ro 9 0, ro 19 10, ro 25 20, ro 26 26], regN 0x130100 40 4 [rwl 0 0 1, rwl 1 1],
   regN 0x130200 8 4 [ro 15 0, ro 16 16], regN 0x130300 64 4 [ro 0 0, ro 1 1, ro 15 8],
   regN 0x130400 64 4 [ro 25 0, ro 31 31], regN 0x130500 32 4 [rw' 31 0 0xFFFFFFFF],
   regNN 0x138000 1024 0x20 6 4 [rwl 31 0], regN 0x138018 1024 0x20 [ro 0 0, ro 1 1], regN 0x13801C 1024 0x20 []]

/-- NET (R397, R490): port p at p times 0x1000, the switch cluster at 0x4000. -/
def netRegs : List RegRow :=
  [regN 0x200000 4 0x1000 [rwl 1 0, rwl 3 2, rwl 4 4, rwl 6 5, rwl 7 7, rwl 8 8],
   regN 0x200004 4 0x1000 [rwl 15 0, rwl 23 16], regN 0x200008 4 0x1000 [rw' 0 0 1, wo 1 1],
   regN 0x20000C 4 0x1000 [ro 6 0], regN 0x200010 4 0x1000 [w1c 3 0], regN 0x200014 4 0x1000 [rw' 13 0 512],
   regN 0x200018 4 0x1000 [rw' 15 0 1000], regNN 0x200100 4 0x1000 15 4 cnt, regNN 0x200200 4 0x1000 8 4 [rw' 13 0 1024],
   regNN 0x200220 4 0x1000 8 4 [ro 13 0], regNN 0x200240 4 0x1000 8 4 cnt] ++
  [regN 0x204000 4 4 [rwl 11 0, rwl 14 12], reg1 0x204010 [ro 15 0], reg1 0x204014 [rw' 7 0 50],
   reg1 0x204018 [rw' 15 0 1000], reg1 0x20401C [ro 11 0, ro 29 16 8192], reg1 0x204020 [ro 31 0], reg1 0x204024 [ro 15 0],
   regN 0x204040 8 4 cnt, reg1 0x204080 cnt]

/-- TSU (R420). -/
def tsuRegs : List RegRow :=
  [reg1 0x210000 [ro 31 0], reg1 0x210004 [rw' 0 0], reg1 0x210008 [rw' 31 0 0x40000000], reg1 0x21000C [rw' 31 0],
   reg1 0x210010 [wo 2 0], reg1 0x210014 [ro 0 0, ro 1 1, ro 15 8], reg1 0x210018 [ro 31 0], reg1 0x210020 [rw' 31 0],
   reg1 0x210024 [rw' 29 0], reg1 0x210028 [rw' 31 0], reg1 0x21002C [rw' 15 0], reg1 0x210030 [rw' 6 0 32],
   reg1 0x210034 [wo 5 0], reg1 0x210038 [ro 6 0, ro 22 16], regN 0x210040 4 4 cnt, regN 0x210100 4 0x10 [rw' 0 0],
   regN 0x210104 4 0x10 [rw' 15 0, rw' 31 16], regN 0x211000 64 8 [ro 31 0],
   regN 0x211004 64 8 [ro 1 0, ro 4 2, ro 5 5, ro 6 6, ro 7 7, ro 27 16]]

/-- DMA (R190), ring r at 0x100 + r times 0x40. -/
def dmaRegs : List RegRow :=
  [reg1 0x220000 [rw' 0 0], reg1 0x220004 [ro 0 0, ro 7 4], reg1 0x220008 cnt, regN 0x220100 4 0x40 [rw' 31 0],
   regN 0x220104 4 0x40 [rw' 31 0], regN 0x220108 4 0x40 [rw' 0 0, rw' 4 1 4, rw' 31 16 10], regN 0x22010C 4 0x40 [ro 11 0],
   regN 0x220110 4 0x40 [rw' 11 0], regN 0x220114 4 0x40 [ro 0 0, ro 2 1], regNN 0x220118 4 0x40 4 4 cnt]

/-- AIR (R452): radio r at r times 0x1000, common at 0x4000, leases at 0x8000, the cell window at 0xC000. -/
def airRegs : List RegRow :=
  [regN 0x300000 4 0x1000 [rw' 0 0 1, rw' 12 8 10], regN 0x300004 4 0x1000 [rw' 15 0, rw' 16 16, rw' 31 31],
   regN 0x300008 4 0x1000 [ro 1 0 3, ro 2 2, ro 3 3, ro 4 4, ro 15 8], regN 0x30000C 4 0x1000 [ro 31 0],
   regN 0x300010 4 0x1000 [ro 7 0], regN 0x300014 4 0x1000 [w1c 6 0], regN 0x300018 4 0x1000 [rw' 6 0 0x3F],
   regNN 0x300100 4 0x1000 8 0x10 [rwl 15 0, rwl 31 16], regNN 0x300104 4 0x1000 8 0x10 [rwl 13 0, rwl 29 16],
   regNN 0x300108 4 0x1000 8 0x10 [rwl 1 0, rwl 2 2, ro 26 16, rwl 31 31],
   regNN 0x30010C 4 0x1000 8 0x10 [rwl 15 0, ro 23 16], regNN 0x300200 4 0x1000 14 4 cnt] ++
  [reg1 0x304000 [rw' 15 0 3600, rw' 31 16 30], reg1 0x304004 [rw' 7 0 60, rw' 10 8 3], reg1 0x304008 [ro 31 0],
   reg1 0x30400C [ro 15 0], reg1 0x304010 [rw' 1 0], reg1 0x304018 [ro 31 0], reg1 0x30401C [ro 31 0],
   regN 0x304040 5 4 cnt, regN 0x308000 1024 16 [rw' 31 0], regN 0x308004 1024 16 [rw' 31 0],
   regN 0x308008 1024 16 [ro 2 0, ro 3 3, ro 4 4, ro 6 5, ro 9 8, ro 31 16], regN 0x30800C 1024 16 [ro 31 0],
   regN 0x30C000 2048 8 [rwl 15 0, rwl 23 16, rwl 31 24], regN 0x30C004 2048 8 [rwl 15 0, rwl 17 16, rwl 20 18, rwl 31 31]]

/-- HIER (R489). -/
def hierRegs : List RegRow :=
  [reg1 0x400000 [rwl 1 0 3, rwl 14 8, rwl 22 16], reg1 0x400004 [ro 0 0, ro 15 8, ro 23 16, ro 31 24],
   reg1 0x400008 [rw' 7 0 100, rw' 11 8 3, rw' 15 12 2, rw' 31 16 2500], reg1 0x40000C [rw' 15 0 512, ro 31 16],
   reg1 0x400010 [rw' 13 0 256, ro 29 16], reg1 0x400014 [ro 7 0, ro 15 8, ro 23 16], regN 0x400020 4 4 [ro 31 0],
   regN 0x400030 4 4 [ro 31 0], reg1 0x400080 [rw' 31 0],
   reg1 0x400084 [rw' 7 0, rw' 8 8 1, rw' 11 10, rw' 13 12, rw' 14 14, rw' 15 15, rw' 31 16], reg1 0x400088 [rw' 31 0],
   reg1 0x40008C [rw' 15 0, rw' 31 16 1], reg1 0x400090 [rw' 29 0], regN 0x400094 2 4 [rw' 31 0], reg1 0x40009C [wo 0 0],
   reg1 0x4000A0 [ro 5 0, ro 15 8], reg1 0x4000A4 [wo 5 0]] ++
  [reg1 0x4000B0 [ro 15 0, ro 16 16, w1c 17 17], reg1 0x4000B4 [ro 31 0], regN 0x400100 10 4 cnt,
   regN 0x400400 64 0x40 [ro 1 0, ro 15 8, ro 31 16], regNN 0x400404 64 0x40 9 4 [ro 31 0],
   regN 0x401000 2048 8 [rwl 2 0, rwl 7 7, rwl 15 8, rwl 31 16], regN 0x401004 2048 8 [rwl 15 0]]

/-- PLN (R519). -/
def plnRegs : List RegRow :=
  [reg1 0x410000 [rw' 0 0 1, rw' 15 8 1, rw' 31 16 100], reg1 0x410004 [rw' 6 0 64, rw' 31 16 60],
   reg1 0x410008 [rw' 13 0 1024, rw' 18 16 7], reg1 0x41000C [rwl 8 0, rwl 26 16], reg1 0x410010 [ro 0 0, ro 30 16],
   regN 0x410040 11 4 cnt, regN 0x411000 1024 8 [rwl 7 0, rwl 15 8, rwl 17 16, rwl 18 18, rwl 23 19, rwl 31 31],
   regN 0x411004 1024 8 [rwl 31 0]]

/-- TWN (R544). -/
def twnRegs : List RegRow :=
  [reg1 0x500000 [ro 0 0, ro 3 1, ro 6 4, ro 7 7, ro 8 8, ro 9 9, ro 23 16], reg1 0x500004 [wo 1 0, wo 2 2],
   reg1 0x500008 [rw' 3 0 4, rw' 7 4 3, rw' 15 8 60, rw' 31 16 250], reg1 0x50000C [ro 31 0], reg1 0x500010 [ro 31 0],
   reg1 0x500014 [ro 3 0], reg1 0x500018 [ro 3 0], reg1 0x50001C [ro 31 0], reg1 0x500020 [ro 31 0],
   reg1 0x500024 [ro 7 0, ro 15 8], reg1 0x500028 [ro 7 0, ro 15 8], regN 0x500040 11 4 cnt, regN 0x500100 16 4 [ro 31 0]]

/-- TST (R602). -/
def tstRegs : List RegRow :=
  [reg1 0xF00000 [wo 31 0], reg1 0xF00004 [ro 0 0, ro 1 1, ro 27 16], reg1 0xF00008 [rw' 11 0 600, wo 31 31],
   regN 0xF00100 16 0x10 [rw' 0 0, rw' 5 1, rw' 15 8], regN 0xF00104 16 0x10 [rw' 15 0, rw' 31 16],
   regN 0xF00108 16 0x10 [rw' 15 0, rw' 31 16], regN 0xF0010C 16 0x10 [rc 15 0, ro 16 16]]

/-- The registers of a block. -/
def blockRegs : Block → List RegRow
  | .sys => sysRegs | .img => imgRegs | .intc => intcRegs | .cal => calRegs | .key => keyRegs | .upd => updRegs
  | .drv => drvRegs | .chn => chnRegs | .mtr => mtrRegs | .rfx => rfxRegs | .net => netRegs | .tsu => tsuRegs
  | .dma => dmaRegs | .air => airRegs | .hier => hierRegs | .pln => plnRegs | .twn => twnRegs | .tst => tstRegs

/-- Whether the row holds a register at the offset. -/
def RegRow.covers (r : RegRow) (off : Nat) : Bool :=
  let d := off - r.base
  let e := d % r.s1
  decide (r.base ≤ off) && decide (d / r.s1 < r.n1) && decide (e / r.s2 < r.n2) && decide (e % r.s2 = 0)

/-- The row that describes the register at an offset; none where R32 holds. -/
def regRow? (off : Nat) : Option RegRow :=
  match blockOf off with
  | some b => (blockRegs b).find? (fun r => r.covers off)
  | none => none

/-- The bits [hi:lo]. -/
def bitMask (hi lo : Nat) : Nat := 2 ^ (hi + 1) - 2 ^ lo

/-- The interrupt sources (R196): kind L or not, reset PRIO, reset VECTOR; none where the source is reserved. -/
def srcInfo (n : Nat) : Option (Bool × Nat × Nat) :=
  if n = 0 then some (false, 8, 0) else if n ≤ 2 then some (true, 12, 0) else if n = 3 then some (true, 8, 0)
  else if n = 4 then some (false, 2, 0) else if n = 5 then some (true, 6, 0) else if n = 6 then some (true, 4, 0)
  else if n = 7 then some (false, 4, 0) else if n ≤ 10 then some (false, 6, 6) else if n = 11 then some (true, 4, 6)
  else if n = 12 then some (false, 15, 7) else if n = 13 then some (false, 4, 7) else if n ≤ 15 then some (false, 4, 8)
  else if n ≤ 19 then some (false, 4, n - 15) else if n ≤ 23 then some (true, 12, 5)
  else if n = 24 then some (false, 8, 5) else if n ≤ 31 then none else if n ≤ 95 then some (true, 10, 9)
  else if n ≤ 99 then some (true, 10, 10) else if n ≤ 103 then some (false, 2, 10) else if n = 104 then some (false, 8, 11)
  else if n = 105 then some (true, 10, 11) else if n = 106 then some (false, 4, 11) else if n ≤ 111 then none
  else if n = 112 then some (false, 2, 12) else if n = 113 then some (false, 4, 12) else if n = 114 then some (true, 8, 12)
  else if n = 115 then none else if n ≤ 123 then some (false, 8, 13) else if n = 124 then some (false, 4, 13)
  else if n ≤ 127 then none else if n = 128 then some (false, 4, 14) else if n ≤ 130 then some (false, 6, 14)
  else if n = 131 then none else if n ≤ 135 then some (false, 4, 15) else if n ≤ 139 then some (true, 8, 15)
  else if n ≤ 143 then some (false, 6, 15) else if n = 144 then some (false, 6, 16) else if n = 145 then some (false, 8, 16)
  else if n ≤ 148 then some (false, 6, 16) else if n = 149 then some (true, 10, 16) else if n = 150 then some (false, 4, 16)
  else if n = 151 then none else if n = 152 then some (false, 4, 17) else if n = 153 then some (false, 8, 17)
  else if n = 154 then some (false, 4, 17) else if n ≤ 159 then none else if n = 160 then some (false, 12, 18)
  else if n = 161 then some (true, 14, 18) else if n = 162 then some (false, 10, 18) else if n = 163 then some (false, 12, 18)
  else if n ≤ 167 then none else if n = 168 then some (true, 2, 19) else if n ≤ 223 then none
  else if n ≤ 255 then some (false, 0, 31) else none

/-- Whether a source is not reserved (R197). -/
def srcDefined (n : Nat) : Bool := (srcInfo n).isSome

/-- Whether a source is of kind L (R196). -/
def srcLevel (n : Nat) : Bool := match srcInfo n with | some (l, _, _) => l | none => false

/-- The non-reserved sources 32k to 32k + 31, source 32k + i in bit i (R197). -/
def srcWord (k : Nat) : Nat :=
  (List.range 32).foldl (fun m i => if srcDefined (32 * k + i) then m + 2 ^ i else m) 0

/-- The pending and mask words of INTC. -/
def isSrcWordReg (off : Nat) : Bool := decide (0x20100 ≤ off) && decide (off < 0x20200)

/-- INTC_SRC_CFG. -/
def isSrcCfgReg (off : Nat) : Bool := decide (0x20400 ≤ off) && decide (off < 0x20800)

/-- The bits of the register at `off` that `p` selects by their access code; a reserved source has none (R197). -/
def accMask (p : Acc → Bool) (off : Nat) : Nat :=
  match regRow? off with
  | none => 0
  | some r =>
    let m := r.fields.foldl (fun m f => if p f.acc then m ||| bitMask f.hi f.lo else m) 0
    if isSrcWordReg off then m &&& srcWord ((off / 4) % 8)
    else if isSrcCfgReg off && !srcDefined ((off - 0x20400) / 4) then 0 else m

/-- The bits that are not reserved (R7). -/
def definedMask (off : Nat) : Nat := accMask (fun _ => true) off

/-- The bits that read back: all but WO. -/
def readMask (off : Nat) : Nat := accMask (fun a => decide (a ≠ .wo)) off

/-- The reset value of the register at `off`: the Reset column of its table, or what the column refers to. -/
def regReset (off : Nat) : Word :=
  match regRow? off with
  | none => 0
  | some r =>
    if isSrcCfgReg off then
      match srcInfo ((off - 0x20400) / 4) with
      | some (_, prio, vec) => BitVec.ofNat 32 (prio * 16 + vec * 256)
      | none => 0
    else if (0x20160 ≤ off ∧ off < 0x201A0) ∨ (0x201C0 ≤ off ∧ off < 0x201E0) then BitVec.ofNat 32 (srcWord ((off / 4) % 8))
    else if off = 0x302000 ∨ off = 0x303000 then BitVec.ofNat 32 (1 + 14 * 256)
    else if off = 0x204020 then Config.macAddr.setWidth 32
    else if off = 0x204024 then (Config.macAddr >>> 32).setWidth 32
    else if off = 0x304018 then Config.eui64.setWidth 32
    else if off = 0x30401C then (Config.eui64 >>> 32).setWidth 32
    else if off = 0x4010C then (if Config.dbgAllow then 1 else 0)
    else if 0x210100 ≤ off ∧ off < 0x210140 ∧ off % 0x10 = 4 then
      (Config.rxLat ((off - 0x210100) / 0x10) ++ Config.txLat ((off - 0x210100) / 0x10))
    else BitVec.ofNat 32 (r.fields.foldl (fun m f => m ||| (f.reset * 2 ^ f.lo)) 0)

/-- The registers that hold storage of another name: the clear addresses of INTC are the same bits as the set ones
(R202). -/
def regHome (off : Nat) : Nat :=
  if 0x20140 ≤ off ∧ off < 0x20160 then off - 0x20
  else if 0x20180 ≤ off ∧ off < 0x201A0 then off - 0x20
  else off

end Sys2Proof.Machine
end

