-- ==== Sys2Proof/Machine/Tab.lean ====
section
/-! DEFINITION. Sparse tables in canonical form: reading, writing and clearing. -/

namespace Sys2Proof.Machine

/-- What key `k` reads as: its entry, or the default `d k` where it has none. -/
def tabGet {α : Type} (d : Nat → α) : Tab α → Nat → α
  | [], k => d k
  | (k', v) :: t, k => if k' = k then v else tabGet d t k

/-- The table less every entry of key `k`. -/
def tabErase {α : Type} : Tab α → Nat → Tab α
  | [], _ => []
  | (k', v) :: t, k => if k' = k then tabErase t k else (k', v) :: tabErase t k

/-- The entry `(k, v)` in its place in the rising order of keys. -/
def tabInsert {α : Type} : Tab α → Nat → α → Tab α
  | [], k, v => [(k, v)]
  | (k', v') :: t, k, v => if k < k' then (k, v) :: (k', v') :: t else (k', v') :: tabInsert t k v

/-- Writes `v` at `k`; writing the default removes the entry, so that equal tables are equal lists. -/
def tabSet {α : Type} [DecidableEq α] (d : Nat → α) (t : Tab α) (k : Nat) (v : α) : Tab α :=
  if v = d k then tabErase t k else tabInsert (tabErase t k) k v

/-- Writes `v i` at every key `base + i` with `i < n`, the last first. -/
def tabFill {α : Type} [DecidableEq α] (d : Nat → α) (v : Nat → α) (base : Nat) : Nat → Tab α → Tab α
  | 0, t => t
  | n + 1, t => tabSet d (tabFill d v base n t) (base + n) (v n)

/-- Writes the list `vs` at the keys from `base` on. -/
def tabPut {α : Type} [DecidableEq α] (d : Nat → α) (t : Tab α) (base : Nat) : List α → Tab α
  | [] => t
  | v :: vs => tabPut d (tabSet d t base v) (base + 1) vs

/-- Returns every key that `p` selects to its default. -/
def tabClear {α : Type} (p : Nat → Bool) (t : Tab α) : Tab α := t.filter (fun e => !p e.1)

/-- The values of `n` keys from `base` on. -/
def tabRange {α : Type} (d : Nat → α) (t : Tab α) (base n : Nat) : List α :=
  (List.range n).map (fun i => tabGet d t (base + i))

/-- The canonical form: keys strictly rising from `lo`, and no entry equal to its default. -/
def tabWfFrom {α : Type} [DecidableEq α] (d : Nat → α) : Nat → Tab α → Bool
  | _, [] => true
  | lo, (k, v) :: t => decide (lo ≤ k) && decide (v ≠ d k) && tabWfFrom d (k + 1) t

/-- The canonical form of a table. -/
def tabWf {α : Type} [DecidableEq α] (d : Nat → α) (t : Tab α) : Bool := tabWfFrom d 0 t

end Sys2Proof.Machine
end

