-- ==== Sys2Proof/Syntax.lean ====
section
/-! DEFINITION. The commands the block takes: the ONE inductive Instr, a constructor for every row of
spec/opcode_table.json, in the table's order, and the operand types they carry.

A command carries what comes from outside the block: an address and a value written by the host, the contents of a
received frame, a measured quantity, the copy one twin issues, the number of clock counts that have passed. -/

namespace Sys2Proof

/-- The two routes to the registers (R34, R159, R167). -/
inductive Route where
  | pcie | qspi
  deriving DecidableEq, Repr

/-- The windows onto the module: the registers, by a route, and the 256 MiB of BAR2 (R31, R160). -/
inductive Window where
  | regs (r : Route)
  | bar2
  deriving DecidableEq, Repr

/-- The two controller dies (R24). -/
inductive Twin where
  | a | b
  deriving DecidableEq, Repr

/-- The other twin. -/
def Twin.other : Twin → Twin
  | .a => .b
  | .b => .a

/-- Who issued a staging operation (R154, R575). -/
inductive Party where
  | host | hier | recovery
  deriving DecidableEq, Repr

/-- Whose a transmit stamp is: the host's or firmware's (R410, R411). -/
inductive Owner where
  | host | firmware
  deriving DecidableEq, Repr

/-- How the twins' copies of a firmware word meet at the key port or the control port in one step (R28, R405, R527): both
equal; different, the word being the read-source twin's; or one twin's alone. -/
inductive Copies where
  | equal | differ | alone (t : Twin)
  deriving DecidableEq, Repr

/-- Who issued a calendar, TSU or schedule command (R313, R325, R401). -/
inductive Issuer where
  | host | firmware (c : Copies)
  deriving DecidableEq, Repr

/-- Who writes a register: the host by a route, or firmware by the control port (R4, R28). -/
inductive Writer where
  | host (r : Route) | control (c : Copies)
  deriving DecidableEq, Repr

/-- The wake sources, in the bit order of SYS_WAKE_MASK (R92). -/
inductive WakeSrc where
  | prs | alm0 | alm1 | sched | net | air | j1 | intc
  deriving DecidableEq, Repr

/-- Start-up stages (R102). -/
inductive Stage where
  | aon | ref | safe | rom | img | fw | ready | recovery | haltTamper
  deriving DecidableEq, Repr

/-- Interrupt targets (R193). -/
inductive Target where
  | cp0 | cp1 | h0 | h1
  deriving DecidableEq, Repr

/-- The two host targets, which alone hold claims (R204). -/
inductive HostTgt where
  | h0 | h1
  deriving DecidableEq, Repr

/-- A reference as it reaches a slice (R224). `ms`: RAMP counts milliseconds; `log`: logarithmic shape.
`src`: 0 safe level, 1 twins, 2 fabric. -/
structure Ref where
  code : BitVec 16
  ramp : BitVec 16
  ms   : Bool
  log  : Bool
  src  : BitVec 2
  deriving DecidableEq, Repr

/-- What the mitre pairs between the twins: a channel reference, or the word of a chain position (R526). -/
inductive MitreItem where
  | ref (ch : Nat) (r : Ref)
  | word (port pos : Nat) (w : BitVec 48)
  deriving DecidableEq, Repr

/-- What the mitre pairs by: the channel, or the port and position (R526). -/
inductive MitreKey where
  | ch (n : Nat)
  | pos (port pos : Nat)
  deriving DecidableEq, Repr

/-- A twin's copy as it reaches the mitre, with the step in which the twin issued it (R526). -/
structure MitreCopy where
  item : MitreItem
  step : BitVec 64
  deriving DecidableEq, Repr

/-- A deadline at the mitre: what it pairs by, and the issuing step (R526). -/
structure MitreWait where
  key  : MitreKey
  step : BitVec 64
  deriving DecidableEq, Repr

/-- What a twin's digest of a step is taken over (R524): its outputs of the step in order of issue, and the state word. -/
structure StepOut where
  outputs : List Byte
  word    : BitVec 64
  deriving DecidableEq, Repr

/-- The key of an item. -/
def MitreItem.key : MitreItem → MitreKey
  | .ref ch _ => .ch ch
  | .word k d _ => .pos k d

/-- The settings of the PCI Express function's configuration space that a host writes (R156, R158 to R160, R163, R164), laid out as
PCI Express has them, each with the value a reset of the function leaves. -/
structure PciCfg where
  /-- The power state is D3hot; Bus Master Enable; Memory Space Enable. -/
  d3hot     : Bool := false
  busMaster : Bool := false
  memSpace  : Bool := false
  /-- BAR0: address bits [31:24] of a window of 16 MiB (R159). -/
  bar0      : BitVec 8 := 0
  /-- BAR2 with BAR3: address bits [63:28] of a window of 256 MiB (R160). -/
  bar2      : BitVec 36 := 0
  /-- The programmed Max_Payload_Size and Max_Read_Request_Size, as 128 bytes times a power of two. -/
  maxPayload : BitVec 3 := 0
  maxRead   : BitVec 3 := 2
  /-- ASPM L1 is enabled. -/
  aspmL1    : Bool := false
  /-- MSI: MSI Enable, the logarithm of the granted vector count, the address, Message Data, the Mask Bits. -/
  msiEnable : Bool := false
  mme       : BitVec 3 := 0
  msgAddr   : BitVec 64 := 0
  msgData   : BitVec 16 := 0
  vecMask   : BitVec 32 := 0
  /-- Advanced Error Reporting: the uncorrectable errors masked and fatal, and the correctable errors masked. -/
  uncMask   : BitVec 32 := 0
  uncSever  : BitVec 32 := 0x00462030
  corMask   : BitVec 32 := 0x00002000
  deriving DecidableEq, Repr

/-- A descriptor as the host posts it (R176); `ctrl` holds the CTRL bits as the host wrote them. -/
structure Desc where
  addr  : BitVec 64
  len   : BitVec 16
  ctrl  : BitVec 16
  meta0 : BitVec 64
  deriving DecidableEq, Repr

/-- Data bound for the host from the twins: a received frame (ring 1) or a plane block (ring 2), with the metadata
of R177. -/
structure HostItem where
  bytes : List Byte
  raw   : Word
  port  : BitVec 2
  vid   : BitVec 12
  pcp   : BitVec 3
  step  : Word
  deriving DecidableEq, Repr

/-- The spline tag (R380). -/
structure SplineTag where
  origin : BitVec 16
  stream : BitVec 3
  hops   : BitVec 8
  seq    : Word
  step   : Word
  first  : Bool
  tcrc   : BitVec 16
  deriving DecidableEq, Repr

/-- A received Ethernet frame. `len` is the length from destination address to FCS (R377); `vlan` the 802.1Q
identifier and PCP, if tagged; `payload` the bytes after the EtherType, less any spline tag. -/
structure EthFrame where
  dst     : BitVec 48
  src     : BitVec 48
  vlan    : Option (BitVec 12 × BitVec 3)
  etype   : BitVec 16
  len     : Nat
  fcsOk   : Bool
  tag     : Option SplineTag
  payload : List Byte
  deriving DecidableEq, Repr

/-- R379: a PTP frame: EtherType 0x88F7, or UDP over IPv4 to port 319 or 320. -/
def EthFrame.ptp (f : EthFrame) : Bool :=
  let b := fun i => ((f.payload.getD i 0).toNat)
  let port := b (4 * (b 0 % 16) + 2) * 256 + b (4 * (b 0 % 16) + 3)
  decide (f.etype = 0x88F7) || (decide (f.etype = 0x0800) && decide (b 9 = 17) && (decide (port = 319) || decide (port = 320)))

/-- R379: bytes of a frame without a VLAN tag, from its destination address: a PTP frame, or a MAC control frame. -/
def ptpBytes (b : List Byte) : Bool :=
  let x := fun i => ((b.getD i 0).toNat)
  let type := x 12 * 256 + x 13
  let udp := 14 + 4 * (x 14 % 16)
  let port := x (udp + 2) * 256 + x (udp + 3)
  decide (type = 0x88F7) || (decide (type = 0x0800) && decide (x 23 = 17) && (decide (port = 319) || decide (port = 320)))
def macBytes (b : List Byte) : Bool := decide ((b.getD 12 0).toNat * 256 + (b.getD 13 0).toNat = 0x8808)

/-- A frame the twins hand to the transmit merge (R387): egress port, queue, destination, launch time,
the stamp wanted and by whom, with the descriptor index or firmware tag of the stamp (R410, R417, R420), and the length
on the wire from destination address to FCS. -/
structure TxHead where
  port   : BitVec 3
  queue  : BitVec 3
  dst    : BitVec 48
  sync   : Bool
  launch : Option Word
  stamp  : Option (Owner × BitVec 12)
  fromFtx : Bool
  len    : Nat
  deriving DecidableEq, Repr

/-- An upset in one twin's metering datapath: the bits that flip in its results for a point (R350): in the accumulators and the
pulse count; in each sample energy; in the sums of the second, of energy, voltage, current and frequency. -/
structure MeterUpset where
  twin  : Twin
  point : Nat
  imp   : BitVec 96
  exp   : BitVec 96
  s0    : Word
  es    : List (BitVec 64) := []
  sums  : List (BitVec 128) := []
  deriving DecidableEq, Repr

/-- What a step brings the metering datapaths beside the island's samples and pulses (R335, R336): the four instants of the
channel slices, each with the voltage in µV and the current in nA of channels 0 to 63; the channels with a sample at full
scale; and the upsets of the step. -/
structure MeterStep where
  chan   : List (List (Int × Int))
  clip   : List (Fin 64)
  upsets : List MeterUpset
  deriving DecidableEq, Repr

/-- What firmware's control word carries beside TSU_ANCHOR_SEC_HI (R405, R406): TSU_ANCHOR_RAW, _NS and _SEC_LO, and the
TSU_INCR that holds from the same cycle. -/
structure FwAnchor where
  raw   : Word
  ns    : Word
  secLo : Word
  incr  : Word
  deriving DecidableEq, Repr

/-- The kinds of metering save (R355). -/
inductive SaveKind where
  | periodic | final | reset | host
  deriving DecidableEq, Repr

/-- The 32-byte hierarchy header (R457) less VER, MTYPE, LEN and HCRC, which the receiving port has checked. -/
structure HierHdr where
  ackReq : Bool
  down   : Bool
  scope  : BitVec 2
  own    : BitVec 2
  sched  : Bool
  fine   : Bool
  issuer : BitVec 16
  sender : BitVec 16
  epoch  : BitVec 8
  result : BitVec 8
  cmdId  : BitVec 16
  epa    : Word
  tSec   : BitVec 48
  grace  : BitVec 16
  tNs    : Word
  deriving DecidableEq, Repr

/-- The body of an ACK (R470). -/
structure AckBody where
  counts   : List Nat
  expected : Nat
  missing  : Nat
  mapped   : BitVec 128
  deriving DecidableEq, Repr

/-- Who sent a radio frame: a leased short address (slot), or an extended address (R440). -/
inductive RadioSrc where
  | slot (s : Nat)
  | eui (e : BitVec 64)
  deriving DecidableEq, Repr

/-- A received Querad frame (R443 to R445): the radio, the sender, the frame counter, the MAC sequence number,
whether the MIC verified, and the reception figures passed to the twins (R444). -/
structure RadioRx where
  radio : Fin 4
  src   : RadioSrc
  fc    : Word
  mseq  : BitVec 8
  micOk : Bool
  qseq  : BitVec 8
  asn   : BitVec 40
  chan  : Nat
  off   : Int
  rssi  : Int
  lqi   : BitVec 8
  deriving DecidableEq, Repr

/-- Where a radio frame goes: a short address, 0xFFFF the broadcast, or an extended address (R440). -/
inductive RadioDst where
  | short (a : BitVec 16)
  | ext (e : BitVec 64)
  deriving DecidableEq, Repr

/-- A radio frame the twins issue (R437): its destination, the Querad message (R445), the length of its PSDU, and the sequence
number of the spline tag by which the tile pairs its copies, which is never sent. -/
structure RadioTx where
  dst : RadioDst
  msg : List Byte
  len : Nat
  tag : Word
  deriving DecidableEq, Repr

/-- A DATA item (R449). -/
inductive DataItem where
  | level (code ramp : BitVec 16) (log : Bool)
  | state (code fault : BitVec 16)
  | presence (level edges : Byte)
  | lux (v : BitVec 16)
  | energy (mwh : Word)
  | other (type : Byte) (value : List Byte)
  deriving DecidableEq, Repr

/-- A message that firmware handles: DATA, or one whose QTYPE the table does not hold (R445, R449). -/
inductive QueradMsg where
  | data (items : List DataItem)
  | unknown (qtype : Byte) (body : List Byte)
  deriving DecidableEq, Repr

/-- The twin faults of R530 that the twins' dies report: an uncorrectable ECC error, or loss of the die. -/
inductive TwinFaultKind where
  | ecc | die
  deriving DecidableEq, Repr

/-- What a borer found (R540, R542). -/
inductive BorerFind where
  | sramCorr (t : Twin) (addr : Nat)
  | dramCorr (t : Twin) (addr : Nat)
  | framCorr
  | sramSweep (t : Twin)
  | hard (t : Twin)
  | carrier
  deriving DecidableEq, Repr

/-- The tamper sources (R558). -/
inductive TamperSrc where
  | loop0 | loop1 | mesh
  deriving DecidableEq, Repr

/-- The ciphers of the engines (R549). -/
inductive Cipher where
  | ccm | gcm
  deriving DecidableEq, Repr

/-- Where LOAD places a key (R554, R556): a key register of a cipher engine, or the key memory of a lease entry. -/
inductive LoadDst where
  | engine (c : Cipher) (n : Nat)
  | join (lease : Nat)
  | link (lease : Nat) (nonceG nonceM : BitVec 64)
  deriving DecidableEq, Repr

/-- Who issued a key command (R556); the host's, too, reaches the key port as the twins issue it (R527, R555). -/
inductive KeyIssuer where
  | host (c : Copies) | firmware (c : Copies)
  deriving DecidableEq, Repr

/-- The operands of a key operation as captured from KEY_CMD (R565). -/
structure KeyArgs where
  slot   : BitVec 7
  parent : BitVec 7
  type   : BitVec 2
  usage  : BitVec 5
  deriving DecidableEq, Repr

/-- XFER targets (R485). -/
inductive XferTarget where
  | image | firmware
  deriving DecidableEq, Repr

/-- Who issues a staging operation: the hierarchy's comes as the twins' words meet at the control port (R28, R154, R575). -/
inductive StgIssuer where
  | host | hier (c : Copies) | recovery
  deriving DecidableEq, Repr

/-- The fields of a recovery request (R582) beside its operation: sender, VER, SEQ, TARGET, LEN, OFFSET, TOTAL, and the bytes after
them. -/
structure RcvReq where
  src    : BitVec 48
  ver    : Byte
  seq    : BitVec 16
  target : XferTarget
  len    : Nat
  offset : Nat
  total  : Nat
  data   : List Byte
  deriving DecidableEq, Repr

/-- The power domains that change state (R78). -/
inductive Machine.Dom where
  | ctrl | net | air | drive | mtr | fab
  deriving DecidableEq, Repr

/-- The commands, one per row of spec/opcode_table.json. -/
inductive Instr where
  -- Registers (R4 to R10, R32)
  /-- R6: write of a register; `setNow` are the bits the module asserts in the same cycle (R10). -/
  | registerWrite (writer : Writer) (off : Nat) (v setNow : Word)
  /-- R9: host read of an RC register; `now` is its new value when the module sets it in the same cycle. -/
  | rcRead (route : Route) (off : Nat) (now : Option Word)
  /-- R5: an access that is not an aligned 32-bit one. -/
  | unalignedAccess (win : Window) (off len : Nat) (isWrite : Bool)
  /-- R32: an aligned access outside every register. -/
  | unmappedAccess (route : Route) (off : Nat) (isWrite : Bool) (v : Word)
  -- Supply (R42 to R62)
  | j1Loss
  | j1Return
  /-- R54, R357: `chan`: the instants of the channel slices captured in the present step before the trip, as METER_STEP carries them. -/
  | powerFailTrip (chan : List (List (Int × Int)))
  | tripRideThrough
  | brownOutReset
  /-- R56: the logic input rises through 9 V. `absent`: it fell below 4.0 V meanwhile; `aonCold`: AON itself powered
  up, with neither a logic input nor VBAT before. -/
  | powerOn (j1Mv j2Mv : Nat) (absent aonCold : Bool)
  | holdupMeasure
  | holdupMeasureDone (uf : Nat)
  /-- R62: the measured quantities of one millisecond. -/
  | supplyMonitorUpdate (j1Mv j2Mv storeMv vbatMv : Nat) (baseT : Int) (scap : Bool)
  /-- R47: measured output and input power (mW), bus voltage (mV) and baseplate temperature (0.01 °C). -/
  | limiterUpdate (pOut pIn vBus : Nat) (temp : Int)
  -- Power states and start-up (R78 to R112)
  | powerCommand (route : Route) (v : Word)
  | domainChangeDone
  /-- R89: `d`: the rising domain whose power-good time has passed. -/
  | powerGoodTimeout (d : Machine.Dom)
  | wakeFire (src : WakeSrc)
  | wakeCommandIssue
  /-- R106, R107: `glob`: released by a scheduled action (R326). -/
  | controllerReset (glob : Bool)
  | moduleReset (glob : Bool)
  | resetEffect
  | perstAssert
  | perstRelease
  /-- R102: runs the stages after the present one, in order, through `upto`. -/
  | startup (upto : Stage)
  | startStateLive
  -- Structure image (R114 to R155)
  | imgBegin (who : StgIssuer)
  | imgBeginDone
  | imgCommit (who : StgIssuer)
  | imgAbort (who : StgIssuer)
  | imgVerify
  | imgVerifyDone
  | imgDiscard
  | imgStgData (v : Word)
  -- Host port (R156 to R172)
  | pcieConfigWrite (cfg : PciCfg)
  | qspiRead (addr words : Nat)
  | qspiQread (addr words : Nat)
  | qspiWrite (addr : Nat) (data : List Word)
  | qspiQwrite (addr : Nat) (data : List Word)
  | qspiStatus
  | qspiBadop (op : Byte)
  /-- R170: QSPI_CS_N rises inside a word of a write (`writing`) or of a read. -/
  | qspiCsAbort (writing : Bool)
  -- Bus master (R173 to R191)
  /-- R179: `descs` are the descriptors the write posts, from the old TAIL up to the new one, as read from host memory. -/
  | dmaTailWrite (ring : Fin 4) (v : Word) (descs : List Desc)
  | dmaRingEnable (ring : Fin 4) (v : Word)
  | frxFrame
  | tlmBlock
  /-- R186: `data` are the bytes gathered from each posted descriptor, in ring order. -/
  | ftxFrame (data : List (List Byte))
  | dmaWaitExpire (ring : Fin 4)
  | ftxWaitExpire
  /-- R187: `data` are the host bytes read for a DIR 1 transfer. -/
  | blkTransfer (data : List Byte)
  | dmaReadError (ring : Fin 4) (abort : Bool)
  | dmaReadTimeout (ring : Fin 4)
  /-- R175: one twin's copy of data bound for ring 1 (FRX) or ring 2 (TLM). -/
  | hostMerge (tlm : Bool) (t : Twin) (item : HostItem)
  | hostMergeTimeout (tlm : Bool)
  -- Interrupt controller (R193 to R217)
  | intcSourceEvent (n : Fin 256)
  /-- R205, R209: `idle`: both cores of a core target's pair wait for an interrupt, as read from the twins. -/
  | intcPresent (t : Target) (idle : Bool)
  | intcModExpire (t : Target) (idle : Bool)
  | intcTgtClaim (route : Route) (t : HostTgt)
  | intcTgtDone (t : HostTgt) (v : Word)
  | intcHpendSet (k : Fin 8) (v : Word)
  | intcHpendClr (k : Fin 8) (v events : Word)
  -- Channel drive (R218 to R256)
  | drvChSet (ch : Fin 64) (v : Word)
  /-- R225: `us`: for each slice of the channel's die, the time since its running ramp started, in µs. -/
  | referenceArrival (ch : Fin 64) (us : List Nat)
  | rampEnd (ch : Fin 64)
  | softStartEnd (ch : Fin 64)
  | biasEstablished (ch : Fin 64)
  | measWindowEnd (ch : Fin 64) (vMv iCode : Nat)
  | probeDue (ch : Fin 64)
  | probeNow (ch : Fin 64)
  | probeEnd (ch : Fin 64) (vMv iUa : Nat)
  | retryDue (ch : Fin 64) (vMv iUa : Nat)
  | clear (ch : Fin 64)
  | phaseRetry (ch : Fin 64)
  | phaseFault (ch : Fin 64) (phaseB : Bool)
  | pwrClamp (ch : Fin 64) (engaged : Bool)
  | kyoviLoss (die : Fin 8)
  -- Chain ports (R257 to R275)
  | chnDrvSet (port : Fin 4) (pos : Fin 128) (v : Word)
  | chainFrameStart (port : Fin 4)
  /-- R262, R269: `ret` are the bits sampled on RET. -/
  | chainLatch (port : Fin 4) (ret : List Bool)
  | chainRefreshDue (port : Fin 4)
  | reshift (port : Fin 4)
  | measure (port : Fin 4)
  | measureDone (port : Fin 4) (edges : Nat)
  | measureNoret (port : Fin 4)
  -- Reflex fabric (R276 to R305)
  /-- R277, R300: the inputs that change level in one cycle, with their new pin levels; while the fabric clock is stopped,
  every change in its order until the clock runs. -/
  | presenceEdge (edges : List (Fin 32 × Bool))
  /-- R278: the sums of the 64 samples of each analogue input, in mV. -/
  | ainStrobe (sums : List Nat)
  | fabricTimerExpire (timers : List (Fin 64))
  | rfxModeWrite (v : Word)
  | rfxLockClr (hi : Bool) (v : Word)
  | fabricClockStop
  -- Mitre (R526)
  /-- `edges`: the presence edges whose fabric action reaches the mitre in the same cycle (R293), with their pin levels. -/
  | mitreTwinReference (t : Twin) (item : MitreCopy) (edges : List (Fin 32 × Bool))
  | mitreSoloDeadline (key : MitreWait)
  -- Calendar (R306 to R334); `ticks`: SUBSEC counts since the last calendar command; `arg`: what the issuer writes to the
  -- command's operand register with it; none: the register as it stands
  | calLoadFields (who : Issuer) (ticks : Nat)
  | calLoadSec (who : Issuer) (arg : Option (BitVec 48)) (ticks : Nat)
  | calStep (who : Issuer) (arg : Option Word) (ticks : Nat)
  | calFieldStep (who : Issuer) (arg : Option Word) (ticks : Nat)
  /-- `cycles` of the time-stamp clock since the TSU last advanced, for a boundary that the shift reaches (R316). -/
  | calShift (who : Issuer) (arg : Option (BitVec 16)) (ticks cycles : Nat)
  | calShiftDone
  /-- R306, R316, R317: `cycles` of the time-stamp clock since the TSU last advanced; `master`: the PTP port has a master;
  `traceable`: PTP time is traceable to it; `trim`: the value firmware writes to CAL_TRIM. -/
  | calSecondBoundary (cycles : Nat) (master traceable : Bool) (trim : Option (BitVec 20))
  | discHoldoverExpire
  | calShadowRead (route : Route) (reg : Fin 5) (ticks : Nat)
  | calShadowExpire
  | schedArm (who : Issuer) (e : Fin 64) (ticks : Nat)
  | schedCancel (who : Issuer) (e : Fin 64)
  | scheduleRelease (ticks : Nat)
  | fineRelease (e : Fin 64) (cycles : Nat)
  -- Metering (R335 to R372)
  /-- At the boundary that ends a step, after SPLITTER_STEP has numbered the next. -/
  | meterStep (x : MeterStep)
  | meterRetry (p : Fin 128) (upsets : List MeterUpset)
  /-- R343: one step's frame: CRC result, the 12 feeder samples, slices failing self-check, inputs at full scale,
  VL1 fundamental in mHz. -/
  | islandFrame (crcOk : Bool) (samples : List Int) (adcFail clip : BitVec 12) (freq : Option Nat)
  | s0Pulse (j : Fin 32)
  | meterSaveStart (kind : SaveKind)
  | meterSaveDone
  | saveNow
  | zero (p : Fin 128)
  | pulseStep
  | pulseWidthExpire (k : Fin 4)
  | totalsLatchRead (route : Route) (p : Fin 128)
  -- Wired ports (R373 to R398)
  | ringFrameReceive (p : Fin 4) (f : EthFrame) (cycles : Nat)
  | edgeFrameReceive (p : Fin 4) (f : EthFrame) (cycles : Nat)
  /-- R394: `toModule`: addressed to the pause group address or to the module; `us`: how long the port has been paused. -/
  | pauseFrame (p : Fin 4) (quanta : BitVec 16) (opcode : BitVec 16) (toModule : Bool) (us : Nat)
  | pauseExpire (p : Fin 4) (us : Nat)
  | deathwatchBreak (p : Fin 4) (us : Nat)
  | holdoffExpire (p : Fin 4)
  | linkChange (p : Fin 4) (up anDone sfpPresent sfpLos sfpTxFault : Bool)
  | restartAn (p : Fin 4)
  /-- R387: one twin's next 256-byte block of a frame; `head` on the first, `last` on the last. -/
  | mergeBlock (t : Twin) (head : TxHead) (bytes : List Byte) (last : Bool)
  | mergeSolo
  | txFrameStart (p : Fin 4)
  | txUnderrun (p : Fin 4)
  | windowEntryAge (origin : BitVec 16) (stream : BitVec 3)
  -- Network time (R399 to R421)
  /-- `adj`: what the issuer writes to TSU_ADJ with the command; none: TSU_ADJ as it stands. -/
  | tsuStep (who : Issuer) (adj : Option Word) (cycles : Nat)
  | tsuSlew (who : Issuer) (adj : Option Word) (cycles : Nat)
  | tsuLoad (who : Issuer) (adj : Option Word) (cycles : Nat)
  | tsuSlewDone
  /-- `v`: the value written to TSU_ANCHOR_SEC_HI; `fw`: the words of firmware's control word (R405), none for the host. -/
  | tsuAnchorCommit (who : Issuer) (fw : Option FwAnchor) (v : Word) (cycles : Nat)
  | anchorExpire (cycles : Nat)
  /-- R409, R410: the timestamp point of the frame in service passes. -/
  | txStamp (port : Fin 4) (cycles : Nat)
  | tsuSqFree (who : Issuer) (e : Fin 64)
  | launch (p : Fin 4) (queue : BitVec 3) (cycles : Nat) (held : Bool)
  -- Wireless cells (R422 to R453)
  /-- R426: a timeslot begins; `acked`: a unicast frame sent in it was acknowledged. -/
  | timeslotStart (r : Fin 4) (asn : BitVec 40) (acked : Bool)
  | beaconReceive (r : Fin 4) (pan : BitVec 16) (asn : BitVec 40) (offset : Int)
  | beaconMissed (r : Fin 4)
  | keepaliveMiss (r : Fin 4) (s : Fin 1024)
  | searchChannelHop (r : Fin 4)
  | radioTxCopy (r : Fin 4) (t : Twin) (f : RadioTx)
  | radioCopyTimeout (r : Fin 4)
  | joinReq (rx : RadioRx) (caps : Byte) (nonceG : BitVec 64)
  | joinConf (rx : RadioRx) (nonceM : BitVec 64)
  | renew (rx : RadioRx)
  | keepalive (rx : RadioRx) (status : Byte)
  | leave (rx : RadioRx) (reason : Byte)
  /-- R445, R449: DATA, or a message of an unknown QTYPE. -/
  | queradData (rx : RadioRx) (m : QueradMsg)
  | relay (rx : RadioRx) (finalDst origSrc : BitVec 16) (hops : Byte) (inner : List Byte)
  | leaseEuiWrite (s : Fin 1024) (v : Word)
  | joinWaitExpire (s : Fin 1024)
  | leaseSilent (s : Fin 1024)
  | leaseExpire (s : Fin 1024)
  | frameCounterExhaust
  | airAsnRead (route : Route) (r : Fin 4)
  -- Managers and workers (R454 to R492)
  | helloPeriod
  | hello (h : HierHdr) (srcMac : BitVec 48) (epochOwn epochRoot : BitVec 8) (window mtu helloMs : BitVec 16)
  | announcePeriod
  | announce (h : HierHdr) (imgSeq sent : Word) (first sealed ctrlRun : Bool)
  | parentLost
  | childLost (i : Fin 128)
  | credit (h : HierHdr) (limits : List (Byte × Word))
  | level (h : HierHdr) (code rampMs : BitVec 16) (log : Bool)
  | power (h : HierHdr) (stateWord : BitVec 12)
  | reset (h : HierHdr) (kind : Byte)
  | snapshot (h : HierHdr) (snapId : BitVec 16)
  | collect (h : HierHdr) (snapId : BitVec 16)
  | cancel (h : HierHdr) (targetId : BitVec 16)
  | ack (h : HierHdr) (body : AckBody)
  | ackWaitExpire (issuer : BitVec 16) (epoch : BitVec 8) (cmdId : BitVec 16)
  | telem (h : HierHdr) (sent : Word) (frameLen : Nat) (block : List Byte)
  | snapdata (h : HierHdr) (snapId : BitVec 16) (firstEpa : Word) (notrace last : Bool) (sent : Word) (frameLen : Nat)
      (summaries : List (BitVec 64))
  | barrier (h : HierHdr)
  | arrive (h : HierHdr) (modules missing : Nat)
  | barrierWaitExpire (issuer : BitVec 16) (epoch : BitVec 8) (cmdId : BitVec 16)
  | xferBegin (h : HierHdr) (target : XferTarget) (len : Nat)
  | xferData (h : HierHdr) (target : XferTarget) (offset : Nat) (data : List Byte)
  | xferCommit (h : HierHdr) (target : XferTarget) (len : Nat)
  | xferAbort (h : HierHdr) (target : XferTarget)
  | wake (h : HierHdr)
  | hierMbGo
  | hierResFree (v : Word)
  | collectWaitExpire
  -- Telemetry plane (R493 to R520)
  | planeSample
  | blockClose (cls : Fin 3)
  | summaryRound
  | planeStart
  -- Twins and health (R521 to R546)
  /-- R521, R524: `interp`: periods of the 25 MHz reference since SUBSEC last counted; `cycles`: of the time-stamp clock since the
  TSU last advanced. -/
  | splitterStep (interp : Fin 763) (cycles : Nat)
  | stepDigest (t : Twin) (step : BitVec 64) (digest : StepOut)
  | digestLate (t : Twin) (second : Bool)
  | proofEnd
  | twinFault (t : Twin) (kind : TwinFaultKind)
  | borerFinding (f : BorerFind)
  | rejoin (t : Twin)
  | rejoinConverge
  | forceFail (t : Twin)
  | clearHist
  | healthRead (route : Route)
  | twnStepRead (route : Route)
  -- Key store and tamper (R547 to R566); `random`: bytes of the carrier's random source
  | genRoot (who : KeyIssuer) (a : KeyArgs) (random : BitVec 256)
  | derive (who : KeyIssuer) (a : KeyArgs)
  | importKey (who : KeyIssuer) (a : KeyArgs)
  | destroy (who : KeyIssuer) (a : KeyArgs)
  | sign (who : KeyIssuer) (a : KeyArgs)
  | pubkey (who : KeyIssuer) (a : KeyArgs)
  | load (who : KeyIssuer) (a : KeyArgs) (dst : LoadDst)
  | disarm (who : KeyIssuer)
  | debugChal (who : KeyIssuer) (random : BitVec 128)
  | debugOpen (who : KeyIssuer)
  /-- R556: `c`: how the signatures of the two twins' engines meet. -/
  | keyOpDone (c : Copies)
  | tamperTrip (src : TamperSrc)
  -- Update and recovery (R567 to R590)
  | updBegin (who : StgIssuer)
  | updCommit (who : StgIssuer)
  | updAbort (who : StgIssuer)
  | updDiscard
  | updStgData (v : Word)
  | saveSettings
  | defaults
  | recoverNext
  | trialTimeout
  | rcvHelloPeriod
  | rcvHello (q : RcvReq)
  | rcvBegin (q : RcvReq)
  | rcvData (q : RcvReq)
  | rcvCommit (q : RcvReq)
  | rcvAbort (q : RcvReq)
  | rcvBoot (q : RcvReq)
  | rcvSessionTimeout
  -- Perturbation (R591 to R602)
  | tstUnlock (v : Word)
  | tstUnlockTimeout
  | tstLock
  | tstLeaseWrite (v : Word)
  | tstLeaseExpire
  -- Rows that end the table
  | tamperSourceClose (src : TamperSrc)
  | fineHandoff (e : Fin 64)
  | updBeginDone
  /-- R527: `c`: how the twins' copies of the FRAM write meet. -/
  | settingsSaveDone (c : Copies)
  | txFrameEnd (p : Fin 4)
  deriving DecidableEq, Repr

end Sys2Proof
end

