-- ==== Sys2Proof/Machine/State.lean ====
section
/-! DEFINITION. The state of the STR-6464, all of it plain data, and the state after reset.

Every register of the map has its one home in `regs`, the sparse table of 32-bit words keyed by BAR0 offset; an offset
with no entry holds its reset value (RegMap). The structures hold what the chapters give the blocks beside their
registers. -/

namespace Sys2Proof.Machine

/-- Why a command stops. No command of this block does (every command is answered, R16): the type has the one reason
that the interface needs. -/
inductive Fault where
  /-- Raised by no command: kept so that the type is not empty. Safe: it is never answered. -/
  | none
  deriving DecidableEq, Repr

/-- Why a command is turned away by the model. -/
inductive Refusal where
  /-- The command has no meaning in this model yet. Safe: the model stops where the hardware goes on. -/
  | notModelled (mnemonic : String)
  deriving DecidableEq, Repr

/-- The result codes of R16. -/
inductive Code where
  | ok | busy | state | stale | nokey | orphan | late | denied
  deriving DecidableEq, Repr

/-- A frame the host posts on FTX, as the splitter receives it (R174, R186): its egress port, queue and marks, the
launch time, the index of its SOF descriptor, and its bytes. -/
structure FtxFrame where
  port   : Nat
  prio   : Nat
  tsreq  : Bool
  launch : Option Word
  index  : Nat
  bytes  : List Byte
  deriving DecidableEq, Repr

/-- What a fabric record says happened to a timer (R295). -/
inductive TimerAct where
  | started | stopped | expired
  deriving DecidableEq, Repr

/-- A collision loss (R289, R295): on a timer or a channel, its number, the winner and the loser. -/
structure Collision where
  timer  : Bool
  target : Nat
  winner : Nat
  loser  : Nat
  deriving DecidableEq, Repr

/-- A fabric record (R295): what the fabric did in one cycle. `cells` fired; `refs` passed; `locks` set (true) or cleared;
`refused`: a cell and the channel that refused it. -/
structure FabRec where
  cells   : List Nat
  refs    : List (Nat × Ref)
  locks   : List (Nat × Bool)
  timers  : List (Nat × TimerAct)
  losses  : List Collision
  refused : List (Nat × Nat)
  deriving DecidableEq, Repr

/-- An input that the splitter presents to both twins (R26, R522). -/
inductive SplitIn where
  /-- Class 1: a fabric record. -/
  | fabric (r : FabRec)
  /-- Class 2: an interrupt assertion to a core pair. -/
  | irq (t : Target) (src : Nat)
  /-- Class 3: a host write of a register on the Ulust dies. -/
  | hostReg (off : Nat) (v setNow : Word)
  /-- Class 3: a host channel request (R227). -/
  | drvReq (ch : Nat) (code ramp : BitVec 16) (log : Bool)
  /-- Class 3: a host chain word request (R260). -/
  | chnReq (port pos : Nat) (w : BitVec 48)
  /-- Class 3: a host key command, with the words of KEY_LABEL and KEY_DATA captured beside it (R555); how the twins' requests for it
  meet at the key port (R527), and what the carrier's random source gives it. -/
  | keyCmd (v : Word) (words : List Word) (c : Copies) (random : Nat)
  /-- Class 3: a scheduled FIRMWARE action (R326): its entry, TAG and ARG. -/
  | sched (e tag : Nat) (arg : Word)
  /-- Class 4: a presence edge, with its new level (R277). -/
  | edge (input : Nat) (level : Bool)
  /-- Class 4: the analogue means of a strobe (R278). -/
  | ain (means : List Nat)
  /-- Class 4: the level of every presence input, the mean of every analogue input, and the mitre's output of every channel
  (R96). -/
  | snapshot (levels : Word) (ain : List Nat) (mitre : List (BitVec 16))
  /-- Class 5: the result kept for a meter point: its sample energies in U. -/
  | meter (point : Nat) (energies : List Int)
  /-- Class 5: an S0 pulse (R344). -/
  | s0 (j : Nat)
  /-- Class 5: a channel measurement (R240). -/
  | chMeas (ch vMv iCode : Nat)
  /-- Class 6: a transmit stamp of firmware's, and an entry that firmware freed (R411). -/
  | stamp (port queue index : Nat) (raw : Word)
  | stampFree (e : Nat)
  /-- Class 7: a frame gathered from FTX. -/
  | ftx (f : FtxFrame)
  /-- Class 7: bytes of a BLK write to a region. -/
  | blk (region off : Nat) (bytes : List Byte)
  /-- Class 8: a received frame, its port and its raw receive time (R409). -/
  | net (port : Nat) (f : EthFrame) (raw : Word)
  /-- Class 9: an accepted radio frame's items or bytes, and its reception figures (R444). -/
  | radio (rx : RadioRx) (body : List Byte)
  /-- Class 9: a lease change (R444): the slot and its new state. -/
  | lease (slot state : Nat)
  /-- Class 9: a frame dropped after its last attempt (R439): the radio and the frame. -/
  | radioFail (r : Nat) (f : RadioTx)
  deriving DecidableEq, Repr

/-- The class of an input (R522). -/
def SplitIn.cls : SplitIn → Nat
  | .fabric _ => 1 | .irq _ _ => 2 | .hostReg _ _ _ => 3 | .drvReq _ _ _ _ => 3 | .chnReq _ _ _ => 3 | .keyCmd _ _ _ _ => 3 | .sched _ _ _ => 3
  | .edge _ _ => 4 | .ain _ => 4 | .snapshot _ _ _ => 4 | .meter _ _ => 5 | .s0 _ => 5 | .chMeas _ _ _ => 5
  | .stamp _ _ _ _ => 6 | .stampFree _ => 6 | .ftx _ => 7 | .blk _ _ _ => 7 | .net _ _ _ => 8 | .radio _ _ => 9 | .lease _ _ => 9 | .radioFail _ _ => 9

/-- A copy of a twin's output that waits at a comparing route for the other twin's (R526, R527): the step of issue where the route
pairs by it; whether it has passed already, from a survivor beside a twin in SHADOW (R536); and whether the comparator sees
it altered (R594 kind 15). -/
structure Copy (α : Type) where
  twin   : Twin
  item   : α
  step   : BitVec 64 := 0
  passed : Bool := false
  flip   : Bool := false
  deriving DecidableEq, Repr

/-- One domain change of an accepted command: the domain and its new state as SYS_PWR_STAT codes it (R87, R90). -/
structure DomChange where
  dom : Dom
  dest : Nat
  deriving DecidableEq, Repr

/-- The kinds of start: after which reset, or by a command that raises CTRL (R102, R109, R605). -/
inductive StartKind where
  | powerOn | brownOut | module | controller | raise
  deriving DecidableEq, Repr

/-- The supply, the power states and the start-up (R42 to R112). -/
structure SysSt where
  /-- R47: the common scale factor k of the limiter, 1 to 1,024. -/
  k         : Nat := 1024
  /-- R53, R61: the voltage of the hold-up store, in mV. -/
  storeMv   : Nat := 0
  /-- R62: the VBAT voltage, in mV. -/
  vbatMv    : Nat := 0
  /-- R54: a power-fail trip has occurred and the logic runs from the store. -/
  trip      : Bool := false
  /-- R56: a brown-out reset (or absence of supply) holds every domain but AON in reset. -/
  held      : Bool := true
  /-- R59: a capacitance measurement is running. -/
  measuring : Bool := false
  /-- R45: the SENS_12V regulator runs. -/
  sens12    : Bool := false
  /-- R237: J1 is at or above 9.0 V. -/
  j1High    : Bool := false
  /-- R87: the changes of the executing command not yet complete, the first in progress. -/
  todo      : List DomChange := []
  /-- R95: the wake command that waits for BUSY to clear. -/
  wakeWait  : Option Word := none
  /-- R326: the schedule entry whose POWER action that command is. -/
  wakeEntry : Option Nat := none
  /-- R107: the accepted reset that waits for its metering save (module or controller; released by a schedule). -/
  rstWait   : Option (StartKind × Bool) := none
  /-- R111, R358: the metering save of the waiting reset has completed. -/
  rstSaved  : Bool := false
  /-- R104: the second start-state command, DRIVE to LIVE, waits for BUSY to clear at READY. -/
  liveWait  : Bool := false
  /-- R96: the splitter owes both twins a snapshot in the next step. -/
  snapOwed  : Bool := false
  /-- R102: the start in progress, until READY. -/
  start     : Option StartKind := none
  /-- R97: tamper has tripped in a start that has not reached ROM: the cores stop there. -/
  haltDue   : Bool := false
  deriving DecidableEq, Repr

/-- The states of a STAGED slot (R115, R567). -/
inductive StgState where
  | empty | opened | pending | rejected
  deriving DecidableEq, Repr

/-- A copy of the safe-level record in FRAM (R151). `good`: its MAGIC and CRC are good. -/
structure SafeCopy where
  good   : Bool := false
  wseq   : Word := 0
  digest : List Byte := []
  level  : List (BitVec 16) := []
  limit  : List (BitVec 16) := []
  deriving DecidableEq, Repr

/-- A STAGED slot's life (R115, R142, R153, R154): its state, the party that owns it while OPEN, whether zeroing runs, and
the staging writes held meanwhile, the oldest first. -/
structure Staging where
  st      : StgState := .empty
  owner   : Party := .host
  zeroing : Bool := false
  held    : List (Nat × List Byte) := []
  deriving DecidableEq, Repr

/-- The image store and the loader (R114 to R155). The slots with their committed lengths, the pointer, the floor, the
slot's state and the safe-level record are FRAM contents and survive every reset. -/
structure ImgSt where
  /-- R114: the two image slots, a byte at each offset below 163,840; an unlisted byte reads 0. -/
  slot0    : Tab Byte := []
  slot1    : Tab Byte := []
  len0     : Nat := 0
  len1     : Nat := 0
  /-- R114, R606: the slot that is ACTIVE (slot 1 where true); none where the pointer names neither. -/
  active   : Option Bool := none
  /-- R144: the sequence floor. -/
  floor    : Word := 0
  /-- R153: the STAGED slot. -/
  stg      : Staging := {}
  /-- R155: VERIFY runs. -/
  verifying : Bool := false
  /-- R151: the two copies of the safe-level record. -/
  safe0    : SafeCopy := {}
  safe1    : SafeCopy := {}
  deriving DecidableEq, Repr

/-- A receive or telemetry frame being written to its ring: its item, the bytes still to write, and the descriptors
filled so far with the bytes written to each (R180, R184). -/
structure RxFrame where
  item   : HostItem
  rest   : List Byte
  filled : List (Desc × Nat)
  deriving DecidableEq, Repr

/-- An FTX frame whose descriptors wait to be written back: each with its DONE_LEN and STATUS; whether it waits for its
transmit stamp, and the stamp queue entry, 0xFF for none (R413). -/
structure FtxDone where
  index : Nat
  descs : List (Desc × Nat × Nat)
  wait  : Bool
  entry : Nat
  deriving DecidableEq, Repr

/-- What a ring holds beside its registers (R179 to R186). -/
structure DmaRing where
  /-- Descriptors posted and not yet filled or gathered, the next first. -/
  desc    : List Desc := []
  /-- The ring waits WAIT_US for a descriptor (R182, R186). -/
  waiting : Bool := false
  /-- The receive frame in progress. -/
  rx      : Option RxFrame := none
  /-- Frames queued for the ring (R185). -/
  staging : List HostItem := []
  /-- FTX: the descriptors gathered of the frame in progress, with their bytes (R186). -/
  gather  : List (Desc × List Byte) := []
  /-- FTX: frames taken whose descriptors are not yet written back, the oldest first (R180, R413). -/
  done    : List FtxDone := []
  /-- The registers hold a value of R191: the descriptors written back are unpredictable. -/
  bad     : Bool := false
  /-- A wait expired while the bus master may issue no request (R158): what follows waits for the bus. -/
  expired : Bool := false
  /-- R594 kind 2: the µs for which the bus master issues no request before it opens the next buffer; 0: they have passed. -/
  stall   : Option Nat := none
  /-- R594 kind 2: what it reads of each buffer once they have passed. -/
  ahead   : List (List Byte) := []
  /-- R594 kind 3: tail writes not yet seen, in order, with the µs left of each. -/
  tails   : List (Nat × Word × List Desc) := []
  deriving DecidableEq, Repr

/-- The PCI Express function, the QSPI target and the host merge (R156 to R175). -/
structure PortSt where
  /-- R157: PERST_N is asserted. -/
  perst   : Bool := true
  /-- R157: the link is up. -/
  link    : Bool := false
  /-- R156, R158, R163, R164: the configuration the host has written. -/
  cfg     : PciCfg := {}
  /-- R164: the MSI Pending Bits. -/
  msiPend : Word := 0
  /-- R171: STATUS.PARTIAL and STATUS.BADOP. -/
  partialWord : Bool := false
  badop   : Bool := false
  /-- R175: first copies that wait for the other twin's, for ring 1 and ring 2, the oldest first. -/
  mergeFrx : List (Copy HostItem) := []
  mergeTlm : List (Copy HostItem) := []
  deriving DecidableEq, Repr

/-- A claim: the source with its PRIO and VECTOR at presentation (R205). -/
structure Claim where
  src  : Nat
  prio : Nat
  vec  : Nat
  deriving DecidableEq, Repr

/-- A target of the interrupt controller (R205 to R208). -/
structure TgtSt where
  /-- The claim presented and not taken. -/
  claim  : Option Claim := none
  /-- The source in service. -/
  insvc  : Option Nat := none
  /-- The moderation window runs (R208). -/
  window : Bool := false
  deriving DecidableEq, Repr

/-- The four targets (R193). -/
structure IntcSt where
  cp0 : TgtSt := {}
  cp1 : TgtSt := {}
  h0  : TgtSt := {}
  h1  : TgtSt := {}
  deriving DecidableEq, Repr

/-- The states of a channel (R236). -/
inductive ChState where
  | off | disabled | waitJ1 | bias | soft | run | probe | stopped | dead
  deriving DecidableEq, Repr

/-- A ramp in progress (R225, R230): from `c0` to `c1` in `us` microseconds; `soft`: it is the soft-start. -/
structure Ramp where
  c0   : Nat
  c1   : Nat
  us   : Nat
  log  : Bool
  soft : Bool
  deriving DecidableEq, Repr

/-- A channel slice on its Kyovi die, beside its registers (R218 to R252). -/
structure Slice where
  st       : ChState := .off
  /-- R224: the reference in force: its code is DRV_CH_REF.TARGET. -/
  ref      : Ref := ⟨0, 0, false, false, 0⟩
  /-- The working value where no ramp runs, and where the running ramp started (R223 stage 3). -/
  work     : Nat := 0
  ramp     : Option Ramp := none
  /-- R237: the bias is established; the channel came from OFF, WAIT_J1 or STOPPED, so a reference soft-starts. -/
  biased   : Bool := false
  fresh    : Bool := false
  /-- R250: phases A and B in service; a defect of a phase that has not been detected yet (R249). -/
  phaseA   : Bool := true
  phaseB   : Bool := true
  latentA  : Bool := false
  latentB  : Bool := false
  /-- R220: the power clamp reduces the reference. -/
  clamp    : Bool := false
  /-- R241: a blanking cause has occurred in the window in progress; the channel left SOFT in it. -/
  blank    : Bool := false
  leftSoft : Bool := false
  /-- R241: the loop reference and k at the window's start. -/
  winLoop  : Nat := 0
  winK     : Nat := 1024
  /-- R242: the verdict being counted (true: Open) and its count. -/
  verdict  : Option Bool := none
  qcount   : Nat := 0
  /-- R246: one probe has failed; a repeat is due. -/
  failRun  : Bool := false
  /-- R247: a retry probe runs in STOPPED. -/
  retry    : Bool := false
  deriving DecidableEq, Repr

/-- The drive: the slices, the mitre's outputs and the reference bus (R29, R30, R79, R223 to R252). -/
structure DrvSt where
  slices  : Tab Slice := []
  /-- R29, R96: the code the mitre last passed for each channel. -/
  mitre   : Tab (BitVec 16) := []
  /-- References passed by the mitre and on their way to their slices, the oldest first. -/
  bus     : List (Nat × Ref) := []
  /-- R229: the reference the twins hold for each channel. -/
  held    : Tab (Option Ref) := []
  /-- R239, R150: an image has loaded DRV_CH_CFG and DRV_CH_LIMIT since they were last cleared. -/
  loaded  : Bool := false
  /-- R252: Kyovi dies whose supply or sequencer is lost. -/
  lost    : List Nat := []
  deriving DecidableEq, Repr

/-- A chain port beside its registers (R257 to R272). -/
structure ChainSt where
  /-- R258, R264: the words voted, by position; those that have been passed since ENABLE rose (R266). -/
  words    : Tab (BitVec 48) := []
  passed   : List Nat := []
  /-- R264: a word has been passed since the last frame started; a refresh has fallen due; RESHIFT was written. -/
  newWord  : Bool := false
  refresh  : Bool := false
  reshift  : Bool := false
  /-- R269: the words the running frame shifts, and those of the frame that preceded it, in shift order. -/
  shifting : List (BitVec 48) := []
  prev     : List (BitVec 48) := []
  /-- R261, R269: whether each of the two was shifted with bit 47 first. -/
  msb      : Bool := false
  prevMsb  : Bool := false
  /-- R269: the next frame's comparison is skipped; the running frame's is. -/
  skip     : Bool := true
  skipNow  : Bool := true
  /-- R271: a measurement was requested and has not started. -/
  measReq  : Bool := false
  /-- R266: firmware owes every position a word in the first step in LIVE. -/
  owed     : Bool := false
  /-- R229, R260, R468: the words that the twins hold for entry to LIVE, by position. -/
  held     : Tab (Option (BitVec 48)) := []
  deriving DecidableEq, Repr

/-- The fabric beside its registers (R276 to R302). -/
structure RfxSt where
  /-- R277: the level of each presence pin after its input filter, whether or not FAB is powered. -/
  pins   : Word := 0
  /-- R277: the active level that the fabric has taken of each presence input. -/
  seen   : Word := 0
  /-- R280: running timers whose last strobe has come and whose expiry is still to be given. -/
  due    : List Nat := []
  /-- R287: the latest twin reference voted for each channel since FAB rose. -/
  latest : Tab (Option Ref) := []
  deriving DecidableEq, Repr

/-- The calendar beside its registers (R306 to R332). CAL_SUBSEC, CAL_TIME, CAL_DATE and CAL_SEC hold the counters. -/
structure CalSt where
  /-- R311: the shadow, in the order of its registers, and those of them read since the copy. -/
  shadow : Option (List Word) := none
  seen   : List Nat := []
  /-- R314: ticks that a negative shift still withholds. -/
  hold   : Nat := 0
  /-- R313: the command written to CAL_CMD that the next tick applies. -/
  pend   : Option Nat := none
  /-- R315: the phase of the trimmed count, in parts of 10^9 of a SUBSEC count. -/
  phase  : Nat := 0
  /-- R317: seconds without a correction. -/
  idle   : Nat := 0
  /-- R322: the 400-year cycles that the fields have passed, and the latest field second ever reached. -/
  lap    : Int := 0
  mark   : Int := 0
  /-- R310: an impossible date has been loaded. -/
  bad    : Bool := false
  deriving DecidableEq, Repr

/-- What the datapaths keep of a meter point: IMPORT and EXPORT in U, 96 bits each, the pulse count of a KIND 4 point, and
the tag of its configuration (R346, R348, R364); the residues modulo 3 that stand beside the three values (R350). -/
structure PointTot where
  imp  : Nat := 0
  exp  : Nat := 0
  s0   : Word := 0
  tag  : BitVec 16 := 0
  rImp : Nat := 0
  rExp : Nat := 0
  rS0  : Nat := 0
  deriving DecidableEq, Repr

/-- A feeder input's front end (R340 to R342): its last input, the filtered and the integrated value, and those of the instant
before, each over 2^32. -/
structure Feeder where
  last  : Int := 0
  high  : Int := 0
  coil  : Int := 0
  high1 : Int := 0
  coil1 : Int := 0
  deriving DecidableEq, Repr

/-- What a step contributes to a meter point: its sample energies in U, the pulses of a KIND 4 point, and the sums that the
second's voltage and current come from (R345, R348, R349). -/
structure MeterWork where
  es     : List Int
  pulses : Nat := 0
  volts  : Int := 0
  amps   : Int := 0
  freq   : Nat := 0
  deriving DecidableEq, Repr

/-- The sums of a meter point over the present second (R349), and the residues modulo 3 beside them, in the same order (R350). -/
structure MeterSecond where
  energy : Int := 0
  volts  : Int := 0
  amps   : Int := 0
  freq   : Int := 0
  res    : List Nat := [0, 0, 0, 0]
  deriving DecidableEq, Repr

/-- R351: one datapath's results for a point: its totals, its sums of the second, and its sample energies. -/
structure MeterRes where
  tot : PointTot
  sec : MeterSecond
  es  : List Int
  deriving DecidableEq, Repr

/-- A step as the splitter delivers it to the datapaths (R336, R344, R359): the step number at the boundary that ends it, the
channel samples, the island's, and the S0 pulses by input; how many of its channel instants, and whether the island's, were taken
before a trip within it (R357). -/
structure MeterIn where
  step   : Nat
  x      : MeterStep
  island : List Int
  freq   : Nat
  s0     : Tab Nat
  early  : Nat := 0
  fed    : Bool := false
  deriving DecidableEq, Repr

/-- A save in progress (R356): its kind, the bank (B where true), the time of its snapshot in ns, and the snapshot. -/
structure Saving where
  kind : SaveKind
  bank : Bool
  ns   : Nat
  recs : Tab PointTot
  deriving DecidableEq, Repr

/-- A pulse output (R366, R367): pulses emitted; 0 open, 1 closed, 2 open for at least WIDTH_MS. -/
structure PulseSt where
  emitted : Int := 0
  phase   : Nat := 0
  deriving DecidableEq, Repr

/-- The metering beside its registers (R335 to R371). -/
structure MtrSt where
  /-- R351: the kept values of each point. -/
  pts     : Tab PointTot := []
  /-- R352: what a step held for points whose result failed on both datapaths, and is to be recomputed; the oldest first. -/
  retry   : List (Nat × MeterWork) := []
  /-- R344: S0 pulses of the present step, by input. -/
  s0      : Tab Nat := []
  /-- R349: the sums of each point in the present second. -/
  second  : Tab MeterSecond := []
  /-- R357: the island's frame of the present step has come; of the present step, the channel instants and the island's that a trip
  has taken into the final save. -/
  fresh   : Bool := false
  early   : Nat := 0
  fed     : Bool := false
  /-- R343: the feeder samples of the last good frame, and the frequency measured with it. -/
  island  : List Int := []
  freq    : Nat := 0
  /-- R340, R341: the front ends of the 12 feeder inputs; R342: the last current and voltage of each channel. -/
  feeders : List Feeder := []
  lastI   : List Int := []
  lastV   : List Int := []
  /-- R365: points to be set to zero in the next step, with the step in which ZERO was written. -/
  zero    : List (Nat × Nat) := []
  /-- R355: the bytes of the banks. -/
  bankA   : Tab Byte := []
  bankB   : Tab Byte := []
  /-- R357, R358: the save that is writing, the one that waits, and whether a host save has been asked for. -/
  saving  : Option Saving := none
  waiting : Option SaveKind := none
  hostDue : Bool := false
  /-- R359: steps captured since a trip, held by the splitter. -/
  held    : List MeterIn := []
  /-- R362: the time of the restored snapshot, until the first sample. -/
  gap     : Option Nat := none
  gapDue  : Bool := false
  /-- R366: the pulse outputs. -/
  pls0    : PulseSt := {}
  pls1    : PulseSt := {}
  pls2    : PulseSt := {}
  pls3    : PulseSt := {}
  /-- R370: the latched totals of each point. -/
  latch   : Tab (List Word) := []
  deriving DecidableEq, Repr

/-- The content of a frame bound for the wire: bytes from the transmit merge, or a frame forwarded or relayed. -/
inductive TxBody where
  | bytes (b : List Byte)
  | fwd (f : EthFrame)
  deriving DecidableEq, Repr

/-- A frame in an egress queue or in service (R387 to R393, R417 to R419). -/
structure TxEnt where
  queue  : Nat
  cells  : Nat
  len    : Nat
  /-- Bytes that the merge has released; `opn`: it releases more. -/
  rel    : Nat
  opn    : Bool := false
  /-- The second of two copies; to be stored whole before transmission (R389). -/
  second : Bool := false
  store  : Bool := false
  /-- R474: relayed. -/
  relay  : Bool := false
  /-- R391, R415, R417: a PTP frame; a Sync, which one-step stamping corrects; its launch time. -/
  ptp    : Bool := false
  sync   : Bool := false
  launch : Option Word := none
  /-- R419: judged on reaching the head of its queue, and found late; the hold of a perturbation past its launch time. -/
  judged : Bool := false
  late   : Bool := false
  delay  : Nat := 0
  /-- R417: the second copy of a launched frame, which follows the first back to back. -/
  follow : Bool := false
  /-- R381: the spline tag that the last bytes of the frame carry. -/
  tag    : Option SplineTag := none
  /-- R410: whose stamp the frame still waits for, with its index or tag. -/
  stamp  : Option (Owner × BitVec 12) := none
  body   : TxBody
  deriving DecidableEq, Repr

/-- A port beside its registers. `pend`: a PAUSE was obeyed while a frame is in service (R394); `since`: the cycle of the
time-stamp clock at which a pause began (R397). -/
structure NetPort where
  queue : List TxEnt := []
  cur   : Option TxEnt := none
  pend  : Bool := false
  since : Nat := 0
  deriving DecidableEq, Repr

/-- A block of a frame as one twin delivers it to the transmit merge (R387). -/
structure TxBlock where
  head  : TxHead
  bytes : List Byte
  last  : Bool
  deriving DecidableEq, Repr

/-- The transmit merge (R387 to R389). -/
structure MergeSt where
  /-- First copies of blocks that wait for the other twin's. -/
  wait  : List (Copy TxBlock) := []
  /-- A frame is being released; the bytes released; the twin from which alone it is sent. -/
  busy  : Bool := false
  sofar : List Byte := []
  only  : Option Twin := none
  /-- Bytes of the frame that each twin has delivered where it is sent from one alone. -/
  gotA  : Nat := 0
  gotB  : Nat := 0
  /-- Frames of each twin whose remaining blocks are discarded. -/
  skipA : Nat := 0
  skipB : Nat := 0
  /-- R381: the spline tag of the frame being released. -/
  tag   : Option SplineTag := none
  deriving DecidableEq, Repr

/-- An entry of the window table (R386): H, and in bit i whether H − i has been accepted. -/
structure WinEnt where
  origin : BitVec 16
  stream : BitVec 3
  h      : Word
  seen   : BitVec 64
  deriving DecidableEq, Repr

/-- The switch cluster beside its registers. -/
structure NetSt where
  p0    : NetPort := {}
  p1    : NetPort := {}
  p2    : NetPort := {}
  p3    : NetPort := {}
  merge : MergeSt := {}
  /-- The window table, the entry that accepted last first. -/
  win   : List WinEnt := []
  /-- R474: the relay's own counter of stream 7, and whether its next frame is the first. -/
  relaySeq   : Word := 0
  relayFirst : Bool := true
  deriving DecidableEq, Repr

/-- The time-stamp unit beside its registers (R399 to R419). TSU_NOW holds the raw time. -/
structure TsuSt where
  /-- R400: the fraction carried, in units of 2^-28 ns. -/
  frac : Nat := 0
  /-- R403: cycles since the slew last moved the raw time. -/
  slew : Nat := 0
  /-- R408: the FINE entries handed to the comparators, with their raw targets. -/
  fine : List (Nat × Word) := []
  /-- R402: the command that the next cycle applies, with its operand. -/
  pend : Option (Nat × Word) := none
  /-- R406: the anchor committed last: R_a, N_a and S_a. -/
  ra   : Word := 0
  na   : Nat := 0
  sa   : Nat := 0
  /-- Cycles of the time-stamp clock since NET rose. -/
  ran  : Nat := 0
  deriving DecidableEq, Repr

/-- A frame queued on a radio, and the attempts made (R439). -/
structure RadioEnt where
  f     : RadioTx
  tries : Nat := 0
  deriving DecidableEq, Repr

/-- A radio beside its registers (R426 to R439, R451). -/
structure RadioSt where
  /-- R424: the ASN. -/
  asn     : BitVec 40 := 0
  /-- R430: the PAN whose beacon has been received. -/
  heard   : Option (BitVec 16) := none
  /-- R432: consecutive missed beacons. -/
  misses  : Nat := 0
  /-- R431: the correction of the grid still to be made, in µs; the channel of the search by number in the list. -/
  corr    : Int := 0
  hop     : Nat := 0
  /-- R433, R435: the timeslot's receive window: how far it is moved, and whether it is the search window. -/
  shift   : Int := 0
  wide    : Bool := false
  /-- R433: the timeslot has a receive window: the cell in use is an RX cell in which the radio sends nothing. -/
  rx      : Bool := false
  /-- R430, R431: the time source in force in the last timeslot. -/
  src     : Nat := 3
  /-- R439: queued frames, the oldest first; the backoff in shared cells and its exponent. -/
  queue   : List RadioEnt := []
  backoff : Nat := 0
  be      : Nat := 1
  /-- R437: first copies that wait. -/
  copies  : List (Copy RadioTx) := []
  /-- R439, R444, R451: frames, lease changes and failures that wait until CTRL is RUN. -/
  buf     : List SplitIn := []
  deriving DecidableEq, Repr

/-- A key in a tile's memory, with the slot of the key store from which it came (R554, R557). -/
structure TileKey where
  key  : List Byte
  slot : Nat
  deriving DecidableEq, Repr

/-- A lease entry beside its registers: the committed EUI-64, the keys, the NONCE_M of the staged key, and the MAC sequence
number of the frame accepted last (R443, R447, R448). -/
structure LeaseSt where
  eui    : BitVec 64 := 0
  join   : Option TileKey := none
  link   : Option TileKey := none
  staged : Option (TileKey × BitVec 64) := none
  mseq   : Option (BitVec 8) := none
  deriving DecidableEq, Repr

/-- The radio dies beside their registers (R422 to R452). -/
structure AirSt where
  r0     : RadioSt := {}
  r1     : RadioSt := {}
  r2     : RadioSt := {}
  r3     : RadioSt := {}
  leases : Tab LeaseSt := []
  /-- R136: the cells of the SLOT panel, in its order, as the two words of the cell window (W1 high). -/
  cells  : Tab (BitVec 64) := []
  /-- R441: the outgoing frame counter. -/
  fc     : Word := 0
  /-- R442: the key epoch in FRAM. -/
  epoch  : Word := 0
  /-- R445: the twins' own QSEQ. -/
  qseq   : Byte := 0
  deriving DecidableEq, Repr

/-- An endpoint record as firmware keeps it (R488), beside what the record map gives. -/
structure EpRec where
  status  : Nat := 0
  step    : Word := 0
  target  : Nat := 0
  inforce : Nat := 0
  fault   : Word := 0
  q0      : Word := 0
  q1      : Word := 0
  q2      : Word := 0
  q3      : Word := 0
  events  : Word := 0
  imp     : Nat := 0
  exp     : Nat := 0
  deriving DecidableEq, Repr

/-- The commands of R464. -/
inductive HierOp where
  | level (code ramp : BitVec 16) (log : Bool)
  | power (w : BitVec 12)
  | reset (kind : Nat)
  | snapshot (id : BitVec 16)
  | collect (id : BitVec 16)
  | cancel (target : BitVec 16)
  deriving DecidableEq, Repr

/-- A scheduled command and the schedule entry that holds it (R467). -/
structure ArmedCmd where
  entry : Nat
  hdr   : HierHdr
  op    : HierOp
  deriving DecidableEq, Repr

/-- A child of a manager (R461, R478, R487, R517): 0 never seen, 1 present, 2 lost; the next BSEQ of each class. -/
structure ChildSt where
  state    : Nat := 0
  flags    : Nat := 0
  imgSeq   : Word := 0
  sent     : Word := 0
  released : Word := 0
  limit    : Word := 0
  bseq     : Tab (Option (BitVec 16)) := []
  deriving DecidableEq, Repr

/-- An open entry for a command (R471): the mailbox slot where this module issued it, the children whose ACK is awaited, and
the sums so far. -/
structure AckEnt where
  issuer   : BitVec 16
  epoch    : BitVec 8
  cmdId    : BitVec 16
  slot     : Option Nat
  waiting  : List Nat
  counts   : List Nat
  expected : Nat
  missing  : Nat
  map      : BitVec 128
  deriving DecidableEq, Repr

/-- A barrier that waits for its children (R476). -/
structure BarEnt where
  issuer  : BitVec 16
  epoch   : BitVec 8
  cmdId   : BitVec 16
  own     : Nat
  waiting : List Nat
  modules : Nat
  missing : Nat
  deriving DecidableEq, Repr

/-- A TELEM or SNAPDATA frame in the up queue (R480): its length, and its body around SENT; `own` of its header. -/
structure UpEnt where
  mtype : Nat
  len   : Nat
  pre   : List Byte
  post  : List Byte
  own   : Nat := 0
  deriving DecidableEq, Repr

/-- A snapshot (R481, R482): its identifier, the time T, and the summaries. -/
structure SnapSt where
  id      : BitVec 16
  tSec    : BitVec 48
  tNs     : Word
  notrace : Bool
  sums    : Tab (BitVec 64)
  deriving DecidableEq, Repr

/-- A collection in progress (R483): the children whose last frame is awaited, and whether this module issued it. -/
structure CollSt where
  id      : BitVec 16
  waiting : List Nat
  mine    : Bool
  deriving DecidableEq, Repr

/-- Records of consecutive EPAs that wait to be repacked into SNAPDATA frames: OWN, the first EPA, NOTRACE, the summaries. -/
structure SnapPack where
  own     : Nat
  epa     : Word
  notrace : Bool
  sums    : List (BitVec 64)
  deriving DecidableEq, Repr

/-- What the endpoint records are formed from, as it stood when a scheduled snapshot was released (R481). -/
structure LiveSt where
  regs  : Tab Word
  drv   : DrvSt
  chain : Tab ChainSt
  mtr   : MtrSt
  air   : AirSt
  deriving DecidableEq, Repr

/-- The hierarchy beside its registers (R454 to R491). -/
structure HierSt where
  /-- R462: the epoch in FRAM. -/
  epoch      : BitVec 8 := 0
  /-- R463: the epochs held for the parent and the root. -/
  heldParent : Option (BitVec 8) := none
  heldRoot   : Option (BitVec 8) := none
  /-- R456: the parent's address. -/
  parentMac  : Option (BitVec 48) := none
  /-- R460, R461: HELLO and ANNOUNCE owed at the first step after READY; the first ANNOUNCE is still to come. -/
  owed       : Bool := false
  first      : Bool := true
  /-- R461, R470, R476: the children by index; the acknowledgements and the barriers that are awaited. -/
  children   : Tab ChildSt := []
  acks       : List AckEnt := []
  bars       : List BarEnt := []
  /-- R478, R480: SENT and LIMIT of this module as a child, and its up queue. -/
  sent       : Word := 0
  limit      : Word := 0
  upq        : List UpEnt := []
  /-- R479: blocks and the cells of their frames in the forward buffer until they are in the TLM ring; Class S summaries that
  find no room, with their base step and rounds, EPA and OWN, and whether PTP was traceable at that step; credit is withheld. -/
  fwd        : List (List Byte × Nat) := []
  stuck      : List (Word × Nat × Word × Nat × BitVec 64 × Bool) := []
  frozen     : Bool := false
  /-- R488: the endpoint records. -/
  recs       : Tab EpRec := []
  /-- R131: presence levels that the report filter holds back: the input, the level, and the step in which it has lasted long
  enough. -/
  filt       : List (Nat × Bool × BitVec 64) := []
  /-- R464, R472: scheduled commands that are armed, with their entries. -/
  armed      : List ArmedCmd := []
  /-- R481: the state at the release of a scheduled snapshot, by its entry. -/
  atT        : List (Nat × LiveSt) := []
  /-- R481 to R483: the snapshot held, the collection, the next own record to send, children's records to repack, and REGION 3
  by eighths of its offsets. -/
  snap       : Option SnapSt := none
  coll       : Option CollSt := none
  sendNext   : Option Nat := none
  packs      : List SnapPack := []
  region3    : Tab (BitVec 64) := []
  /-- R469: hierarchy frames held while CTRL is in STANDBY, the oldest first. -/
  held       : List Instr := []
  /-- R485: the next byte expected of a transfer. -/
  xferImage  : Nat := 0
  xferFw     : Nat := 0
  deriving DecidableEq, Repr

/-- A Class L entry (R513); `notrace`: PTP was not traceable at its step (R512). -/
structure LItem where
  rec'    : Nat
  ent     : Nat
  qty     : Nat
  value   : Nat
  step    : BitVec 64
  refresh : Bool
  coal    : Bool
  notrace : Bool
  deriving DecidableEq, Repr

/-- What the plane keeps of a Class L record and entry (R498, R516): the last value sent and its step, the OR of FAULT since
the previous sample, and the pending entry. -/
structure LEnt where
  last : Option Nat := none
  at'  : BitVec 64 := 0
  acc  : Word := 0
  pend : Option LItem := none
  deriving DecidableEq, Repr

/-- An open Class B series (R502, R504): its first step, the residue before it, and twice its samples, the oldest first. -/
structure BSer where
  start : BitVec 64
  r0    : Int
  xs    : List Int
  deriving DecidableEq, Repr

/-- The open Class L block; `bad`: it carries samples under R499. -/
structure LBlk where
  items : List LItem
  bad   : Bool
  deriving DecidableEq, Repr

/-- The open Class B block: its base step, whether PTP was not traceable at it (R512), the entries closed so far with their number. -/
structure BBlk where
  base  : BitVec 64
  notrace : Bool
  bytes : List Byte
  count : Nat
  bad   : Bool
  deriving DecidableEq, Repr

/-- A summary slot's accumulator (R509, R510); the residue is in sixteenths. -/
structure SSlot where
  sum  : Int := 0
  min  : Option Int := none
  or   : Nat := 0
  last : Int := 0
  prev : Option Int := none
  res  : Int := 0
  deriving DecidableEq, Repr

/-- A record's accumulator of a round, or of rounds merged: how many were merged into it, and the OR of their HEAD flags (R507,
R509, R516). -/
structure SAcc where
  n      : Nat := 0
  rounds : Nat := 0
  head   : Nat := 0
  flags  : Nat := 0
  ev0    : Option Word := none
  ev     : Word := 0
  step0  : Option Word := none
  step   : Word := 0
  online : Bool := false
  slots  : List SSlot := [{}, {}, {}]
  deriving DecidableEq, Repr

/-- A summary placed in a Class S block: its EPA and OWN, whether PTP was not traceable at its round's boundary (R512), and for one
of the module's own records the accumulator that a later
round is merged with where the block is not queued. -/
structure SItem where
  epa : Word
  own : Nat
  sum : BitVec 64
  notrace : Bool
  mine : Option (Nat × SAcc)
  deriving DecidableEq, Repr

/-- The open Class S block. -/
structure SBlk where
  base   : Word
  rounds : Nat
  items  : List SItem
  deriving DecidableEq, Repr

/-- The telemetry plane beside its registers (R493 to R518). Entries are keyed by 1,024 times the record plus the entry. -/
structure PlnSt where
  lents    : Tab LEnt := []
  bres     : Tab Int := []
  series   : Tab (Option BSer) := []
  accs     : Tab SAcc := []
  deferred : List (Nat × Nat) := []
  blkL     : Option LBlk := none
  blkB     : Option BBlk := none
  blkS     : Option SBlk := none
  /-- R516: own summaries that are not queued, with the base step and rounds of their block. -/
  unsent   : List (Word × Nat × SItem) := []
  /-- R506, R512: FIRST is owed in each class's next block; the next BSEQ. -/
  firstL   : Bool := true
  firstB   : Bool := true
  firstS   : Bool := true
  bseqL    : BitVec 16 := 0
  bseqB    : BitVec 16 := 0
  bseqS    : BitVec 16 := 0
  deriving DecidableEq, Repr

/-- The states of a twin (R543). -/
inductive TwinState where
  | inStep | proving | failed | rejoining | shadow | heldOut
  deriving DecidableEq, Repr

/-- What a perturbation delays of a twin's outputs (R594): its digest of a step, or a copy on its way to a route. -/
inductive LateCopy where
  | digest (t : Twin) (step digest : BitVec 64)
  | mitre (t : Twin) (copy : MitreCopy)
  | block (t : Twin) (b : TxBlock)
  | host (tlm : Bool) (t : Twin) (item : HostItem)
  | radio (r : Nat) (t : Twin) (f : RadioTx)
  deriving DecidableEq, Repr

/-- The splitter, the mitre's pairing and the twin health block (R521 to R544). -/
structure TwnSt where
  a        : TwinState := .inStep
  b        : TwinState := .inStep
  /-- R35: the read-source twin. -/
  readSrc  : Twin := .a
  /-- R521: the step number. -/
  step     : BitVec 64 := 0
  /-- R544: TWN_STEP_HI's latch. -/
  stepHi   : Word := 0
  /-- Inputs captured in the present step, in order of capture (R522), and frames deferred (R523). -/
  inbox    : List SplitIn := []
  backlog  : List SplitIn := []
  /-- R101, R227: requests and writes that wait for CTRL RUN and READY. -/
  heldReq  : List SplitIn := []
  /-- What the splitter presented to both twins at the last boundary (R524). -/
  shown    : List SplitIn := []
  /-- R525: digests that have arrived and not been compared: the twin, the step and the digest. -/
  digests  : List (Twin × BitVec 64 × BitVec 64) := []
  /-- R526: first copies at the mitre. -/
  copies   : List (Copy MitreItem) := []
  /-- R594 kinds 13 and 14: copies and digests that a perturbation delays: the step boundaries still to pass for a digest, or the
  time in µs for a copy. -/
  late     : List (Nat × LateCopy) := []
  /-- R381: the next SEQ of each stream; none: the stream's first frame is still to come. -/
  seqs     : Tab (Option Word) := []
  /-- R530: the step numbers at which each twin took a strike. -/
  strikesA : List (BitVec 64) := []
  strikesB : List (BitVec 64) := []
  /-- R530: addresses corrected in each twin, with the step of the correction. -/
  corrA    : List (Nat × BitVec 64) := []
  corrB    : List (Nat × BitVec 64) := []
  /-- R536: consecutive equal digests in SHADOW. -/
  equal    : Nat := 0
  /-- R538: the FRAM history. -/
  histA    : Nat := 0
  histB    : Nat := 0
  /-- R543: the counts of the health report, the carrier fault, the report as last rewritten and the latch of its words. -/
  sramA    : Word := 0
  sramB    : Word := 0
  dramA    : Word := 0
  dramB    : Word := 0
  framCorr : Word := 0
  sweepA   : Word := 0
  sweepB   : Word := 0
  carrier  : Bool := false
  mitreDis : Word := 0
  mismatch : Word := 0
  switches : Word := 0
  report   : List Word := []
  latch    : List Word := []
  deriving DecidableEq, Repr

/-- What a running key operation does when it completes (R556). -/
inductive KeyAct where
  /-- Slot filled: TYPE, USAGE, PARENT, DEPTH, PGEN, IMPORTED and the material. -/
  | fill (slot type usage parent depth pgen : Nat) (imported : Bool) (mat : List Byte)
  /-- Bytes into KEY_OUT; none: KEY_OUT is unpredictable. -/
  | out (bytes : Option (List Byte))
  /-- A signature into KEY_OUT, which both twins' engines make. -/
  | sign (bytes : Option (List Byte))
  | load (dst : LoadDst) (key : List Byte)
  | disarm
  /-- R562: whether the signature verified. -/
  | debug (good : Bool)
  deriving DecidableEq, Repr

/-- A key operation in progress: what it does, and the slot whose material it works on. -/
structure KeyRun where
  act  : KeyAct
  slot : Nat
  deriving DecidableEq, Repr

/-- The key store beside its registers (R547 to R562). -/
structure KeySt where
  /-- R547: the material of each slot; an unlisted slot holds zero. -/
  mats    : Tab (List Byte) := []
  /-- R556: the cipher engines' key registers, the same in both twins. -/
  engines : Tab (Option TileKey) := []
  /-- R556: the operation in progress. -/
  run     : Option KeyRun := none
  /-- R557: destroyed slots whose loaded keys are cleared when the running operation ends. -/
  purge   : List Nat := []
  /-- R562: the challenge issued and not consumed. -/
  chal    : Option (List Byte) := none
  /-- R558: the tamper conditions that hold, whether armed or not. -/
  outside : List TamperSrc := []
  /-- R77: the 1-bit bypass register, all that J18 presents while it is closed. No command of the table clocks J18. -/
  bypass  : Bool := false
  deriving DecidableEq, Repr

/-- What a copy of the settings record holds (R585). `good`: its MAGIC and CRC are good; the items by ID. -/
structure SetCopy where
  good  : Bool := false
  wseq  : Word := 0
  sver  : Nat := 0
  items : List (Nat × List Word) := []
  deriving DecidableEq, Repr

/-- Which store a staging operation works on. -/
inductive StoreId where
  | image | firmware
  deriving DecidableEq, Repr

/-- A recovery session over P0 (R583): its owner, the store it stages into, and the next byte expected. -/
structure RcvSess where
  owner : BitVec 48
  store : StoreId
  next  : Nat
  deriving DecidableEq, Repr

/-- The firmware store, recovery and the settings records (R567 to R588). The slots, the pointer word, the floor, the
recovery flag and the copies are FRAM contents. -/
structure UpdSt where
  slot0    : Tab Byte := []
  slot1    : Tab Byte := []
  len0     : Nat := 0
  len1     : Nat := 0
  /-- R568: the pointer word: SLOT, TRIAL, ATTEMPTS, PREV, BACKUP. -/
  slot     : Bool := false
  trial    : Bool := false
  attempts : Nat := 0
  prev     : Bool := false
  backup   : Bool := false
  /-- R574: the firmware sequence floor. -/
  floor    : Word := 0
  /-- R575: the STAGED slot. -/
  stg      : Staging := {}
  /-- R580: the recovery flag. -/
  recFlag  : Bool := false
  /-- R585: the bytes of the copies. -/
  setA     : Tab Byte := []
  setB     : Tab Byte := []
  /-- R588: SAVE_SETTINGS (false) or DEFAULTS (true) waits for the step boundary. -/
  setAsk   : Option Bool := none
  /-- R588: the items' registers that the host has written in this step. -/
  wrote    : List Nat := []
  /-- R588: the items being written to a copy. -/
  saving   : Option (List (Nat × List Word)) := none
  /-- R583: the session, and the last request answered with its operation and status. -/
  sess     : Option RcvSess := none
  last     : Option (BitVec 16 × Nat × Code) := none
  deriving DecidableEq, Repr

/-- R440, R441: the auxiliary security header of a radio frame, and the CCM* nonce it is secured with. -/
structure RadioSec where
  level : Nat
  keyMode : Nat
  keyIndex : Nat
  fc : Word
  nonce : List Byte
  deriving DecidableEq, Repr

/-- R440: the MAC header of a radio frame that the module sends. -/
structure RadioHead where
  version : Nat
  panCompressed : Bool
  pan : BitVec 16
  src : RadioDst
  dst : Option RadioDst
  sec : Option RadioSec
  deriving DecidableEq, Repr

/-- R446: the IEs of an enhanced beacon: the ASN (TSCH Synchronization), the template in µs in the order of R427 and the timeslot's
length (Timeslot), the hopping list (Channel Hopping), and handle, length and cells of each slotframe, a cell by its timeslot,
channel offset and options (Slotframe and Link). -/
structure BeaconIes where
  asn : Nat
  template : List Nat
  hop : List Nat
  frames : List (Nat × Nat × List (Nat × Nat × Nat))
  deriving DecidableEq, Repr

/-- What the module has sent out, in order. -/
inductive Output where
  /-- R28: a reference or driver word that the twins issue; the copies reach the mitre as commands of their own. -/
  | issue (item : MitreItem)
  /-- R164: an MSI memory write: its address and data. -/
  | msi (addr : BitVec 64) (data : BitVec 16)
  /-- R176: bytes written to host memory. -/
  | hostMem (addr : BitVec 64) (bytes : List Byte)
  /-- R180: a descriptor written back: its ring and index, CTRL, DONE_LEN, STATUS, and META0 and META1 where written. -/
  | writeBack (ring index : Nat) (ctrl doneLen status : BitVec 16) (meta0 meta1 : Option (BitVec 64))
  /-- R261: a chain frame latched: the bits that DAT presented, the first first. -/
  | chain (port : Nat) (bits : List Bool)
  /-- R378, R380, R393: a frame sent on a wired port: its bytes up to the FCS, with the VLAN tag inserted, and whether its FCS is
  good. -/
  | frame (port : Nat) (bytes : List Byte) (vlan : Option (BitVec 12 × BitVec 3)) (fcsOk : Bool)
  /-- R422, R439 to R441, R445: a Querad message sent by a radio: the centre of its channel in kHz, the power in dBm, the header,
  the message. -/
  | radio (r khz dbm : Nat) (head : RadioHead) (msg : List Byte)
  /-- R423, R446: a beacon: the centre of its channel in kHz, the power in dBm, the header, the IEs, the Querad record. -/
  | beacon (r khz dbm : Nat) (head : RadioHead) (ies : BeaconIes) (record : List Byte)
  /-- R436, R440: an enhanced acknowledgement: the header, and the time correction in µs. -/
  | radioAck (r : Nat) (head : RadioHead) (off : Int)
  /-- R457, R459: a hierarchy frame that the twins or the switch cluster issue: queue, destination, and its bytes after the
  EtherType. -/
  | hier (queue : Nat) (dst : BitVec 48) (bytes : List Byte)
  /-- R445, R447, R466: a Querad message that the twins issue to a glowworm; its copies reach the tile as commands of their own. -/
  | glow (r : Nat) (dst : RadioDst) (msg : List Byte)
  /-- R495: a plane block that the twins issue to the host merge. -/
  | tlm (block : List Byte)
  /-- R385: a received frame that firmware passes to FRX; its copies reach the host merge as commands of their own. -/
  | frx (item : HostItem)
  /-- R582, R583: a recovery frame: its destination and body. -/
  | recovery (dst : BitVec 48) (body : List Byte)
  deriving DecidableEq, Repr

/-- The state of the module. -/
structure State where
  /-- Every register of the map by offset; an offset with no entry holds its reset value. -/
  regs     : Tab Word := []
  /-- R19: the bits of each register whose read-back is unpredictable until the next correct write. -/
  unpred   : Tab Word := []
  /-- What the last read by the host returned. -/
  hostData : List Word := []
  /-- The number of free values drawn so far. The model's own field. -/
  free     : Nat := 0
  /-- The blocks whose RWL fields are sealed. -/
  sealed   : List Block := []
  /-- R1: the pulse inputs of J14 are fitted: the module is an STR-6464-X, else an STR-6464-C. -/
  fitS0    : Bool := true
  /-- The blocks, beside their registers. -/
  sys      : SysSt := {}
  img      : ImgSt := {}
  port     : PortSt := {}
  dma0     : DmaRing := {}
  dma1     : DmaRing := {}
  dma2     : DmaRing := {}
  dma3     : DmaRing := {}
  intc     : IntcSt := {}
  drv      : DrvSt := {}
  chain    : Tab ChainSt := []
  rfx      : RfxSt := {}
  cal      : CalSt := {}
  mtr      : MtrSt := {}
  net      : NetSt := {}
  tsu      : TsuSt := {}
  air      : AirSt := {}
  key      : KeySt := {}
  upd      : UpdSt := {}
  hier     : HierSt := {}
  pln      : PlnSt := {}
  twn      : TwnSt := {}
  /-- R592: the first unlock word has been accepted. -/
  tstHalf  : Bool := false
  /-- R596: per slot, the eligible events since its last application, and the applications it has made since EN was written. -/
  tstSeen  : Tab Nat := []
  tstDone  : Tab Nat := []
  /-- What the module has sent out, the latest first. -/
  out      : List Output := []
  /-- The commands that wait, first in first out. -/
  pending  : List Instr := []
  deriving DecidableEq, Repr

/-- The machine right after reset.
(log 1 DESIGN CHOICE, 2 DESIGN CHOICE, 3 DESIGN CHOICE, 4 DESIGN CHOICE, 5 PRESUMED, 6 DESIGN CHOICE, 24 DEDUCED) -/
def State.reset : State := { regs := [(0x018, 1)], sys := { held := false, start := some .powerOn, snapOwed := true } }

end Sys2Proof.Machine
end

