-- ==== Sys2Proof/Machine/Ops.lean ====
section
/-! DEFINITION. The named operations every family uses: reading and writing registers and their fields, counters,
free values, the domains' states, interrupt pulses, and what the splitter captures. Each takes the state last, so that
effects read in the order in which they happen. -/

namespace Sys2Proof.Machine

/-! ### Bits of a word -/

/-- Bits [lo + w - 1 : lo] of a word, as a number. -/
def getBits (x : Word) (lo w : Nat) : Nat := (x.toNat >>> lo) % 2 ^ w

/-- The word with bits [lo + w - 1 : lo] set to `v` modulo 2^w. -/
def putBits (x : Word) (lo w v : Nat) : Word :=
  BitVec.ofNat 32 (x.toNat - getBits x lo w * 2 ^ lo + (v % 2 ^ w) * 2 ^ lo)

/-- Bit `i` of a word. -/
def bitOf (x : Word) (i : Nat) : Bool := x.getLsbD i

/-- 1 for true. -/
def b2n (b : Bool) : Nat := if b then 1 else 0

/-- A number as a 32-bit word. -/
def w32 (n : Nat) : Word := BitVec.ofNat 32 n

/-- The two's complement value of the low `n` bits of a number (R46 to R49, R314, R400). -/
def signed (n v : Nat) : Int := if v % 2 ^ n < 2 ^ (n - 1) then (v % 2 ^ n : Nat) else ((v % 2 ^ n : Nat) : Int) - (2 ^ n : Nat)

/-- An integer as `n` bits of two's complement. -/
def unsigned (n : Nat) (v : Int) : Nat := (v % (2 ^ n : Nat)).toNat

/-- `v` brought into lo to hi, the nearest value in range (R603). -/
def clampNat (lo hi v : Nat) : Nat := if v < lo then lo else if hi < v then hi else v

/-- The same for integers. -/
def clampInt (lo hi v : Int) : Int := if v < lo then lo else if hi < v then hi else v

/-! ### Registers -/

/-- The stored value of the register at `off`. -/
def getR (s : State) (off : Nat) : Word := tabGet regReset s.regs off

/-- Stores a value in the register at `off`. -/
def setR (off : Nat) (v : Word) (s : State) : State := { s with regs := tabSet regReset s.regs off v }

/-- A field of a register: its offset, its lowest bit and its width. -/
structure Fld where
  off : Nat
  lo  : Nat
  w   : Nat
  deriving DecidableEq, Repr

/-- The value of a field. -/
def getF (s : State) (f : Fld) : Nat := getBits (getR s f.off) f.lo f.w

/-- Sets a field; the register's other bits stay. -/
def setF (f : Fld) (v : Nat) (s : State) : State := setR f.off (putBits (getR s f.off) f.lo f.w v) s

/-- Whether a one-bit field is 1. -/
def flag (s : State) (f : Fld) : Bool := decide (getF s f = 1)

/-- Sets a one-bit field. -/
def setB (f : Fld) (b : Bool) (s : State) : State := setF f (b2n b) s

/-- Adds `k` to a counter field, which saturates at its greatest value. -/
def addF (f : Fld) (k : Nat) (s : State) : State := setF f (min (2 ^ f.w - 1) (getF s f + k)) s

/-- Adds one to the 32-bit saturating counter at `off`. -/
def bump (off : Nat) (s : State) : State := addF ⟨off, 0, 32⟩ 1 s

/-- Adds `k` to the 32-bit saturating counter at `off`. -/
def bumpBy (off k : Nat) (s : State) : State := addF ⟨off, 0, 32⟩ k s

/-- Returns every register that `p` selects to its reset value, and ends its unpredictable bits. -/
def clearRegs (p : Nat → Bool) (s : State) : State :=
  { s with regs := tabClear p s.regs, unpred := tabClear p s.unpred }

/-- Whether an offset lies in a block's window. -/
def inBlock (b : Block) (off : Nat) : Bool := decide (blockOf off = some b)

/-- The registers of a block return to their reset values. -/
def clearBlock (b : Block) (s : State) : State := clearRegs (inBlock b) s

/-- Applies a state change for each element of a list, in order. -/
def each {α : Type} (xs : List α) (f : α → State → State) (s : State) : State := xs.foldl (fun s x => f x s) s

/-- A state change under a condition. -/
def when (c : Bool) (f : State → State) (s : State) : State := if c then f s else s

/-- The outcome of a command that always completes. -/
def after (o : Host.Outcome State Fault Refusal) (s : State) : State :=
  match o with | .next t => t | _ => s

/-! ### Answers -/

/-- The number of a result code (R16). -/
def Code.num : Code → Nat
  | .ok => 0 | .busy => 1 | .state => 2 | .stale => 3 | .nokey => 4 | .orphan => 5 | .late => 6 | .denied => 7

/-! ### Free values and unpredictable scopes -/

/-- The next free value. (log 6 DESIGN CHOICE) -/
def freeOf (s : State) : Word := Config.freeWord s.free

/-- One free value has been drawn. (log 6 DESIGN CHOICE) -/
def drawn (s : State) : State := { s with free := s.free + 1 }

/-- The next free value below `n + 1`. (log 6 DESIGN CHOICE) -/
def freeBelow (n : Nat) (s : State) : Nat := (freeOf s).toNat % (n + 1)

/-- The bits `mask` of the register at `off` read back unpredictably from now on (R19). (log 6 DESIGN CHOICE) -/
def spoil (off mask : Nat) (s : State) : State :=
  { s with unpred := tabSet (fun _ => 0) s.unpred off (tabGet (fun _ => 0) s.unpred off ||| w32 mask) }

/-- The register at `off` has been written correctly (R21). (log 6 DESIGN CHOICE, 48 DEDUCED) -/
def unspoil (off : Nat) (s : State) : State := { s with unpred := tabSet (fun _ => 0) s.unpred off 0 }

/-- Every readable bit of the register at `off` becomes unpredictable.
(log 6 DESIGN CHOICE, 48 DEDUCED, 53 DESIGN CHOICE) -/
def spoilReg (off : Nat) (s : State) : State := spoil off (readMask off) s

/-- The bits `mask` of the register at `off` read back unpredictably until a rule of their own ends it, not the next write
of the register: kept beside the register's own entry. -/
def spoilLong (off mask : Nat) (s : State) : State := spoil (off + 1) mask s

/-- The end that such a rule names. -/
def unspoilLong (off : Nat) (s : State) : State := unspoil (off + 1) s

/-- The bits of the register at `off` that read back unpredictably now. (log 6 DESIGN CHOICE) -/
def unpredAt (s : State) (off : Nat) : Word :=
  tabGet (fun _ => 0) s.unpred off ||| tabGet (fun _ => 0) s.unpred (off + 1) ||| tabGet (fun _ => 0) s.unpred (off + 2)

/-! ### Outputs -/

/-- The module sends something out. (log 9 DESIGN CHOICE, 138 DESIGN CHOICE) -/
def emit (o : Output) (s : State) : State := { s with out := o :: s.out }

/-! ### Domains (R78, R90) -/

/-- The states of CTRL. -/
inductive CtrlState where
  | off | standby | run | halted
  deriving DecidableEq, Repr

/-- The states of DRIVE. -/
inductive DriveState where
  | off | hold | live
  deriving DecidableEq, Repr

/-- The states of FAB. -/
inductive FabState where
  | off | cold | hot
  deriving DecidableEq, Repr

/-- The field of SYS_PWR_STAT that reports a domain. -/
def Dom.fld : Dom → Fld
  | .ctrl => ⟨4, 0, 2⟩ | .net => ⟨4, 2, 2⟩ | .air => ⟨4, 4, 2⟩ | .drive => ⟨4, 6, 2⟩ | .mtr => ⟨4, 8, 2⟩
  | .fab => ⟨4, 10, 2⟩

/-- A domain's state as SYS_PWR_STAT codes it. -/
def domState (s : State) (d : Dom) : Nat := getF s d.fld

/-- The state of CTRL. -/
def ctrl (s : State) : CtrlState :=
  match domState s .ctrl with | 0 => .off | 1 => .standby | 2 => .run | _ => .halted

/-- The state of DRIVE. -/
def drive (s : State) : DriveState := match domState s .drive with | 0 => .off | 1 => .hold | _ => .live

/-- The state of FAB. -/
def fab (s : State) : FabState := match domState s .fab with | 0 => .off | 1 => .cold | _ => .hot

def netOn (s : State) : Bool := decide (domState s .net ≠ 0)
def airOn (s : State) : Bool := decide (domState s .air ≠ 0)
def mtrOn (s : State) : Bool := decide (domState s .mtr ≠ 0)
def ctrlRun (s : State) : Bool := decide (ctrl s = .run)
def ctrlOn (s : State) : Bool := decide (ctrl s ≠ .off)
def driveOn (s : State) : Bool := decide (drive s ≠ .off)
def driveLive (s : State) : Bool := decide (drive s = .live)
def fabOn (s : State) : Bool := decide (fab s ≠ .off)

/-- The domain a block lives in; AON is always powered (R31). -/
def Block.dom : Block → Option Dom
  | .sys | .cal | .key => none
  | .img | .intc | .upd | .dma | .hier | .pln | .twn | .tst => some .ctrl
  | .drv | .chn => some .drive
  | .mtr => some .mtr
  | .rfx => some .fab
  | .net | .tsu => some .net
  | .air => some .air

/-- Whether a block's domain is powered (R33). -/
def blockUp (s : State) (b : Block) : Bool :=
  match b.dom with
  | none => true
  | some d => decide (domState s d ≠ 0)

/-- R102: the stage as SYS_BOOT_STAT codes it. -/
def stageNum : Stage → Nat
  | .aon => 0 | .ref => 1 | .safe => 2 | .rom => 3 | .img => 4 | .fw => 5 | .ready => 6 | .recovery => 14
  | .haltTamper => 15

/-- SYS_BOOT_STAT.STAGE. -/
def stageFld : Fld := ⟨0x1C, 0, 4⟩

/-- Start-up has reached READY. -/
def atReady (s : State) : Bool := decide (getF s stageFld = 6)

/-- R109: the block's fields are sealed. -/
def isSealed (s : State) (b : Block) : Bool := s.sealed.contains b

/-- Seals a block. -/
def sealBlock (b : Block) (s : State) : State := { s with sealed := b :: s.sealed.filter (· ≠ b) }

/-- Breaks a block's seal. -/
def unsealBlock (b : Block) (s : State) : State := { s with sealed := s.sealed.filter (· ≠ b) }

/-- IMG_STAT.SEALED. -/
def imgSealed (s : State) : Bool := flag s ⟨0x10004, 0, 1⟩

/-! ### Interrupt pulses (R194, R196) -/

/-- The offset of the word of a source in a register of eight words. -/
def srcOff (base n : Nat) : Nat := base + 4 * (n / 32)

/-- The bit of source `n` in a register of eight words. -/
def srcBit (s : State) (base n : Nat) : Bool := bitOf (getR s (srcOff base n)) (n % 32)

/-- Sets the bit of source `n`. -/
def setSrcBit (base n : Nat) (b : Bool) (s : State) : State := setB ⟨srcOff base n, n % 32, 1⟩ b s

/-- INTC_SRC_CFG.CORE and HOST of a source. -/
def srcCore (s : State) (n : Nat) : Nat := getF s ⟨0x20400 + 4 * n, 0, 2⟩
def srcHost (s : State) (n : Nat) : Nat := getF s ⟨0x20400 + 4 * n, 2, 2⟩

/-- R194: an event of source `n` sets the pending bit of every route that names a target. The controller runs while
CTRL is powered (R195); a reserved source never becomes pending (R197). -/
def raise (n : Nat) (s : State) : State :=
  if ctrlOn s && srcDefined n then
    let s := if srcCore s n = 1 ∨ srcCore s n = 2 then setSrcBit 0x201A0 n true s else s
    if srcHost s n = 1 ∨ srcHost s n = 2 then setSrcBit 0x20120 n true s else s
  else s

/-! ### Wake (R94, R95) -/

/-- The bit of a wake source in SYS_WAKE_MASK (R92). -/
def wakeBit : WakeSrc → Nat
  | .prs => 0 | .alm0 => 1 | .alm1 => 2 | .sched => 3 | .net => 4 | .air => 5 | .j1 => 6 | .intc => 7

/-! ### The splitter's captures (R26, R101, R227) -/

/-- The splitter captures an input in the present step. -/
def capture (x : SplitIn) (s : State) : State :=
  if ctrlRun s then { s with twn := { s.twn with inbox := s.twn.inbox ++ [x] } } else s

/-- R174, R523: a completion of the bus master; while the twins take no steps it is held, and none is lost.
(log 167 DESIGN CHOICE) -/
def captureBus (x : SplitIn) (s : State) : State :=
  if ctrlRun s && atReady s then capture x s
  else if ctrlOn s then { s with twn := { s.twn with backlog := s.twn.backlog ++ [x] } } else s

/-- A host write or request addressed to the twins: captured in RUN once start-up has reached READY; held while STANDBY
or before READY; not presented while CTRL is OFF or HALTED (R101, R227, R260). -/
def captureReq (x : SplitIn) (s : State) : State :=
  match ctrl s with
  | .run => if atReady s then capture x s else { s with twn := { s.twn with heldReq := s.twn.heldReq ++ [x] } }
  | .standby => { s with twn := { s.twn with heldReq := s.twn.heldReq ++ [x] } }
  | _ => s

/-! ### Discipline of the calendar (R317, R318) -/

/-- CAL_DISC.MODE: the host owns the calendar (R313, R318). -/
def calHost (s : State) : Bool := flag s ⟨0x30044, 0, 1⟩

/-- CAL_DISC.DISC, with its copy. -/
def setDisc (b : Bool) (s : State) : State := setB ⟨0x30044, 1, 1⟩ b (setB ⟨0x30000, 2, 1⟩ b s)

/-! ### Perturbation slots (R594 to R598) -/

/-- The registers of slot `i`. -/
def tstCfg (i : Nat) : Nat := 0xF00100 + 0x10 * i

/-- TST_STAT.UNLOCKED. -/
def tstUnlocked (s : State) : Bool := flag s ⟨0xF00004, 0, 1⟩

/-- Whether slot `i` is enabled for this kind and target. (log 69 DEDUCED) -/
def tstMatch (s : State) (kind target i : Nat) : Bool :=
  let c := getR s (tstCfg i)
  tstUnlocked s && bitOf c 0 && decide (getBits c 1 5 = kind) && decide (getBits c 8 8 = target)

/-- R597: the lowest-numbered enabled slot of this kind and target. -/
def tstSlot (s : State) (kind target : Nat) : Option Nat := (List.range 16).find? (tstMatch s kind target)

/-- R594: the limit of a kind's amount, and whether the kind is signed. -/
def tstLimit (kind : Nat) : Nat × Bool :=
  match kind with
  | 1 => (90, false) | 2 => (1000, false) | 3 => (65535, false) | 4 => (65535, false) | 6 => (8192, false)
  | 7 => (2500, true) | 10 => (100, true) | 11 => (64, false) | 12 => (65535, false) | 13 => (2, false)
  | 14 => (250, false) | 15 => (3, false) | 16 => (127, false) | 17 => (255, false)
  | _ => (65535, false)

/-- R595: the amount of one application: MAG plus a free whole number from −JIT to +JIT, clamped to the kind's limit. -/
def tstAmount (s : State) (kind i : Nat) : Int :=
  let m := getR s (tstCfg i + 4)
  let lim := tstLimit kind
  let jit := getBits m 16 16
  let d : Int := (freeBelow (2 * jit) s : Int) - (jit : Int)
  if lim.2 then clampInt (-(lim.1 : Int)) lim.1 (clampInt (-(lim.1 : Int)) lim.1 (signed 16 (getBits m 0 16)) + d)
  else clampInt 0 lim.1 ((min lim.1 (getBits m 0 16) : Nat) + d)

/-- R596: an eligible event of a kind at a target. Answers the amount where the slot applies to it, and counts it.
(log 69 DEDUCED) -/
def tstApply (kind target : Nat) (s : State) : Option Int × State :=
  match tstSlot s kind target with
  | none => (none, s)
  | some i =>
    let c := getR s (tstCfg i + 8)
    let st := getR s (tstCfg i + 12)
    if bitOf st 16 then (none, s)
    else
      let seen := tabGet (fun _ => 0) s.tstSeen i
      if seen < getBits c 16 16 then (none, { s with tstSeen := tabSet (fun _ => 0) s.tstSeen i (seen + 1) })
      else
        let amt := tstAmount s kind i
        let n := tabGet (fun _ => 0) s.tstDone i + 1
        let s := { s with tstSeen := tabSet (fun _ => 0) s.tstSeen i 0, tstDone := tabSet (fun _ => 0) s.tstDone i n }
        let s := addF ⟨tstCfg i + 12, 0, 16⟩ 1 (drawn s)
        let s := if getBits c 0 16 ≠ 0 ∧ getBits c 0 16 ≤ n then setF ⟨tstCfg i + 12, 16, 1⟩ 1 s else s
        (some amt, s)

/-- R596: the amount a continuous kind withholds at a target while its slot is enabled. -/
def tstHeld (s : State) (kind target : Nat) : Nat :=
  match tstSlot s kind target with
  | none => 0
  | some i => min (tstLimit kind).1 (getBits (getR s (tstCfg i + 4)) 0 16)

end Sys2Proof.Machine
end

