-- ==== Sys2Proof/Machine/Operands.lean ====
section
/-! DEFINITION. How the words that commands carry are read: the state word of a power command, endpoint addresses, byte
strings as words, and instance numbers from offsets. -/

namespace Sys2Proof.Machine

/-- The place of a domain's field in SYS_PWR_CMD[11:0] (R82). -/
def Dom.cmdLo : Dom → Nat
  | .ctrl => 0 | .net => 2 | .air => 4 | .drive => 6 | .mtr => 8 | .fab => 10

/-- R82, R84: a field of NET, AIR or MTR that holds the reserved value 3. (log 18 DEDUCED) -/
def pwrReserved (w : Word) (d : Dom) : Bool :=
  decide (getBits w d.cmdLo 2 = 3) && (decide (d = .net) || decide (d = .air) || decide (d = .mtr))

/-- R82: the state a command asks of a domain, as SYS_PWR_STAT codes it: the present one where the field is 0 or
reserved, else the field less one. (log 18 DEDUCED) -/
def pwrTarget (s : State) (w : Word) (d : Dom) : Nat :=
  if getBits w d.cmdLo 2 = 0 ∨ pwrReserved w d = true then domState s d else getBits w d.cmdLo 2 - 1

/-- The fields of an endpoint address (R11, R12: bits [31:25] are ignored). -/
def epaArea (e : Word) : Nat := getBits e 18 7
def epaWorker (e : Word) : Nat := getBits e 11 7
def epaRecord (e : Word) : Nat := getBits e 0 11

/-- Four bytes of a string as a word, the first in [7:0]. -/
def leWord : List Byte → Word
  | a :: b :: c :: d :: _ => w32 (a.toNat + b.toNat * 2 ^ 8 + c.toNat * 2 ^ 16 + d.toNat * 2 ^ 24)
  | a :: b :: c :: [] => w32 (a.toNat + b.toNat * 2 ^ 8 + c.toNat * 2 ^ 16)
  | a :: b :: [] => w32 (a.toNat + b.toNat * 2 ^ 8)
  | a :: [] => w32 a.toNat
  | [] => 0

/-- A little-endian number of any length. -/
def leNat : List Byte → Nat
  | [] => 0
  | b :: bs => b.toNat + 256 * leNat bs

/-- The `n` low bytes of a number, least significant first. -/
def leBytes : Nat → Nat → List Byte
  | 0, _ => []
  | n + 1, v => BitVec.ofNat 8 v :: leBytes n (v / 256)

/-- A word's four bytes, the first from [7:0]. -/
def wordBytes (w : Word) : List Byte := leBytes 4 w.toNat

end Sys2Proof.Machine
end

