-- ==== Sys2Proof/Machine/PowerCmd.lean ====
section
/-! DEFINITION. Power commands and wake: the check of a command, its answer, the order of its changes, and the firing of
an armed wake source (R82 to R95). What a change does when it completes is in Power.lean. -/

namespace Sys2Proof.Machine

/-- The fields of SYS_PWR_STAT beside the domains' (R90). -/
def pwrBusy : Fld := ⟨4, 12, 1⟩
def pwrSave : Fld := ⟨4, 13, 1⟩
def pwrFault : Fld := ⟨4, 14, 1⟩
def pwrSrc : Fld := ⟨4, 15, 1⟩
def pwrResult : Fld := ⟨4, 16, 8⟩
def pwrTag : Fld := ⟨4, 24, 8⟩

/-- The order in which domains rise (R87); they fall in the reverse order. -/
def riseOrder : List Dom := [.ctrl, .drive, .mtr, .net, .air, .fab]

/-- R87: the changes of a command, the rises first, each in its order. -/
def pwrChanges (s : State) (w : Word) : List DomChange :=
  (riseOrder.filter (fun d => decide (domState s d < pwrTarget s w d))).map (fun d => ⟨d, pwrTarget s w d⟩) ++
  (riseOrder.reverse.filter (fun d => decide (pwrTarget s w d < domState s d))).map (fun d => ⟨d, pwrTarget s w d⟩)

/-- Whether a command changes a domain. (log 16 DEDUCED) -/
def pwrMoves (s : State) (w : Word) (d : Dom) : Bool := decide (pwrTarget s w d ≠ domState s d)

/-- R85, R149: the resulting configuration breaks a line of the table, or the image is not sealed and the command would
place DRIVE in LIVE or FAB in an armed state. (log 16 DEDUCED) -/
def pwrRefused (s : State) (w : Word) : Bool :=
  let t := pwrTarget s w
  (decide (t .drive = 2) && decide (t .ctrl ≠ 2)) ||
  ((decide (t .net ≠ 0) || decide (t .air ≠ 0) || decide (t .mtr ≠ 0)) && decide (t .ctrl = 0)) ||
  (decide (t .fab ≠ 0) && decide (t .drive = 0)) ||
  (decide (domState s .fab = 0) && decide (t .fab ≠ 0) && decide (t .ctrl ≠ 2)) ||
  (flag s pwrSave && riseOrder.any (pwrMoves s w)) ||
  (decide (ctrl s = .halted) && pwrMoves s w .ctrl) ||
  (!imgSealed s && ((decide (t .drive = 2) && pwrMoves s w .drive) || (decide (t .fab ≠ 0) && pwrMoves s w .fab)))

/-- R90, R91: the report of an answered command. (log 17 DESIGN CHOICE, 155 DESIGN CHOICE) -/
def pwrAnswer (c : Code) (tag : Nat) (wake : Bool) (cmdId issuer : Nat) (s : State) : State :=
  setF pwrResult c.num (setF pwrTag tag (setB pwrSrc wake (setF ⟨0x20, 0, 16⟩ cmdId (setF ⟨0x20, 16, 16⟩ issuer
    (unspoilLong 4 s)))))

/-- The next change of the executing command begins: a rise of CTRL from OFF restarts start-up at stage ROM (R105,
R605). With no change left the command has been executed. (log 16 DEDUCED) -/
def pwrBegin (s : State) : State :=
  match s.sys.todo with
  | [] => setB pwrBusy false s
  | c :: _ =>
    let s := setB pwrBusy true s
    if c.dom = .ctrl ∧ domState s .ctrl = 0 then
      { (setF stageFld (stageNum .rom) (setB ⟨0x1C, 6, 1⟩ false s)) with sys := { s.sys with start := some .raise } }
    else s

/-- R84 to R87: a command is checked, answered, and begins. `wake`: from the wake logic; `cmdId`, `issuer`: of a
hierarchy command, else 0. A module held in reset carries out none (R56). (log 155 DESIGN CHOICE) -/
def pwrIssue (w : Word) (tag : Nat) (wake : Bool) (cmdId issuer : Nat) (s : State) : State :=
  if s.sys.held then s
  else if flag s pwrBusy then pwrAnswer .busy tag wake cmdId issuer s
  else
    let ans := if pwrRefused s w then Code.state else Code.ok
    let t := pwrAnswer ans tag wake cmdId issuer s
    let t := if riseOrder.any (pwrReserved w) then spoilLong 4 0x00FF0000 t else t
    if pwrRefused s w then t else pwrBegin { t with sys := { t.sys with todo := pwrChanges s w } }

/-- R94, R95: the command armed in SYS_WAKE_CMD is issued, or waits while a command executes. (log 19 DEDUCED) -/
def wakeIssue (s : State) : State :=
  let w := getR s 0xC
  if flag s pwrBusy then { s with sys := { s.sys with wakeWait := some w, wakeEntry := none } }
  else raise 7 (pwrIssue w (getBits w 16 8) true 0 0 s)

/-- R94: a wake source fires; nothing happens unless its bit is armed. -/
def wakeSource (src : WakeSrc) (s : State) : State :=
  if bitOf (getR s 8) (wakeBit src) then wakeIssue (setR 8 0 (setF ⟨0x10, (wakeBit src), 1⟩ 1 s)) else s

/-- R95: the waiting wake command, once BUSY is clear; a schedule entry that issued it takes its answer (R326).
(log 128 DEDUCED) -/
def wakeWaiting (s : State) : State :=
  match s.sys.wakeWait with
  | some w =>
    if flag s pwrBusy then s
    else
      let t := { s with sys := { s.sys with wakeWait := none, wakeEntry := none } }
      let t := match s.sys.wakeEntry with
        | some e => setF ⟨0x31018 + 0x20 * e, 8, 8⟩ (if pwrRefused s w then Code.state else Code.ok).num
            (unspoilLong (0x31018 + 0x20 * e) t)
        | none => t
      raise 7 (pwrIssue w (getBits w 16 8) true 0 0 t)
  | none => s

/-! ### Resets (R106, R107) -/

/-- R80: every domain other than AON is OFF. -/
def dormant (s : State) : Bool := riseOrder.all (fun d => decide (domState s d = 0))

/-- R107: a controller reset is legal while CTRL is RUN; a module reset in every state but DORMANT; neither while HALTED; a
second while one waits for its metering save is answered BUSY. (log 12 DEDUCED, 28 DESIGN CHOICE, 154 DESIGN CHOICE) -/
def resetAnswer (s : State) (kind : StartKind) : Code :=
  if s.sys.rstWait.isSome then .busy
  else if ctrl s = .halted then .state
  else if kind = .controller then (if ctrlRun s then .ok else .state)
  else if dormant s then .state else .ok

/-- R106, R107, R111: a reset is asked for. `glob`: by a scheduled action. An accepted reset waits for its metering save.
(log 27 DEDUCED, 154 DESIGN CHOICE) -/
def resetRequest (kind : StartKind) (glob : Bool) (s : State) : State :=
  let c := resetAnswer s kind
  let s' := setF pwrResult c.num (unspoilLong 4 s)
  if c = .ok then { s' with sys := { s'.sys with rstWait := some (kind, glob), rstSaved := false } } else s'

end Sys2Proof.Machine
end

