-- ==== Sys2Proof/Machine/TwnOps.lean ====
section
/-! DEFINITION. The twins as every route sees them: whose copy a route takes, strikes, divergence, a declaration, and the
health report (R35, R526 to R533, R543). -/

namespace Sys2Proof.Machine

/-- The state of a twin. -/
def twinState (s : State) : Twin → TwinState
  | .a => s.twn.a
  | .b => s.twn.b

/-- Sets the state of a twin. -/
def setTwin (t : Twin) (x : TwinState) (s : State) : State :=
  match t with
  | .a => { s with twn := { s.twn with a := x } }
  | .b => { s with twn := { s.twn with b := x } }

/-- The twin's place in the registers that hold one field per twin. -/
def twinIdx : Twin → Nat
  | .a => 0
  | .b => 1

/-- Both twins are IN_STEP. -/
def bothInStep (s : State) : Bool := decide (s.twn.a = .inStep) && decide (s.twn.b = .inStep)

/-- A twin that no longer runs. -/
def twinDead (s : State) (t : Twin) : Bool :=
  decide (twinState s t = .failed) || decide (twinState s t = .heldOut)

/-- R35, R101, R532: a host write of a block on the Ulust dies reaches both twins through the splitter; with both failed it
reaches none. (log 174 DESIGN CHOICE) -/
def hostUlust (off : Nat) (v setNow : Word) (s : State) : State :=
  if twinDead s .a && twinDead s .b then s else captureReq (.hostReg off v setNow) s

/-- R526, R527, R528: the twin whose copy a route takes alone, where the two are not compared. -/
def soleTwin (s : State) : Option Twin :=
  if s.twn.a = .proving ∨ s.twn.b = .proving then some s.twn.readSrc
  else if s.twn.a = .inStep then some .a
  else if s.twn.b = .inStep then some .b
  else none

/-- R533: the twin whose copy an output route passes: both compared where both are IN_STEP. -/
def takesCopy (s : State) (t : Twin) : Bool := bothInStep s || decide (soleTwin s = some t)

/-- Two delayed copies of one twin bound for the same route of blocks, where none overtakes another. -/
def LateCopy.inLine : LateCopy → LateCopy → Bool
  | .block t _, .block u _ => decide (t = u)
  | .host a t _, .host b u _ => (a == b) && decide (t = u)
  | _, _ => false

/-- R594 kind 14: a copy of twin t on its way to a route, which TWIN_COPY_DELAY lets arrive later. Answers whether it is late.
(log 184 DESIGN CHOICE) -/
def holdCopy (t : Twin) (x : LateCopy) (s : State) : Bool × State :=
  let r := tstApply 14 (twinIdx t) s
  let ahead := (r.2.twn.late.filter (fun e => e.2.inLine x)).foldl (fun m e => max m e.1) 0
  let us := max ahead (match r.1 with | some d => d.toNat | none => 0)
  if us = 0 then (false, r.2) else (true, { r.2 with twn := { r.2.twn with late := r.2.twn.late ++ [(us, x)] } })

/-- A copy reaches its route, at once or late. `go`: it arrives. -/
def delayCopy (t : Twin) (x : LateCopy) (go : State → State) (s : State) : State :=
  let r := holdCopy t x s
  if r.1 then r.2 else go r.2

/-- TWIN_COPY_FLIP at this route presents a copy of the twin altered to the comparator (R594 kind 15; the route is the amount). -/
def copyFlipped (t : Twin) (route : Nat) (s : State) : Bool × State :=
  match tstSlot s 15 (twinIdx t) with
  | none => (false, s)
  | some i =>
    let m := getR s (tstCfg i + 4)
    if (if getBits m 16 16 = 0 then (min 3 (getBits m 0 16) : Int) else tstAmount s 15 i) = route then
      let r := tstApply 15 (twinIdx t) s
      (r.1.isSome, r.2)
    else (false, s)

/-- R530: a twin takes a strike. -/
def strike (t : Twin) (s : State) : State :=
  match t with
  | .a => { s with twn := { s.twn with strikesA := s.twn.step :: s.twn.strikesA } }
  | .b => { s with twn := { s.twn with strikesB := s.twn.step :: s.twn.strikesB } }

/-- The strike window in steps (R544: 0 acts as 1). -/
def strikeWin (s : State) : Nat := 8000 * max 1 (getF s ⟨0x500008, 8, 8⟩)

/-- Whether a step lies in the strike window that ends now. (log 137 DESIGN CHOICE) -/
def inWindow (s : State) (x : BitVec 64) : Bool := decide (s.twn.step.toNat < x.toNat + strikeWin s)

/-- A twin's strikes in the window. -/
def strikeCount (s : State) : Twin → Nat
  | .a => (s.twn.strikesA.filter (inWindow s)).length
  | .b => (s.twn.strikesB.filter (inWindow s)).length

/-- The codes of R543. -/
def TwinState.num : TwinState → Nat
  | .inStep => 0 | .proving => 1 | .failed => 2 | .rejoining => 3 | .shadow => 4 | .heldOut => 5

/-- The health report as it would be rewritten now (R543), less its check. -/
def reportBytes (s : State) : List Byte :=
  let t := s.twn
  let flags := b2n (decide (t.readSrc = .b)) + 2 * b2n (flag s ⟨0x500000, 7, 1⟩) + 4 * b2n t.carrier +
    8 * b2n (flag s ⟨0x500000, 8, 1⟩) + 16 * b2n (flag s ⟨0x500000, 9, 1⟩)
  let kyovi := ((List.range 8).filter (fun m => driveOn s && !s.drv.lost.contains m)).foldl (fun a m => a + 2 ^ m) 0
  let radios := ((List.range 4).filter (fun r => airOn s && flag s ⟨0x300008 + 0x1000 * r, 4, 1⟩)).foldl
    (fun a r => a + 2 ^ r) 0
  let units := radios + 16 * b2n (mtrOn s && flag s ⟨0x120000, 0, 1⟩) + 32 * b2n (netOn s)
  leBytes 8 t.step.toNat ++
    ([t.a.num, t.b.num, getF s ⟨0x500014, 0, 4⟩, getF s ⟨0x500018, 0, 4⟩, min 255 (strikeCount s .a),
      min 255 (strikeCount s .b), flags, 0, kyovi, units, 0, 0].map (BitVec.ofNat 8)) ++
    ([t.sramA, t.sramB, t.dramA, t.dramB, t.framCorr, t.sweepA, t.sweepB, t.mitreDis, t.mismatch, t.switches].flatMap
      wordBytes) ++ [0, 0]

/-- The 16 words of a string of 64 bytes. -/
def wordsOf : Nat → List Byte → List Word
  | 0, _ => []
  | n + 1, bs => leWord bs :: wordsOf n (bs.drop 4)

/-- R543: the report is rewritten. (log 135 DEDUCED) -/
def rewriteReport (s : State) : State :=
  let b := reportBytes s
  { s with twn := { s.twn with report := wordsOf 16 (b ++ leBytes 2 (crc16 b).toNat) } }

/-- R528: a divergence while both twins are IN_STEP starts a proof; later mismatches count nothing. -/
def divergence (s : State) : State :=
  if bothInStep s then rewriteReport (bump 0x500050 (setTwin .a .proving (setTwin .b .proving s))) else s

/-- R525, R528: a step mismatch. -/
def stepMismatch (s : State) : State :=
  if bothInStep s then
    divergence (raise 163 (bump 0x500048 { s with twn := { s.twn with mismatch := s.twn.mismatch + 1 } }))
  else s

/-- TWN_FAIL and TWN_FAIL_STEP of a twin. -/
def failReg (t : Twin) : Nat := 0x500014 + 4 * twinIdx t
def failStepReg (t : Twin) : Nat := 0x50001C + 4 * twinIdx t

/-- R538: the FRAM history of a twin counts one more. (log 136 DEDUCED) -/
def histBump (t : Twin) (s : State) : State :=
  match t with
  | .a => { s with twn := { s.twn with histA := min 255 (s.twn.histA + 1) } }
  | .b => { s with twn := { s.twn with histB := min 255 (s.twn.histB + 1) } }

/-- R531 to R537: a twin is declared failed with a cause. The other returns to IN_STEP from a proof; where the other was
rejoining it returns to FAILED with the cause of its earlier declaration. The read source becomes the survivor, and Twin B
once both are dead (R35). A twin that has failed already is not declared again. (log 136 DEDUCED) -/
def declareFailed (t : Twin) (cause : Nat) (s : State) : State :=
  if twinState s t = .failed then s
  else
    let proving := decide (twinState s t = .proving)
    let wasSrc := decide (s.twn.readSrc = t)
    let o := t.other
    let s := setTwin t .failed s
    let s := setF ⟨failReg t, 0, 4⟩ cause (setR (failStepReg t) (s.twn.step.setWidth 32) s)
    let s := histBump t (bump 0x500054 { s with twn := { s.twn with switches := s.twn.switches + 1 } })
    let s := if twinState s o = .proving then setTwin o .inStep s
      else if twinState s o = .rejoining ∨ twinState s o = .shadow then setTwin o .failed s else s
    let s := if proving && wasSrc then setB ⟨0x500000, 8, 1⟩ true s else s
    let src := if twinDead s o then Twin.b else if wasSrc then o else s.twn.readSrc
    let s := when (twinDead s o) (setB ⟨0x500000, 7, 1⟩ true) { s with twn := { s.twn with readSrc := src } }
    rewriteReport (raise 161 s)

/-- R536: the twin in SHADOW, while the other is IN_STEP. -/
def shadowTwin (s : State) : Option Twin :=
  if s.twn.a = .shadow ∧ s.twn.b = .inStep then some .a
  else if s.twn.b = .shadow ∧ s.twn.a = .inStep then some .b
  else none

/-- R527, R537: two copies of a route differed: a divergence, or the end of a rejoin in SHADOW. -/
def routeDiff (s : State) : State :=
  match shadowTwin s with
  | some t => declareFailed t 9 s
  | none => divergence s

/-- R526, R527, R536: the copy of twin `t` is missing at a route's deadline: a strike, or the end of a rejoin in
SHADOW. -/
def routeMissing (t : Twin) (s : State) : State :=
  if shadowTwin s = some t then declareFailed t 9 s
  else if bothInStep s then strike t s
  else s

/-- What a comparing route does with one more copy: the first copies that still wait, what it passes, in order, and whether
two copies differed. -/
structure PairOut (α : Type) where
  q    : List (Copy α)
  pass : List α
  diff : Bool

/-- The copies that have not passed of the twin from which alone a route takes them (R526 to R528, R533). -/
def loneCopies {α : Type} (s : State) (q : List (Copy α)) : List α :=
  (q.filter (fun e => !e.passed && decide (soleTwin s = some e.twin))).map (·.item)

/-- A queue less its first copy that `p` selects. -/
def dropCopy {α : Type} (p : Copy α → Bool) : List (Copy α) → List (Copy α)
  | [] => []
  | e :: q => if p e then q else e :: dropCopy p q

/-- R526, R527, R536: a copy meets the first copies that wait at a route; `same`: two items are copies of one output. With both
twins IN_STEP the second copy passes when equal, else the read-source twin's does, unless the first has passed already; beside a
twin in SHADOW the other's copy passes on arrival and the two are compared; otherwise the one live twin's copies pass, those that
waited first. -/
def pairCopy {α : Type} [DecidableEq α] (same : α → α → Bool) (s : State) (q : List (Copy α)) (c : Copy α) : PairOut α :=
  let lone := loneCopies s [c]
  if bothInStep s || (shadowTwin s).isSome then
    let mate := fun (e : Copy α) => decide (e.twin = c.twin.other) && same e.item c.item
    match q.find? mate with
    | some y =>
      let diff := y.flip || c.flip || decide (c.item ≠ y.item)
      let pass := if !bothInStep s then lone
        else if y.passed then []
        else [if diff && decide (s.twn.readSrc ≠ c.twin) then y.item else c.item]
      ⟨dropCopy mate q, pass, diff⟩
    | none => ⟨q ++ [{ c with passed := !bothInStep s && !lone.isEmpty }], if bothInStep s then [] else lone, false⟩
  else ⟨[], loneCopies s q ++ lone, false⟩

/-- Routes on which copies meet in order. -/
def inOrder {α : Type} (_ _ : α) : Bool := true

/-- The first copy at a route waits no longer for the other twin's (R526, R527, R536): what passes of it. `solo`: the route counts
a lone copy. -/
def passSolo {α : Type} (c : Copy α) (pass : α → State → State) (solo : State → State) (s : State) : State :=
  let go := if c.passed then s else pass c.item s
  if bothInStep s then routeMissing c.twin.other (solo go)
  else if (shadowTwin s).isSome then routeMissing c.twin.other s
  else if soleTwin s = some c.twin then go
  else s

/-- R28, R405, R527, R533: the twins' copies of a firmware word reach a port: one word acts where both twins IN_STEP issue it
equal, else from the one live twin alone. `merge`: the port passes a word that differs or comes alone, as the transmit merge
does (R387, R388). (log 109 DEDUCED) -/
def byPort (merge : Bool) (c : Copies) (f : State → State) (s : State) : State :=
  if !ctrlRun s || (soleTwin s).isNone then s
  else
    match c with
    | .equal => f s
    | .differ => routeDiff (when (merge || !bothInStep s) f s)
    | .alone t => routeMissing t.other (when (if bothInStep s then merge else decide (soleTwin s = some t)) f s)

end Sys2Proof.Machine
end

