-- ==== Sys2Proof/Machine/Flags.lean ====
section
/-! DEFINITION. The conditions that hold the level interrupt sources (R196). -/

namespace Sys2Proof.Machine

/-- Whether two registers have a 1 in the same bit below `n`: a fault word and its enable. -/
def anyMasked (x y : Word) (lo n : Nat) : Bool := decide (getBits x 0 n &&& getBits y lo n ≠ 0)

/-- The condition of a kind L source (R196, R49, R89, R254, R272, R304, R318, R371, R432, R461, R545, R601). The lines of a
block whose domain is OFF are not driven. -/
def levelCond (s : State) (n : Nat) : Bool :=
  if n = 1 then flag s ⟨4, 14, 1⟩
  else if n = 2 then flag s ⟨0x400, 3, 1⟩
  else if n = 3 then flag s ⟨0x400, 5, 1⟩
  else if n = 5 then flag s ⟨0x400, 8, 1⟩
  else if n = 6 then flag s ⟨0x400, 9, 1⟩
  else if n = 11 then !flag s ⟨0x30044, 1, 1⟩
  else if 20 ≤ n ∧ n ≤ 23 then flag s ⟨0x220114 + 0x40 * (n - 20), 0, 1⟩
  else if 32 ≤ n ∧ n ≤ 95 then
    driveOn s && anyMasked (getR s (0x100020 + 0x100 * (n - 32))) (getR s (0x100024 + 0x100 * (n - 32))) 24 8
  else if 96 ≤ n ∧ n ≤ 99 then
    driveOn s && anyMasked (getR s (0x110018 + 0x1000 * (n - 96))) (getR s (0x11001C + 0x1000 * (n - 96))) 0 5
  else if n = 105 then mtrOn s && anyMasked (getR s 0x120004) (getR s 0x120008) 0 4
  else if n = 114 then
    fabOn s && (List.range 8).any (fun j => flag s ⟨0x130200 + 4 * j, 16, 1⟩ && flag s ⟨0x130180 + 4 * j, 0, 1⟩)
  else if 136 ≤ n ∧ n ≤ 139 then airOn s && flag s ⟨0x300008 + 0x1000 * (n - 136), 2, 1⟩
  else if n = 149 then (List.range 4).any (fun k => decide (getR s (0x400030 + 4 * k) ≠ 0))
  else if n = 161 then twinDead s .a || twinDead s .b
  else if n = 168 then tstUnlocked s && (List.range 16).any (fun i => flag s ⟨tstCfg i, 0, 1⟩)
  else false

/-- The sources of kind L (R196). -/
def levelSources : List Nat := (List.range 256).filter srcLevel

/-- R196: in each evaluation the pending bits of a kind L source are set while its condition holds. -/
def evalLevels (s : State) : State := each (levelSources.filter (levelCond s)) raise s

/-- INTC_RAW: the present state of the lines of kind L, in word k (R202). (log 163 DESIGN CHOICE) -/
def rawWord (s : State) (k : Nat) : Word :=
  (List.range 32).foldl (fun m i => if srcLevel (32 * k + i) && levelCond s (32 * k + i) then m ||| w32 (2 ^ i) else m) 0

end Sys2Proof.Machine
end

