-- ==== Sys2Proof/Machine/IntcOps.lean ====
section
/-! DEFINITION. The interrupt controller's evaluation: candidates, presentation, moderation, and how a host target's claim
leaves the module (R158, R163 to R166, R204 to R215). -/

namespace Sys2Proof.Machine

/-- The state of a target. -/
def tgt (s : State) : Target → TgtSt
  | .cp0 => s.intc.cp0
  | .cp1 => s.intc.cp1
  | .h0 => s.intc.h0
  | .h1 => s.intc.h1

/-- Sets the state of a target. -/
def setTgt (t : Target) (x : TgtSt) (s : State) : State :=
  match t with
  | .cp0 => { s with intc := { s.intc with cp0 := x } }
  | .cp1 => { s with intc := { s.intc with cp1 := x } }
  | .h0 => { s with intc := { s.intc with h0 := x } }
  | .h1 => { s with intc := { s.intc with h1 := x } }

/-- The registers of a host target (R216). -/
def tgtBase : Target → Nat
  | .h1 => 0x20240
  | _ => 0x20200

/-- A host target as a target. -/
def hostTarget : HostTgt → Target
  | .h0 => .h0
  | .h1 => .h1

/-- The route code that names a target (R193). -/
def tgtRoute : Target → Nat
  | .cp0 => 1
  | .cp1 => 2
  | .h0 => 1
  | .h1 => 2

/-- The core targets. -/
def isCore : Target → Bool
  | .cp0 | .cp1 => true
  | _ => false

/-- A source is offered to a target: it is routed there, pending and not masked, and its PRIO reaches THRESH (R204).
(log 175 DESIGN CHOICE) -/
def offered (s : State) (t : Target) (n : Nat) : Bool :=
  if isCore t then decide (srcCore s n = tgtRoute t) && srcBit s 0x201A0 n && !srcBit s 0x201C0 n
  else decide (srcHost s n = tgtRoute t) && srcBit s 0x20120 n && !srcBit s 0x20160 n &&
    decide (getF s ⟨tgtBase t, 0, 4⟩ ≤ getF s ⟨0x20400 + 4 * n, 4, 4⟩)

/-- R204: the better of two sources: the higher PRIO, and of equal PRIO the lower number, which comes first. -/
def betterSrc (s : State) (best : Option Nat) (n : Nat) : Option Nat :=
  match best with
  | none => some n
  | some m => if getF s ⟨0x20400 + 4 * m, 4, 4⟩ < getF s ⟨0x20400 + 4 * n, 4, 4⟩ then some n else some m

/-- R204: the candidate of a target. -/
def candidate (s : State) (t : Target) : Option Nat :=
  ((List.range 256).filter (offered s t)).foldl (betterSrc s) none

/-- R158: the bus master may issue requests. (log 43 DESIGN CHOICE) -/
def busAllowed (s : State) : Bool := s.port.link && s.port.cfg.busMaster && !s.port.cfg.d3hot

/-- R210: the target is asleep. -/
def asleep (s : State) (t : Target) : Bool :=
  match t with
  | .cp0 | .cp1 => decide (ctrl s = .standby)
  | .h0 => flag s ⟨0x20200, 4, 1⟩ || (s.port.cfg.msiEnable && !busAllowed s)
  | .h1 => flag s ⟨0x20240, 4, 1⟩

/-- R212: a candidate wakes a sleeping host target: SLEEP and WAKE are 1 and nothing else keeps it asleep. -/
def wakesTarget (s : State) (t : Target) : Bool :=
  !isCore t && flag s ⟨tgtBase t, 4, 1⟩ && flag s ⟨tgtBase t, 6, 1⟩ &&
    !(decide (t = .h0) && s.port.cfg.msiEnable && !busAllowed s)

/-- R208: the number of pending, unmasked sources routed to a target. -/
def pendCount (s : State) (t : Target) : Nat :=
  ((List.range 256).filter (fun n =>
    if isCore t then decide (srcCore s n = tgtRoute t) && srcBit s 0x201A0 n && !srcBit s 0x201C0 n
    else decide (srcHost s n = tgtRoute t) && srcBit s 0x20120 n && !srcBit s 0x20160 n)).length

/-- R208: the moderation settings of a target, as INTC_TGT_MOD lays them out. (log 54 DESIGN CHOICE) -/
def modWord (s : State) (t : Target) : Word :=
  match t with
  | .cp0 => Config.coreMod 0
  | .cp1 => Config.coreMod 1
  | _ => getR s (tgtBase t + 4)

/-- R208: moderation permits the presentation of source n. `idle`: the target is idle (R209). -/
def modPermits (s : State) (t : Target) (idle : Bool) (n : Nat) : Bool :=
  !(tgt s t).window || decide (getBits (modWord s t) 0 16 = 0) || idle ||
    (decide (getBits (modWord s t) 16 8 ≠ 0) && decide (getBits (modWord s t) 16 8 ≤ pendCount s t)) ||
    decide (getBits (modWord s t) 24 4 ≤ getF s ⟨0x20400 + 4 * n, 4, 4⟩)

/-- R209: a host target is idle while its IDLE bit is 1, a core target while both cores of its pair wait.
(log 54 DESIGN CHOICE) -/
def targetIdle (s : State) (t : Target) (cores : Bool) : Bool := if isCore t then cores else flag s ⟨tgtBase t, 5, 1⟩

/-- R164: the MSI vector of a source: its VECTOR's bits below the granted count. -/
def msiVector (s : State) (vec : Nat) : Nat := vec % 2 ^ s.port.cfg.mme.toNat

/-- R164: Message Data with its low bits replaced. -/
def msiData (s : State) (vec : Nat) : BitVec 16 :=
  BitVec.ofNat 16 (s.port.cfg.msgData.toNat / 2 ^ s.port.cfg.mme.toNat * 2 ^ s.port.cfg.mme.toNat + msiVector s vec)

/-- R164: a claim sends one MSI, or is held in the Pending Bits while its vector is masked or the function may not issue
requests (R158). (log 43 DESIGN CHOICE) -/
def sendMsi (vec : Nat) (s : State) : State :=
  if bitOf s.port.cfg.vecMask (msiVector s vec) || !busAllowed s then
    { s with port := { s.port with msiPend := s.port.msiPend ||| w32 (2 ^ msiVector s vec) } }
  else emit (.msi s.port.cfg.msgAddr (msiData s vec)) s

/-- Sends every MSI held pending whose vector may now be sent (R163, R164). (log 43 DESIGN CHOICE) -/
def sendHeldMsi (s : State) : State :=
  each ((List.range 32).filter (fun v =>
      s.port.cfg.msiEnable && bitOf s.port.msiPend v && !bitOf s.port.cfg.vecMask v && busAllowed s))
    (fun v s => emit (.msi s.port.cfg.msgAddr (msiData s v)) { s with port := { s.port with msiPend := s.port.msiPend &&& ~~~(w32 (2 ^ v)) } }) s

/-- R205: the presentation of source n to a target. -/
def presentClaim (t : Target) (n : Nat) (s : State) : State :=
  let c : Claim := ⟨n, getF s ⟨0x20400 + 4 * n, 4, 4⟩, getF s ⟨0x20400 + 4 * n, 8, 5⟩⟩
  let x := tgt s t
  let win := decide (getBits (modWord s t) 0 16 ≠ 0)
  if isCore t then capture (.irq t n) (setTgt t { x with claim := some c, window := win } s)
  else
    let s := setTgt t { x with claim := some c, window := win } s
    let s := bump (tgtBase t + 0x14) (setB ⟨tgtBase t, 5, 1⟩ false s)
    let s := if flag s ⟨tgtBase t, 4, 1⟩ then setB ⟨tgtBase t, 4, 1⟩ false s else s
    if t = .h0 ∧ s.port.cfg.msiEnable = true then sendMsi c.vec s else s

/-- R205, R208, R211: one evaluation of a target, without the level sources. (log 54 DESIGN CHOICE) -/
def evaluate (t : Target) (idle : Bool) (s : State) : State :=
  match candidate s t with
  | none => s
  | some n =>
    if (tgt s t).claim.isNone && (tgt s t).insvc.isNone && (!asleep s t || wakesTarget s t) && modPermits s t (targetIdle s t idle) n then
      presentClaim t n s
    else s

/-- R212: a pending core-route source with INTC_CWAKE set signals the wake logic while the core targets sleep.
(log 176 DESIGN CHOICE) -/
def coreWake (s : State) : State :=
  if ctrl s = .standby ∧ (List.range 256).any (fun n => (offered s .cp0 n || offered s .cp1 n) && srcBit s 0x201E0 n) = true
  then wakeSource .intc s
  else s

/-- R195: the controller is powered with CTRL; an evaluation gathers the level sources, looks for a core wake, and
presents. (log 54 DESIGN CHOICE) -/
def evaluation (t : Target) (idle : Bool) (s : State) : State := if ctrlOn s then evaluate t idle (coreWake (evalLevels s)) else s

/-- R205, R206: the cores of a target take a claim of source n, and serve it in the step in which they receive it.
(log 54 DESIGN CHOICE, 55 DEDUCED) -/
def coreTake (t : Target) (n : Nat) (s : State) : State :=
  let x := tgt s t
  let s := if x.claim.any (fun c => decide (c.src = n)) then setTgt t { x with claim := none } s else s
  setSrcBit 0x201A0 n false s

/-- R212: every pending source with a core route, as the twins receive it in the first step after RUN.
(log 176 DESIGN CHOICE) -/
def pendingCore (s : State) : List SplitIn :=
  [Target.cp0, Target.cp1].flatMap (fun t =>
    ((List.range 256).filter (fun n => decide (srcCore s n = tgtRoute t) && srcBit s 0x201A0 n)).map (fun n => .irq t n))

/-- HOST_IRQ0_N and HOST_IRQ1_N: whether the pin is pulled low (R163, R166). -/
def irqPin (s : State) (t : HostTgt) : Bool :=
  match t with
  | .h0 => ctrlOn s && s.intc.h0.claim.isSome && !s.port.cfg.msiEnable
  | .h1 => ctrlOn s && s.intc.h1.claim.isSome

end Sys2Proof.Machine
end

