-- ==== Sys2Proof/Machine/Intc.lean ====
section
/-! DEFINITION. The commands of the interrupt controller (R194 to R215). -/

namespace Sys2Proof.Machine

/-- R194, R196: a source's line: a pulse for kind E, the condition for kind L. -/
def sourceEvent (n : Nat) (s : State) : State :=
  if srcLevel n && !levelCond s n then s else coreWake (raise n s)

/-- R206: a read of INTC_TGT_CLAIM takes the presented claim. -/
def takeClaim (t : HostTgt) (s : State) : State :=
  let x := tgt s (hostTarget t)
  match x.claim with
  | none => { s with hostData := [0] }
  | some c =>
    let s := setTgt (hostTarget t) { x with claim := none, insvc := some c.src } s
    let s := if srcLevel c.src then s else setSrcBit 0x20120 c.src false s
    { s with hostData := [w32 (c.src + c.prio * 2 ^ 8 + c.vec * 2 ^ 12 + 2 ^ 31)] }

/-- R207: the end of the scope of a wrong DONE; pending bits stay unpredictable while the other target's scope stands. -/
def endDoneScope (t : HostTgt) (s : State) : State :=
  let s := unspoilLong (tgtBase (hostTarget t) + 0x10) s
  let other := tgtBase (hostTarget (match t with | .h0 => .h1 | .h1 => .h0)) + 0x10
  if unpredAt s other = 0 then each (List.range 8) (fun k => unspoilLong (0x20120 + 4 * k)) s else s

/-- R207: a write of INTC_TGT_DONE. Naming a source that is not in service makes INTC_TGT_STAT and both pending bits
unpredictable until a write names the source in service. -/
def writeDone (t : HostTgt) (v : Word) (s : State) : State :=
  let x := tgt s (hostTarget t)
  match x.insvc with
  | none => s
  | some n =>
    if getBits v 0 8 = n then
      let s := setTgt (hostTarget t) { x with insvc := none } s
      let s := endDoneScope t s
      if srcLevel n then setSrcBit 0x20120 n false s else s
    else
      spoilLong (tgtBase (hostTarget t) + 0x10) 0xFF0F
        (spoilLong (srcOff 0x20120 n) (2 ^ (n % 32)) (spoilLong (srcOff 0x20120 (getBits v 0 8)) (2 ^ (getBits v 0 8 % 32)) s))

/-- The bits of word k that a write of a pending or mask register acts on (R197). -/
def srcWritten (k : Nat) (v : Word) : Word := v &&& w32 (srcWord k)

/-- INTC is reachable (R33). -/
def intcUp (s : State) : Bool := ctrlOn s

/-- INTC_SOURCE_EVENT (R194, R196, R198). -/
def execIntcSourceEvent (n : Fin 256) (s : State) : Host.Outcome State Fault Refusal := .next (sourceEvent n.val s)

/-- INTC_PRESENT (R195, R204, R205): one evaluation of a target. (log 54 DESIGN CHOICE) -/
def execIntcPresent (t : Target) (idle : Bool) (s : State) : Host.Outcome State Fault Refusal := .next (evaluation t idle s)

/-- INTC_MOD_EXPIRE (R208): the window expires, and the candidate is presented in the same evaluation.
(log 54 DESIGN CHOICE) -/
def execIntcModExpire (t : Target) (idle : Bool) (s : State) : Host.Outcome State Fault Refusal :=
  .next (evaluation t idle (setTgt t { tgt s t with window := false } s))

/-- A route to the registers is open: PCI Express needs the link (R34, R157) and, as PCI Express has it, Memory Space Enable.
(log 5 PRESUMED) -/
def routeOpen (s : State) (r : Route) : Bool :=
  match r with
  | .qspi => true
  | .pcie => s.port.link && s.port.cfg.memSpace

/-- The number of a route as a target of HOST_RD_DELAY (R594 kind 1). -/
def routeNum : Route → Nat
  | .pcie => 0
  | .qspi => 1

/-- A read by a route: nothing happens while the route is closed; a delay may be applied to it. (log 52 DEDUCED) -/
def readBy (r : Route) (f : State → State) (s : State) : State :=
  if routeOpen s r then f (tstApply 1 (routeNum r) s).2 else s

/-- INTC_TGT_CLAIM (R206): a read while CTRL is OFF returns 0 (R33). (log 52 DEDUCED, 55 DEDUCED) -/
def execIntcTgtClaim (r : Route) (t : HostTgt) (s : State) : Host.Outcome State Fault Refusal :=
  .next (readBy r (fun s => if intcUp s then takeClaim t s else { s with hostData := [0] }) s)

/-- INTC_TGT_DONE (R207). -/
def execIntcTgtDone (t : HostTgt) (v : Word) (s : State) : Host.Outcome State Fault Refusal :=
  .next (if intcUp s then writeDone t v s else s)

/-- The write of HPEND_SET word k (R202); a 1 in a reserved bit spoils the word's other bits (R8, R197). -/
def writeHpendSet (k : Nat) (v : Word) (s : State) : State :=
  let s := setR (0x20120 + 4 * k) (getR s (0x20120 + 4 * k) ||| srcWritten k v) s
  if v = srcWritten k v then unspoil (0x20120 + 4 * k) s else spoil (0x20120 + 4 * k) (srcWord k) s

/-- The sources of word k whose bits are set. -/
def sourcesIn (k : Nat) (v : Word) : List Nat := ((List.range 32).filter (fun i => bitOf (srcWritten k v) i)).map (fun i => 32 * k + i)

/-- The write of HPEND_CLR word k: a source's event of the same cycle sets the bit of each route it has, and wins (R10, R194,
R203). -/
def writeHpendClr (k : Nat) (v events : Word) (s : State) : State :=
  let s := setR (0x20120 + 4 * k) (getR s (0x20120 + 4 * k) &&& ~~~(srcWritten k v)) s
  let s := each (sourcesIn k events) sourceEvent s
  if v = srcWritten k v then unspoil (0x20120 + 4 * k) s else spoil (0x20120 + 4 * k) (srcWord k) s

/-- INTC_HPEND_SET (R202). -/
def execIntcHpendSet (k : Fin 8) (v : Word) (s : State) : Host.Outcome State Fault Refusal :=
  .next (if intcUp s then writeHpendSet k.val v s else s)

/-- INTC_HPEND_CLR (R203). -/
def execIntcHpendClr (k : Fin 8) (v events : Word) (s : State) : Host.Outcome State Fault Refusal :=
  .next (if intcUp s then writeHpendClr k.val v events s else s)

end Sys2Proof.Machine
end

