-- ==== Sys2Proof/Machine/Dma.lean ====
section
/-! DEFINITION. The bus master: descriptors, the receive, telemetry and transmit rings, exhaustion, errors on the link, and
the host merge (R173 to R191). Bulk transfers are in Blk.lean. -/

namespace Sys2Proof.Machine

/-- A ring. -/
def ring (s : State) (r : Nat) : DmaRing :=
  match r with | 0 => s.dma0 | 1 => s.dma1 | 2 => s.dma2 | _ => s.dma3

/-- Sets a ring. -/
def setRing (r : Nat) (x : DmaRing) (s : State) : State :=
  match r with
  | 0 => { s with dma0 := x }
  | 1 => { s with dma1 := x }
  | 2 => { s with dma2 := x }
  | _ => { s with dma3 := x }

/-- The register at offset `o` of ring `r` (R190). -/
def ringReg (r o : Nat) : Nat := 0x220100 + 0x40 * r + o

/-- DMA_RING_CFG.EN and DMA_RING_STAT.HALT. -/
def ringEn (s : State) (r : Nat) : Bool := flag s ⟨ringReg r 8, 0, 1⟩
def ringHalt (s : State) (r : Nat) : Bool := flag s ⟨ringReg r 0x14, 0, 1⟩

/-- DMA_STAT.ACTIVE: Bus Master Enable set, function in D0 and EN = 1 (R158, R190). -/
def dmaActive (s : State) : Bool := busAllowed s && flag s ⟨0x220000, 0, 1⟩

/-- The bus master serves the ring. -/
def ringLive (s : State) (r : Nat) : Bool := dmaActive s && ringEn s r && !ringHalt s r

/-- The number of entries, HEAD and TAIL (R176, R190). -/
def ringSize (s : State) (r : Nat) : Nat := 2 ^ getF s ⟨ringReg r 8, 1, 4⟩
def ringHead (s : State) (r : Nat) : Nat := getF s ⟨ringReg r 0xC, 0, 12⟩
def ringTail (s : State) (r : Nat) : Nat := getF s ⟨ringReg r 0x10, 0, 12⟩

/-- R191: the ring's registers hold a value outside their ranges. -/
def ringBad (s : State) (r : Nat) : Bool :=
  decide (getF s ⟨ringReg r 8, 1, 4⟩ < 4) || decide (12 < getF s ⟨ringReg r 8, 1, 4⟩) ||
  decide (ringSize s r ≤ ringHead s r) || decide (ringSize s r ≤ ringTail s r) ||
  decide (getF s ⟨ringReg r 0, 0, 6⟩ ≠ 0)

/-- R191: the ring's registers and the descriptors it writes back become unpredictable. -/
def spoilRing (r : Nat) (s : State) : State :=
  setRing r { ring s r with bad := true } (each (List.range 10) (fun i => spoilLong (ringReg r (4 * i)) (readMask (ringReg r (4 * i)))) s)

/-- R191 judged after a write of one of the ring's registers. -/
def judgeRing (r : Nat) (s : State) : State := if ringBad s r then spoilRing r s else s

/-- R176: a LEN of 0 means 65,536. -/
def descCap (d : Desc) : Nat := if d.len = 0 then 65536 else d.len.toNat

/-- R176: CTRL at write-back: OWN cleared, FULL set for exactly 65,536 bytes; on the receive rings SOF and EOF as the module
sets them. -/
def wbCtrl (d : Desc) (n : Nat) (marks : Option (Bool × Bool)) : BitVec 16 :=
  let c := d.ctrl &&& 0xDFFE
  let c := match marks with
    | some (sof, eof) => (c &&& 0xFFF9) ||| BitVec.ofNat 16 (2 * b2n sof + 4 * b2n eof)
    | none => c
  if n = 65536 then c ||| 0x2000 else c

/-- R180, R191: a descriptor is written back; of a spoiled ring, with free values. -/
def writeBackDesc (r idx : Nat) (ctrl doneLen status : BitVec 16) (m0 m1 : Option (BitVec 64)) (s : State) : State :=
  if (ring s r).bad then
    let x := freeOf s
    let y := freeOf (drawn s)
    let z := fun (k : Nat) => Config.freeWord (s.free + 2 + k)
    emit (.writeBack r idx (x.setWidth 16) ((x >>> 16).setWidth 16) (y.setWidth 16) (some (z 0 ++ z 1)) (some (z 2 ++ z 3)))
      { s with free := s.free + 6 }
  else emit (.writeBack r idx ctrl doneLen status m0 m1) s

/-- DMA_RING_HEAD advances by n descriptors. -/
def advanceHead (r n : Nat) (s : State) : State := setF ⟨ringReg r 0xC, 0, 12⟩ ((ringHead s r + n) % ringSize s r) s

/-- The ring's completion source is raised where a descriptor written back has IRQ = 1 (R176). -/
def raiseCmpl (r : Nat) (ds : List Desc) (s : State) : State := if ds.any (fun d => d.ctrl.getLsbD 3) then raise (16 + r) s else s

/-! ### Receive and telemetry -/

/-- Fills buffers in ring order: what each descriptor takes, the bytes left over, and the descriptors left. -/
def fillBuffers : List Desc → List Byte → List (Desc × List Byte) × List Byte × List Desc
  | [], rest => ([], rest, [])
  | d :: ds, rest =>
    if rest = [] then ([], [], d :: ds)
    else
      let r := fillBuffers ds (rest.drop (descCap d))
      ((d, rest.take (descCap d)) :: r.1, r.2.1, r.2.2)

/-- R177: META0 on SOF, for the two rings. -/
def rxMeta0 (r : Nat) (x : HostItem) : BitVec 64 :=
  if r = 1 then BitVec.ofNat 64 (x.raw.toNat + x.port.toNat * 2 ^ 32 + x.vid.toNat * 2 ^ 34 + x.pcp.toNat * 2 ^ 46)
  else BitVec.ofNat 64 x.raw.toNat

/-- R177: META1 on EOF: length, bytes dropped, step number. -/
def rxMeta1 (x : HostItem) (dropped : Nat) : BitVec 64 :=
  BitVec.ofNat 64 (x.bytes.length % 2 ^ 16 + (dropped % 2 ^ 16) * 2 ^ 16 + x.step.toNat * 2 ^ 32)

/-- R479: a child's block has been written to the TLM ring, or dropped: its cells leave the forward buffer. -/
def fwdDone (r : Nat) (x : HostItem) (s : State) : State :=
  if r = 2 then
    let q := s.hier.fwd
    let i := q.findIdx (fun e => decide (e.1 = x.bytes))
    { s with hier := { s.hier with fwd := q.take i ++ q.drop (i + 1) } }
  else s

/-- R180, R184: the filled buffers of a frame are written back in reverse order, SOF last, and HEAD advances. -/
def finishRx (r : Nat) (x : HostItem) (filled : List (Desc × Nat)) (dropped : Nat) (s : State) : State :=
  let s := fwdDone r x s
  let n := filled.length
  let status : BitVec 16 := if dropped = 0 then 0 else 1
  let h := ringHead s r
  let s := each (filled.zipIdx.reverse) (fun e s =>
    writeBackDesc r ((h + e.2) % ringSize s r) (wbCtrl e.1.1 e.1.2 (some (decide (e.2 = 0), decide (e.2 + 1 = n))))
      (BitVec.ofNat 16 e.1.2) status (if e.2 = 0 then some (rxMeta0 r x) else none)
      (if e.2 + 1 = n then some (rxMeta1 x dropped) else none) s) s
  let s := raiseCmpl r (filled.map (·.1)) (advanceHead r n s)
  if dropped = 0 then bump (ringReg r 0x18) s else bumpBy (ringReg r 0x24) dropped (bump (ringReg r 0x1C) s)

/-- R594 kind 2: the ring comes to open a buffer; whether it does so at once. (log 184 DESIGN CHOICE) -/
def openBuffer (r : Nat) (s : State) : Bool × State :=
  match (ring s r).stall with
  | some n => if n = 0 then (true, setRing r { ring s r with stall := none } s) else (false, s)
  | none =>
    let p := tstApply 2 r s
    match p.1 with
    | some d => if d.toNat = 0 then (true, p.2) else (false, setRing r { ring p.2 r with stall := some d.toNat } p.2)
    | none => (true, p.2)

/-- How many of n buffers the ring opens before it stalls. -/
def openBuffers (r : Nat) : Nat → State → Nat × State
  | 0, s => (0, s)
  | n + 1, s =>
    let o := openBuffer r s
    if o.1 then
      let p := openBuffers r n o.2
      (p.1 + 1, p.2)
    else (0, o.2)

/-- The frame in progress is written on into the posted descriptors; it ends, waits for a descriptor (R182), or stalls before
one (R594). -/
def deliver (r : Nat) (s : State) : State :=
  match (ring s r).rx with
  | none => s
  | some f =>
    let posted := (ring s r).desc
    let need := (fillBuffers posted f.rest).1.length
    let o := openBuffers r need s
    let (fill, rest, _) := fillBuffers (posted.take o.1) f.rest
    let s := each fill (fun e => emit (.hostMem e.1.addr e.2)) o.2
    let filled := f.filled ++ fill.map (fun e => (e.1, e.2.length))
    let ds := posted.drop o.1
    if rest = [] then
      finishRx r f.item filled 0 (setRing r { ring s r with desc := ds, rx := none, waiting := false } s)
    else setRing r { ring s r with desc := ds, rx := some ⟨f.item, rest, filled⟩, waiting := decide (o.1 = need) } s

/-- R158: the next frame queued for a receive ring is dropped whole. -/
def dropNext (r : Nat) (s : State) : State :=
  match (ring s r).staging with
  | x :: more => bump (ringReg r 0x20) (fwdDone r x (setRing r { ring s r with staging := more } s))
  | [] => s

/-- R182 to R185, R158: the next frame queued for a receive ring starts, once the frame in progress has ended; a ring that is not
served drops it whole. -/
def startRx (r : Nat) (s : State) : State :=
  if !busAllowed s then dropNext r s
  else
    match (ring s r).rx, (ring s r).staging with
    | none, x :: more =>
      if ringLive s r then deliver r (setRing r { ring s r with staging := more, rx := some ⟨x, x.bytes, []⟩ } s)
      else dropNext r s
    | _, _ => s

/-- R185, R158: a merged frame queues for its ring; one that comes while the bus master may issue no request is dropped whole, and
so is one that does not fit in 64 KiB while the ring waits. (log 41 DEDUCED) -/
def queueRx (r : Nat) (x : HostItem) (s : State) : State :=
  let held := ((ring s r).staging.map (fun y => y.bytes.length)).sum
  if !busAllowed s || ((ring s r).waiting && decide (65536 < held + x.bytes.length)) then bump (ringReg r 0x20) (fwdDone r x s)
  else setRing r { ring s r with staging := (ring s r).staging ++ [x] } s

/-- R183, R184: the ring is exhausted in the frame in progress. (log 166 DESIGN CHOICE) -/
def exhaustRx (r : Nat) (s : State) : State :=
  match (ring s r).rx with
  | none => s
  | some f =>
    let s := setRing r { ring s r with rx := none, waiting := false, expired := false } s
    if f.filled = [] then bump (ringReg r 0x20) (fwdDone r f.item s) else finishRx r f.item f.filled f.rest.length s

/-- R182 to R184: the wait for a descriptor expires; one posted meanwhile has ended it. What is to be written back waits while the
bus master may issue no request (R158). -/
def rxExpire (r : Nat) (s : State) : State :=
  match (ring s r).rx with
  | none => s
  | some f =>
    if (ring s r).waiting && decide ((ring s r).desc = []) then
      if dmaActive s || decide (f.filled = []) then exhaustRx r s else setRing r { ring s r with expired := true } s
    else s

/-! ### Transmit -/

/-- The descriptors up to and with the first EOF, and the rest. (log 41 DEDUCED) -/
def takeFrame : List (Desc × List Byte) → Option (List (Desc × List Byte) × List (Desc × List Byte))
  | [] => none
  | e :: es => if e.1.ctrl.getLsbD 2 then some ([e], es) else (takeFrame es).map (fun r => (e :: r.1, r.2))

/-- R186: DONE_LEN and STATUS of each descriptor of a gathered frame: those that hold bytes beyond 9,216 are TRUNC with
DONE_LEN 0. -/
def ftxStatus : Nat → List (Desc × List Byte) → List (Desc × Nat × Nat)
  | _, [] => []
  | n, e :: es =>
    let m := n + e.2.length
    (e.1, if 9216 < m then (0, 1) else (e.2.length, 0)) :: ftxStatus m es

/-- The write-back of one FTX frame (R180): reverse order, META1[7:0] the stamp queue entry or 0xFF (R177). -/
def writeBackFtx (d : FtxDone) (s : State) : State :=
  let s := each (d.descs.zipIdx.reverse) (fun e s =>
    writeBackDesc 0 ((d.index + e.2) % ringSize s 0) (wbCtrl e.1.1 e.1.2.1 none) (BitVec.ofNat 16 e.1.2.1)
      (BitVec.ofNat 16 e.1.2.2) none (some (BitVec.ofNat 64 d.entry)) s) s
  raiseCmpl 0 (d.descs.map (·.1)) (advanceHead 0 d.descs.length s)

/-- R180, R413: FTX frames are written back in ring order, each once its stamp is taken or dropped. -/
def flushFtx : Nat → State → State
  | 0, s => s
  | n + 1, s =>
    match s.dma0.done with
    | d :: ds => if d.wait then s else flushFtx n (writeBackFtx d { s with dma0 := { s.dma0 with done := ds } })
    | [] => s

/-- Writes back every frame that may be, while the bus master may issue requests (R158). (log 166 DESIGN CHOICE) -/
def flushFtxAll (s : State) : State := if dmaActive s then flushFtx s.dma0.done.length s else s

/-- R413: the stamp of the frame whose SOF descriptor is `index` has been taken as `entry`, or dropped (0xFF). -/
def ftxStamped (index entry : Nat) (s : State) : State :=
  flushFtxAll { s with dma0 := { s.dma0 with
    done := s.dma0.done.map (fun d => if d.index = index then { d with wait := false, entry := entry } else d) } }

/-- The index of the next descriptor that FTX has not taken. -/
def ftxNext (s : State) : Nat := (ringHead s 0 + (s.dma0.done.map (fun d => d.descs.length)).sum) % ringSize s 0

/-- R186, R174, R390: a gathered frame goes to the splitter; one whose PORT is 4, 5 or 6 is dropped and counted.
(log 42 DEDUCED) -/
def sendFtx (frame : List (Desc × List Byte)) (s : State) : State :=
  match frame with
  | [] => s
  | e :: _ =>
    let c := e.1.ctrl
    let bytes := frame.flatMap (·.2)
    let port := (c.toNat >>> 10) % 8
    let drop := decide (4 ≤ port) && decide (port ≤ 6)
    let f : FtxFrame := ⟨port, (c.toNat >>> 7) % 8, c.getLsbD 4, if c.getLsbD 5 then some (e.1.meta0.setWidth 32) else none,
      ftxNext s, bytes.take 9216⟩
    let s := { s with dma0 := { s.dma0 with done := s.dma0.done ++ [⟨ftxNext s, ftxStatus 0 frame, f.tsreq && !drop, 0xFF⟩] } }
    let s := bump (ringReg 0 0x18) s
    let s := if 9216 < bytes.length then bump (ringReg 0 0x1C) s else s
    flushFtxAll (if drop then (if netOn s then bump 0x20405C s else s) else captureBus (.ftx f) s)

/-- R186: the posted descriptors, with the bytes read for each, join the frame being gathered; a stall before one of them (R594)
holds it and what follows. (log 42 DEDUCED) -/
def gatherFtx (data : List (List Byte)) (s : State) : State :=
  let new := (s.dma0.desc.zip data).map (fun e => (e.1, e.2.take (descCap e.1)))
  let whole := takeFrame (s.dma0.gather ++ new)
  let need := match whole with | some f => f.1.length - s.dma0.gather.length | none => new.length
  let o := openBuffers 0 need s
  let s := o.2
  let x := s.dma0
  if o.1 < need then
    { s with dma0 := { x with desc := x.desc.drop o.1, gather := x.gather ++ new.take o.1, waiting := false, ahead := data.drop o.1 } }
  else
    let left := x.desc.drop new.length
    match whole with
    | some (frame, rest) =>
      sendFtx frame { s with dma0 := { x with desc := rest.map (·.1) ++ left, gather := [], waiting := false } }
    | none =>
      if x.gather ++ new = [] then s
      else { s with dma0 := { x with desc := left, gather := x.gather ++ new, waiting := decide (left = []) } }

/-- R186: the gathered part of a frame is discarded, and its descriptors are written back INCOMPLETE. -/
def dropGather (s : State) : State :=
  let d : FtxDone := ⟨ftxNext s, s.dma0.gather.map (fun e => (e.1, e.2.length, 2)), false, 0xFF⟩
  flushFtxAll (bump (ringReg 0 0x1C)
    { s with dma0 := { s.dma0 with gather := [], waiting := false, expired := false, done := s.dma0.done ++ [d] } })

/-- R158: a receive ring goes on with the frame in progress. -/
def resumeRx (r : Nat) (s : State) : State :=
  if (ring s r).expired then exhaustRx r s
  else if (ring s r).waiting && ringLive s r then deliver r s
  else s

/-- R158: processing resumes where the bus master may issue requests. (log 166 DESIGN CHOICE) -/
def resumeDma (s : State) : State :=
  if dmaActive s then
    resumeRx 2 (resumeRx 1 (if s.dma0.expired then dropGather s else flushFtxAll s))
  else s

/-! ### Commands -/

/-- R179, R182, R191: a tail write is seen: the tail is stored and its descriptors posted; a halted or disabled ring reads
none. It ends the ring's wait, and a receive frame that waits continues. -/
def seeTail (r : Nat) (v : Word) (descs : List Desc) (s : State) : State :=
  let off := ringReg r 0x10
  let s := unspoil off (setF ⟨off, 0, 12⟩ v.toNat s)
  let s := judgeRing r (if getBits v 12 20 = 0 then s else spoilReg off s)
  if ringEn s r && !ringHalt s r then
    let s := setRing r { ring s r with desc := (ring s r).desc ++ descs } s
    if (ring s r).expired || descs = [] then s
    else if r = 0 then setRing 0 { s.dma0 with waiting := false } s
    else if (ring s r).waiting && ringLive s r then deliver r s
    else s
  else s

/-- DMA_TAIL_WRITE (R179, R182, R191): the ring sees the write, at once or, where a slot of kind 3 applies, later; never before an
earlier one (R594). (log 44 DESIGN CHOICE, 184 DESIGN CHOICE) -/
def execDmaTailWrite (r : Fin 4) (v : Word) (descs : List Desc) (s : State) : Host.Outcome State Fault Refusal :=
  .next (if !ctrlOn s then s else
    let p := tstApply 3 r.val s
    let s := p.2
    let us := (ring s r.val).tails.foldl (fun m e => max m e.1) (match p.1 with | some d => d.toNat | none => 0)
    if us = 0 then seeTail r.val v descs s
    else setRing r.val { ring s r.val with tails := (ring s r.val).tails ++ [(us, v, descs)] } s)

/-- R190: a rise of EN clears every register of the ring but EN, SIZE_LOG2, WAIT_US and the base address; a tail write that is still
delayed comes through (R598). (log 41 DEDUCED, 184 DESIGN CHOICE) -/
def clearRing (r : Nat) (s : State) : State :=
  let gone := (match (ring s r).rx with | some f => [f.item] | none => []) ++ (ring s r).staging
  let s := each gone (fwdDone r) s
  setRing r { tails := (ring s r).tails } (clearRegs (fun off => decide (ringReg r 0xC ≤ off) && decide (off < ringReg r 0x28)) s)

/-- DMA_RING_ENABLE (R189 to R191): a write of DMA_RING_CFG. -/
def execDmaRingEnable (r : Fin 4) (v : Word) (s : State) : Host.Outcome State Fault Refusal :=
  .next (if !ctrlOn s then s else
    let off := ringReg r.val 8
    let was := ringEn s r.val
    let s := unspoil off (setR off (v &&& 0xFFFF001F) s)
    let s := if !was && bitOf v 0 then
        clearRing r.val (each (List.range 10) (fun i => unspoilLong (ringReg r.val (4 * i))) s) else s
    judgeRing r.val (if v &&& 0x0000FFE0 = 0 then s else spoilReg off s))

/-- FRX_FRAME (R182, R183, R185): the next frame queued for ring 1 is written into its buffers. -/
def execFrxFrame (s : State) : Host.Outcome State Fault Refusal := .next (if ctrlOn s then startRx 1 s else s)

/-- TLM_BLOCK (R495, R182, R183): the next block queued for ring 2 is written into one frame. -/
def execTlmBlock (s : State) : Host.Outcome State Fault Refusal := .next (if ctrlOn s then startRx 2 s else s)

/-- FTX_FRAME (R174, R186): the bus master gathers from the posted descriptors, or will once its stall has passed (R594). -/
def execFtxFrame (data : List (List Byte)) (s : State) : Host.Outcome State Fault Refusal :=
  .next (if ctrlOn s && ringLive s 0 then
    (if s.dma0.stall.isSome then { s with dma0 := { s.dma0 with ahead := s.dma0.ahead ++ data } } else gatherFtx data s)
  else s)

/-- DMA_WAIT_EXPIRE (R182 to R184). -/
def execDmaWaitExpire (r : Fin 4) (s : State) : Host.Outcome State Fault Refusal :=
  .next (if decide (r.val = 1) || decide (r.val = 2) then rxExpire r.val s else s)

/-- FTX_WAIT_EXPIRE (R186): the gathered part is discarded and its descriptors written back INCOMPLETE. -/
def execFtxWaitExpire (s : State) : Host.Outcome State Fault Refusal :=
  .next (if s.dma0.waiting && decide (s.dma0.gather ≠ []) then
    (if dmaActive s then dropGather s else { s with dma0 := { s.dma0 with expired := true } })
  else s)

/-- R189: the ring halts: the transfer in progress is abandoned, a receive frame in progress counted as dropped. -/
def haltRing (r cause : Nat) (s : State) : State :=
  let s := match (ring s r).rx with | some f => bump (ringReg r 0x20) (fwdDone r f.item s) | none => s
  let s := setRing r { ring s r with rx := none, gather := [], desc := [], waiting := false, expired := false, stall := none, ahead := [] } s
  raise (20 + r) (setF ⟨ringReg r 0x14, 0, 3⟩ (1 + 2 * cause) s)

/-- DMA_READ_ERROR (R189): Unsupported Request, or Completer Abort (`abort`), of a read issued at any time before. A ring that has
halted keeps its cause. -/
def execDmaReadError (r : Fin 4) (abort : Bool) (s : State) : Host.Outcome State Fault Refusal :=
  .next (if ctrlOn s && !ringHalt s r.val then haltRing r.val (if abort then 2 else 1) s else s)

/-- DMA_READ_TIMEOUT (R189). -/
def execDmaReadTimeout (r : Fin 4) (s : State) : Host.Outcome State Fault Refusal :=
  .next (if ctrlOn s && !ringHalt s r.val then haltRing r.val 3 s else s)

/-- The first copies that wait at the host merge for a ring. -/
def hostCopies (s : State) (tlm : Bool) : List (Copy HostItem) := if tlm then s.port.mergeTlm else s.port.mergeFrx

/-- Sets them. -/
def setHostCopies (tlm : Bool) (q : List (Copy HostItem)) (s : State) : State :=
  if tlm then { s with port := { s.port with mergeTlm := q } } else { s with port := { s.port with mergeFrx := q } }

/-- The ring the merge writes to. -/
def mergeRing (tlm : Bool) : Nat := if tlm then 2 else 1

/-- R175: a host merge mismatch is counted and raised. -/
def countMismatch (s : State) : State := raise 24 (bump 0x220008 s)

/-- R175, R527: one twin's copy is at the host merge. -/
def hostCopy (tlm : Bool) (t : Twin) (x : HostItem) (s : State) : State :=
  let f := copyFlipped t 2 s
  let p := pairCopy inOrder f.2 (hostCopies f.2 tlm) { twin := t, item := x, flip := f.1 }
  let s := setHostCopies tlm p.q f.2
  let s := each p.pass (queueRx (mergeRing tlm)) s
  if p.diff then routeDiff (if bothInStep s then countMismatch s else s) else s

/-- HOST_MERGE (R175, R527): one twin's copy arrives at the host merge. -/
def execHostMerge (tlm : Bool) (t : Twin) (x : HostItem) (s : State) : Host.Outcome State Fault Refusal :=
  .next (if !ctrlRun s then s else delayCopy t (.host tlm t x) (hostCopy tlm t x) s)

/-- HOST_MERGE_TIMEOUT (R175, R527): the only copy that has arrived is written, and the mismatch counted; a copy that
already passed alone is discarded. -/
def execHostMergeTimeout (tlm : Bool) (s : State) : Host.Outcome State Fault Refusal :=
  .next (match hostCopies s tlm with
    | [] => s
    | c :: q => passSolo c (queueRx (mergeRing tlm)) countMismatch (setHostCopies tlm q s))

end Sys2Proof.Machine
end

