-- ==== Sys2Proof/Machine/TsuOps.lean ====
section
/-! DEFINITION. The time-stamp unit: the raw time and its advance, segment time, and the stamp queue (R399 to R413). -/

namespace Sys2Proof.Machine

/-- The raw time (R399). -/
def rawNow (s : State) : Word := getR s 0x210000

/-- TSU_STAT.ANCHOR_VALID. -/
def anchorFld : Fld := ⟨0x210014, 1, 1⟩
def anchorValid (s : State) : Bool := flag s anchorFld

/-- R400: the increment that acts. -/
def tsuIncr (s : State) : Nat := clampNat 0x38000000 0x48000000 (getR s 0x210008).toNat

/-- TSU_SLEW_REM as a number. -/
def slewRem (s : State) : Int := signed 32 (getR s 0x210018).toNat

/-- The raw time moves on by d ns; the anchor ends where it reaches 2,000,000,000 ns past R_a, modulo 2^32 (R406).
(log 106 DESIGN CHOICE) -/
def moveRaw (d : Int) (s : State) : State :=
  let past := (rawNow s - s.tsu.ra).toNat
  let s := setR 0x210000 (w32 (unsigned 32 ((rawNow s).toNat + d))) s
  if (past < 2000000000 ∧ 2000000000 ≤ (past : Int) + d) ∨ 2000000000 + 2 ^ 32 ≤ (past : Int) + d then setB anchorFld false s
  else s

/-- R399, R400, R403: the counter runs for a number of cycles of the time-stamp clock. -/
def tsuRun (cycles : Nat) (s : State) : State :=
  if netOn s then
    let t := s.tsu.frac + tsuIncr s * cycles
    let n := (s.tsu.slew + cycles) / 250
    let r := slewRem s
    let d : Int := clampInt (-(n : Int)) n r
    let s := { s with tsu := { s.tsu with
      frac := t % 2 ^ 28, slew := if r = 0 then 0 else (s.tsu.slew + cycles) % 250, ran := s.tsu.ran + cycles } }
    moveRaw ((t / 2 ^ 28 : Nat) + d) (setR 0x210018 (w32 (unsigned 32 (r - d))) s)
  else s

/-- TSU_STAT.RESULT takes an answer, and is no longer unpredictable (R402). -/
def tsuAnswer (c : Code) (s : State) : State := setF ⟨0x210014, 8, 8⟩ c.num (unspoilLong 0x210014 s)

/-- TSU_STAT.BUSY. -/
def tsuBusy : Fld := ⟨0x210014, 0, 1⟩

/-- R402, R403: what a command does to the raw time; after STEP and LOAD the anchor no longer describes the counter. -/
def tsuOp (op : Nat) (adj : Word) (s : State) : State :=
  match op with
  | 1 => setB anchorFld false (setR 0x210000 (rawNow s + adj) s)
  | 2 => setR 0x210018 adj { s with tsu := { s.tsu with slew := 0 } }
  | _ => setB anchorFld false (setR 0x210000 adj s)

/-- R402: the command that TSU_CMD holds is applied. (log 106 DESIGN CHOICE) -/
def tsuApply (s : State) : State :=
  match s.tsu.pend with
  | some (op, adj) => tsuAnswer .ok (tsuOp op adj (setB tsuBusy false { s with tsu := { s.tsu with pend := none } }))
  | none => s

/-- R402, R404: cycles pass; a command that waits applies at the first. (log 8 DESIGN CHOICE, 108 DEDUCED) -/
def tsuAdvance (cycles : Nat) (s : State) : State :=
  if netOn s && s.tsu.pend.isSome && decide (cycles ≠ 0) then tsuRun (cycles - 1) (tsuApply (tsuRun 1 s)) else tsuRun cycles s

/-- R407: the segment time of a raw value in ns, against the anchor committed last. -/
def segmentNs (s : State) (raw : Word) : Int := (s.tsu.sa * 1000000000 + s.tsu.na : Nat) + signed 32 (raw - s.tsu.ra).toNat

/-- R408: the raw value of a segment time in ns, by the reverse of R407. -/
def rawOf (s : State) (ns : Int) : Word := w32 (unsigned 32 (s.tsu.ra.toNat + (ns - segmentNs s s.tsu.ra)))

/-- (raw time − x) mod 2^32 is below 2^31: x has been reached (R408, R417). -/
def rawReached (s : State) (x : Word) : Bool := decide ((rawNow s - x).toNat < 2 ^ 31)

/-! ### The stamp queue (R411, R412) -/

/-- Word 1 of an entry. -/
def sqReg (e : Nat) : Nat := 0x211000 + 8 * e
def sqValid (s : State) (e : Nat) : Bool := flag s ⟨sqReg e + 4, 6, 1⟩
def sqOwner (s : State) (e : Nat) : Owner := if flag s ⟨sqReg e + 4, 5, 1⟩ then .firmware else .host

/-- The entries that an owner holds. -/
def sqHeld (s : State) (who : Owner) : Nat :=
  ((List.range 64).filter (fun e => sqValid s e && decide (sqOwner s e = who))).length

/-- An owner's share, less what a perturbation withholds (R411, R594 kind 11). -/
def sqShare (s : State) (who : Owner) : Nat :=
  let h := min 64 (getF s ⟨0x210030, 0, 7⟩)
  match who with
  | .host => h - tstHeld s 11 0
  | .firmware => 64 - h - tstHeld s 11 1

/-- TSU_SQ_USED. -/
def sqCount (s : State) : State := setR 0x210038 (w32 (sqHeld s .host + sqHeld s .firmware * 2 ^ 16)) s

/-- R411: a stamp is queued in the lowest free entry. Answers the entry; none where it is dropped (R412).
(log 100 DEDUCED) -/
def queueStamp (port queue : Nat) (who : Owner) (launched : Bool) (index : Nat) (time : Word) (s : State) :
    Option Nat × State :=
  match (List.range 64).find? (fun e => !sqValid s e) with
  | some e =>
    if sqHeld s who < sqShare s who then
      let w1 := port + queue * 4 + b2n (decide (who = .firmware)) * 2 ^ 5 + 2 ^ 6 + b2n launched * 2 ^ 7 + index * 2 ^ 16
      (some e, raise 128 (bump 0x210040 (sqCount (setR (sqReg e + 4) (w32 w1) (setR (sqReg e) time s)))))
    else (none, raise 129 (bump 0x210044 s))
  | none => (none, raise 129 (bump 0x210044 s))

/-- R409: a port's latencies. -/
def portTxLat (s : State) (p : Nat) : Nat := getF s ⟨0x210104 + 0x10 * p, 0, 16⟩
def portRxLat (s : State) (p : Nat) : Nat := getF s ⟨0x210104 + 0x10 * p, 16, 16⟩

/-- R409, R594 kind 10: a stamp of port p with the drawn shift of a perturbation. -/
def shiftedStamp (p : Nat) (t : Int) (s : State) : Word × State :=
  let r := tstApply 10 p s
  let d : Int := match r.1 with | some x => x | none => 0
  (w32 (unsigned 32 (t + d)), r.2)

end Sys2Proof.Machine
end

