-- ==== Sys2Proof/Machine/NetOps.lean ====
section
/-! DEFINITION. The wired ports: queues and the shared buffer, transmission, the transmit merge, pauses, forwarding, and
the window table (R373 to R396, R474). -/

namespace Sys2Proof.Machine

/-- The register at offset o of port p (R397). -/
def portReg (p o : Nat) : Nat := 0x200000 + 0x1000 * p + o

/-- The i-th port counter (R397). -/
def portCnt (p i : Nat) : Nat := portReg p (0x100 + 4 * i)

/-- Fields of NET_PORT_ROLE (R373). -/
def portRole (s : State) (p : Nat) : Nat := getF s ⟨portReg p 0, 0, 2⟩
def portPair (s : State) (p : Nat) : Nat := getF s ⟨portReg p 0, 2, 2⟩
def portPaired (s : State) (p : Nat) : Bool := flag s ⟨portReg p 0, 4, 1⟩
def portSpeed (s : State) (p : Nat) : Nat := getF s ⟨portReg p 0, 5, 2⟩
def portPtp (s : State) (p : Nat) : Bool := flag s ⟨portReg p 0, 7, 1⟩
def pauseObey (s : State) (p : Nat) : Bool := flag s ⟨portReg p 0, 8, 1⟩
def pauseLimit (s : State) (p : Nat) : Nat := getF s ⟨portReg p 4, 0, 16⟩
def isRing (s : State) (p : Nat) : Bool := decide (portRole s p = 1) || decide (portRole s p = 2)

/-- Bits of NET_PORT_STAT and NET_PORT_EVT. -/
def linkFld (p : Nat) : Fld := ⟨portReg p 0xC, 0, 1⟩
def pausedFld (p : Nat) : Fld := ⟨portReg p 0xC, 2, 1⟩
def holdoffFld (p : Nat) : Fld := ⟨portReg p 0xC, 3, 1⟩
def evtFld (p i : Nat) : Fld := ⟨portReg p 0x10, i, 1⟩
def linkUp (s : State) (p : Nat) : Bool := flag s (linkFld p)

/-- A port's state. -/
def portOf (s : State) (p : Nat) : NetPort :=
  match p with | 0 => s.net.p0 | 1 => s.net.p1 | 2 => s.net.p2 | _ => s.net.p3

/-- Sets a port's state. -/
def setPort (p : Nat) (x : NetPort) (s : State) : State :=
  match p with
  | 0 => { s with net := { s.net with p0 := x } }
  | 1 => { s with net := { s.net with p1 := x } }
  | 2 => { s with net := { s.net with p2 := x } }
  | _ => { s with net := { s.net with p3 := x } }

/-- The four ports. -/
def ports : List Nat := [0, 1, 2, 3]

/-- NET_SW_MAC and NET_SW_ORIGIN. -/
def swMac (s : State) : BitVec 48 := (getR s 0x204024).setWidth 16 ++ getR s 0x204020
def swOrigin (s : State) : BitVec 16 := (getR s 0x204010).setWidth 16

/-- R383: the destinations that the module takes; the first octet stands in [7:0]. -/
def addressed (s : State) (d : BitVec 48) : Bool :=
  decide (d = swMac s) || decide (d = 0xFFFFFFFFFFFF) || decide (d &&& 0xFFFFFFFFFF = 0x0052545303)

/-! ### The spline tag (R380, R381) -/

/-- Bytes 0 to 13 of the tag, with the given HOPS. -/
def tagHead (t : SplineTag) (hops : Nat) : List Byte :=
  leBytes 2 t.origin.toNat ++ [t.stream.setWidth 8, BitVec.ofNat 8 hops] ++ leBytes 4 t.seq.toNat ++ leBytes 4 t.step.toNat ++
    [BitVec.ofNat 8 (b2n t.first), 0]

/-- TCRC: over bytes 0 to 13 with byte 3 taken as 0. -/
def tagCrc (t : SplineTag) : BitVec 16 := crc16 (tagHead t 0)
def tagGood (t : SplineTag) : Bool := decide (t.tcrc = tagCrc t)

/-- The 16 bytes of the tag. -/
def tagBytes (t : SplineTag) : List Byte := tagHead t t.hops.toNat ++ leBytes 2 t.tcrc.toNat

/-- A tag of this module's, HOPS 129, with its check. -/
def newTag (s : State) (stream : BitVec 3) (seq : Word) (first : Bool) : SplineTag :=
  let t : SplineTag := ⟨swOrigin s, stream, 129, seq, s.twn.step.setWidth 32, first, 0⟩
  { t with tcrc := tagCrc t }

/-- A frame's bytes from destination address to the last before the FCS, untagged of VLAN. -/
def frameBytes (f : EthFrame) : List Byte :=
  leBytes 6 f.dst.toNat ++ leBytes 6 f.src.toNat ++ (leBytes 2 f.etype.toNat).reverse ++ f.payload ++
    (match f.tag with | some t => tagBytes t | none => [])

/-- R378, R382: a received frame without its VLAN tag, and without its spline tag. -/
def stripVlan (f : EthFrame) : EthFrame := { f with vlan := none, len := f.len - (if f.vlan.isSome then 4 else 0) }
def stripTag (f : EthFrame) : EthFrame := { f with tag := none, len := f.len - (if f.tag.isSome then 16 else 0) }

/-- The bytes of a frame bound for the wire. -/
def bodyBytes : TxBody → List Byte
  | .bytes b => b
  | .fwd f => frameBytes f

/-! ### Queues and the shared buffer (R391, R392) -/

/-- Registers of queue q of port p. -/
def qLimit (s : State) (p q : Nat) : Nat := min 8192 (getF s ⟨portReg p (0x200 + 4 * q), 0, 14⟩)
def qDepthFld (p q : Nat) : Fld := ⟨portReg p (0x220 + 4 * q), 0, 14⟩
def cellsFree : Fld := ⟨0x20401C, 16, 14⟩

/-- A frame's cells enter, or leave, its queue and the buffer. (log 97 DEDUCED) -/
def takeCells (p : Nat) (e : TxEnt) (s : State) : State :=
  setF cellsFree (getF s cellsFree - e.cells) (setF (qDepthFld p e.queue) (getF s (qDepthFld p e.queue) + e.cells) s)
def freeCells (p : Nat) (e : TxEnt) (s : State) : State :=
  setF cellsFree (getF s cellsFree + e.cells) (setF (qDepthFld p e.queue) (getF s (qDepthFld p e.queue) - e.cells) s)

/-- The first frame of a queue. -/
def headOf (s : State) (p q : Nat) : Option TxEnt := (portOf s p).queue.find? (fun e => decide (e.queue = q))

/-- Replaces the first frame of a queue. -/
def setHead (q : Nat) (x : TxEnt) : List TxEnt → List TxEnt
  | [] => []
  | e :: es => if e.queue = q then x :: es else e :: setHead q x es

/-- Removes the first frame of a queue. -/
def dropHead (q : Nat) : List TxEnt → List TxEnt
  | [] => []
  | e :: es => if e.queue = q then es else e :: dropHead q es

/-- R419: a launched frame is judged when it reaches the head of its queue; a perturbation may hold it past its time. -/
def judgeHead (p q : Nat) (s : State) : State :=
  match headOf s p q with
  | some e =>
    match e.launch with
    | some l =>
      if e.judged then s
      else
        let r := tstApply 12 p s
        let d := match r.1 with | some x => x.toNat | none => 0
        let x := portOf r.2 p
        setPort p { x with queue := setHead q { e with judged := true, late := rawReached s l, delay := d } x.queue } r.2
    | none => s
  | none => s

/-- R392: a frame is admitted to its queue, or dropped whole and counted. Answers whether it is admitted. -/
def admitTx (p : Nat) (e : TxEnt) (s : State) : Bool × State :=
  if getF s (qDepthFld p e.queue) + e.cells ≤ qLimit s p e.queue ∧ e.cells ≤ getF s cellsFree - tstHeld s 6 p then
    let x := portOf s p
    (true, judgeHead p e.queue (takeCells p e (setPort p { x with queue := x.queue ++ [e] } s)))
  else (false, raise 124 (bump (portReg p (0x240 + 4 * e.queue)) s))

/-- The cells of a frame (R392). -/
def cellsOf (len : Nat) : Nat := (len + 255) / 256

/-! ### Transmission (R391, R393, R418) -/

/-- R393: the bytes of a frame that must be released before the port starts it. -/
def startBytes (s : State) (p : Nat) : Nat := getF s ⟨portReg p 0x14, 0, 14⟩

/-- R393: the port's START gives unpredictable frames and counters. (log 105 DESIGN CHOICE) -/
def startBad (s : State) (p : Nat) : Bool := decide (startBytes s p < 64) || decide (9216 < startBytes s p)

/-- Whether a frame may start. -/
def txReady (s : State) (p : Nat) (e : TxEnt) : Bool :=
  !e.opn || (!e.store && decide (startBytes s p ≤ e.rel))

/-- The time a frame holds the port, in ns, with its preamble and gap. -/
def wireNs (s : State) (p len : Nat) : Nat := if portSpeed s p = 2 then ((len + 20) * 8 + 9) / 10 else (len + 20) * 8

/-- R418: the frame would end before every launched frame that waits at the head of another queue must begin. -/
def clearsLaunches (s : State) (p : Nat) (e : TxEnt) : Bool :=
  (List.range 8).all (fun q =>
    decide (q = e.queue) ||
    match headOf s p q with
    | some h =>
      match h.launch with
      | some l => !h.late && !rawReached s l && decide (wireNs s p e.len ≤ (l - rawNow s).toNat)
      | none => true
    | none => true)

/-- R417: the second copy of a launched frame whose first has left: nothing comes between. -/
def followHead (s : State) (p : Nat) : Option TxEnt := (((List.range 8).filterMap (headOf s p)).find? (fun e => e.follow))

/-- R391: the frame to start next: of the highest queue whose head is ready and carries no launch time. -/
def nextFrame (s : State) (p : Nat) : Option TxEnt :=
  match followHead s p with
  | some e => if txReady s p e then some e else none
  | none => ((List.range 8).reverse.filterMap (headOf s p)).find?
      (fun e => decide (e.launch = none) && txReady s p e && clearsLaunches s p e)

/-- The port may start a frame: NET ON, the port enabled, its link up, no pause, nothing in service. (log 102 DEDUCED) -/
def txFree (s : State) (p : Nat) : Bool :=
  netOn s && decide (portRole s p ≠ 0) && linkUp s p && !flag s (pausedFld p) && (portOf s p).cur.isNone

/-- A frame moves from its queue into service. (log 102 DEDUCED) -/
def startTx (p : Nat) (e : TxEnt) (s : State) : State :=
  let x := portOf s p
  judgeHead p e.queue (setPort p { x with queue := dropHead e.queue x.queue, cur := some e } s)

/-- R378: the VLAN tag that a port inserts. -/
def txVlan (s : State) (p q : Nat) : Option (BitVec 12 × BitVec 3) :=
  let v := getR s (0x204000 + 4 * p)
  if getBits v 0 12 = 0 then none else some (v.setWidth 12, BitVec.ofNat 3 q)

/-- R393: free bytes, where START is out of range. (log 105 DESIGN CHOICE) -/
def freeBytes (s : State) (n : Nat) : List Byte := (List.range n).map (fun i => (Config.freeWord (s.free + i)).setWidth 8)

/-- A frame has left the port. -/
def sent (p : Nat) (e : TxEnt) (ok : Bool) (s : State) : State :=
  let vlan := txVlan s p e.queue
  if startBad s p then
    emit (.frame p (freeBytes s e.len) vlan (bitOf (Config.freeWord (s.free + e.len)) 0))
      { s with free := s.free + e.len + 1 }
  else emit (.frame p (bodyBytes e.body) vlan ok) s

/-- R394, R395: a PAUSE obeyed during a frame takes effect at its end, and the deathwatch starts. -/
def pauseAtEnd (p : Nat) (s : State) : State :=
  let x := portOf s p
  if x.pend then setB (pausedFld p) true (setPort p { x with pend := false, since := s.tsu.ran } s) else s

/-- The frame in service ends, whole or with an inverted FCS. -/
def endTx (p : Nat) (ok : Bool) (s : State) : State :=
  let x := portOf s p
  match x.cur with
  | some e => pauseAtEnd p (freeCells p e (sent p e ok (setPort p { x with cur := none } s)))
  | none => s

/-- R384, R389: a transmission is ended with an inverted FCS. (log 103 DESIGN CHOICE) -/
def stomp (p : Nat) (s : State) : State := bump (portCnt p 12) (setB (evtFld p 3) true s)

/-! ### The transmit merge (R387 to R390) -/

/-- R390: the port a frame leaves by; none where there is no egress. -/
def egress (s : State) (h : TxHead) : Option Nat :=
  let n := h.port.toNat
  let p := if n = 7 then ports.find? (fun p => decide (portRole s p = 3) && linkUp s p)
    else if n < 4 then some n else none
  match p with
  | some p => if portRole s p = 0 then none else some p
  | none => none

/-- R383: the ports that a frame for port p leaves by: both of the ring, or the one with link. -/
def ringPorts (s : State) (p : Nat) : List Nat :=
  if portPaired s p then
    let both := [min p (portPair s p), max p (portPair s p)]
    if both.any (linkUp s) then both.filter (linkUp s) else both
  else [p]

/-- R387, R388: the copies of a ring frame: two where both twins send it, and of a survivor of a failed twin; one while a
proof runs or the frame goes on from one twin alone. -/
def ringCopies (s : State) : Nat :=
  if bothInStep s then 2 else if s.twn.a = .proving ∨ s.twn.b = .proving then 1 else 2

/-- A frame as it enters a queue; PTP frames use queue 7 (R391). The second copy of a launched frame follows the first (R417). -/
def newEnt (h : TxHead) (second store ptp : Bool) (tag : Option SplineTag) (bytes : List Byte) : TxEnt :=
  { queue := if ptp then 7 else h.queue.toNat, cells := cellsOf h.len, len := h.len, rel := bytes.length, opn := true,
    second := second, store := store, ptp := ptp, sync := h.sync, launch := if second then none else h.launch,
    follow := second && h.launch.isSome, tag := tag, body := .bytes bytes }

/-- Admits a list of frames, each at its port; the first admitted is the one that is stamped (R410). Answers whether any is
admitted. -/
def admitAll (stamp : Option (Owner × BitVec 12)) (es : List (Nat × TxEnt)) (s : State) : Bool × State :=
  es.foldl (fun a e =>
    let r := admitTx e.1 { e.2 with stamp := if a.1 then none else stamp } a.2
    (a.1 || r.1, r.2)) (false, s)

/-- A host frame that gets no stamp is answered so (R413). (log 100 DEDUCED) -/
def noStamp (stamp : Option (Owner × BitVec 12)) (s : State) : State :=
  match stamp with
  | some (.host, i) => ftxStamped i.toNat 0xFF s
  | _ => s

/-- R379: a frame that leaves by a ring port, and carries a spline tag; `b`: its first bytes. -/
def onRing (s : State) (h : TxHead) (b : List Byte) : Bool :=
  match egress s h with
  | some p => isRing s p && !ptpBytes b && !macBytes b
  | none => false

/-- R381: the twins have numbered the frame in its stream: FIRST on the first since they left reset. (log 100 DEDUCED) -/
def numberFrame (h : TxHead) (b : List Byte) (s : State) : State :=
  if onRing s h b then
    let q := h.queue.toNat
    let n := tabGet (fun _ => none) s.twn.seqs q
    let t := newTag s h.queue (n.getD 0) n.isNone
    { s with
      twn := { s.twn with seqs := tabSet (fun _ => none) s.twn.seqs q (some (n.getD 0 + 1)) }
      net := { s.net with merge := { s.net.merge with tag := some t } } }
  else { s with net := { s.net with merge := { s.net.merge with tag := none } } }

/-- R387 to R390: a frame opens: its copies are admitted at its ports, but that a port of ROLE 0 takes none. `stamp`: the stamp
that it waits for; `start`: its first bytes; `bytes`: those released already. -/
def openFrame (h : TxHead) (stamp : Option (Owner × BitVec 12)) (copies : Nat) (store : Bool) (start bytes : List Byte) (s : State) :
    State :=
  match egress s h with
  | none => noStamp stamp (bump 0x20405C s)
  | some p =>
    let ring := onRing s h start
    let ps := if ring then ringPorts s p else [p]
    let n := if ring then copies else 1
    let live := ps.filter (fun p => decide (portRole s p ≠ 0))
    let es := live.flatMap (fun p =>
      (List.range n).map (fun i => (p, newEnt h (decide (i = 1)) store (ptpBytes start) s.net.merge.tag bytes)))
    let r := admitAll stamp es (bumpBy 0x20405C (ps.length - live.length) s)
    if r.1 then r.2 else noStamp stamp r.2

/-- A block's bytes reach a frame of the merge; the last closes it, with the spline tag before the FCS (R380). -/
def extend (bytes : List Byte) (last : Bool) (e : TxEnt) : TxEnt :=
  if e.opn then
    let tag := match e.tag with | some t => if last then tagBytes t else [] | none => []
    let body := match e.body with | .bytes b => TxBody.bytes (b ++ bytes ++ tag) | x => x
    { e with body := body, rel := if last then e.len else e.rel + bytes.length, opn := !last }
  else e

/-- Applies a change to every frame of a port. -/
def mapPort (f : TxEnt → TxEnt) (x : NetPort) : NetPort := { x with queue := x.queue.map f, cur := x.cur.map f }

/-- The merge releases a block (R387). -/
def release (b : TxBlock) (s : State) : State :=
  let m := s.net.merge
  let s := if m.busy then s else openFrame b.head b.head.stamp (ringCopies s) false b.bytes [] (numberFrame b.head b.bytes s)
  let s := each ports (fun p s => setPort p (mapPort (extend b.bytes b.last) (portOf s p)) s) s
  { s with net := { s.net with merge := { s.net.merge with
    busy := !b.last
    sofar := if b.last then [] else s.net.merge.sofar ++ b.bytes
    only := if b.last then none else s.net.merge.only } } }

/-- Fields of the merge by twin. -/
def mergeSkip (s : State) : Twin → Nat
  | .a => s.net.merge.skipA
  | .b => s.net.merge.skipB
def setSkip (t : Twin) (n : Nat) (s : State) : State :=
  match t with
  | .a => { s with net := { s.net with merge := { s.net.merge with skipA := n } } }
  | .b => { s with net := { s.net with merge := { s.net.merge with skipB := n } } }
def mergeGot (s : State) : Twin → Nat
  | .a => s.net.merge.gotA
  | .b => s.net.merge.gotB
def setGot (t : Twin) (n : Nat) (s : State) : State :=
  match t with
  | .a => { s with net := { s.net with merge := { s.net.merge with gotA := n } } }
  | .b => { s with net := { s.net with merge := { s.net.merge with gotB := n } } }

/-- The frame goes on from twin t alone; the other twin's remaining blocks of it are discarded, unless it has delivered its
last. (log 99 DEDUCED) -/
def goAlone (t : Twin) (otherDone : Bool) (s : State) : State :=
  let n := s.net.merge.sofar.length
  let s := setGot .a n (setGot .b n { s with net := { s.net with merge := { s.net.merge with only := some t } } })
  if otherDone then s else setSkip t.other (mergeSkip s t.other + 1) s

/-- A block of the twin from which alone the frame is sent: the part that has not been released yet. -/
def releaseAlone (t : Twin) (b : TxBlock) (s : State) : State :=
  let seen := s.net.merge.sofar.length - mergeGot s t
  let s := setGot t (mergeGot s t + b.bytes.length) s
  release { b with bytes := b.bytes.drop seen } s

/-- Frames of the merge that have not started leave a port's queue, and give up their cells. -/
def unqueue (drop : TxEnt → Bool) (p : Nat) (s : State) : State :=
  let x := portOf s p
  let s := setPort p { x with queue := x.queue.filter (fun e => !drop e) } s
  each (x.queue.filter drop) (freeCells p) s

/-- R389: the merge stops releasing both copies: what is on the wire is stomped, the rest leaves the queues. -/
def stopFrame (p : Nat) (s : State) : State :=
  let s := unqueue (fun e => e.opn) p s
  match (portOf s p).cur with
  | some e => if e.opn then stomp p (endTx p false s) else s
  | none => s

/-- R410: a frame of the merge still waits for its stamp. -/
def stampOwed (s : State) : Bool :=
  ports.any (fun p => ((portOf s p).queue ++ (portOf s p).cur.toList).any (fun e => e.opn && e.stamp.isSome))

/-- R389: two blocks differed: the frame is sent once from the read-source twin's copy `b`, stored whole. -/
def mergeMismatch (b : TxBlock) (otherDone : Bool) (s : State) : State :=
  let t := s.twn.readSrc
  let m := s.net.merge
  let s := bump 0x204058 s
  let stamp := if m.busy && !stampOwed s then none else b.head.stamp
  let start := m.sofar ++ b.bytes
  let s := if m.busy then each ports stopFrame s else numberFrame b.head start s
  let s := if m.busy && (egress s b.head).isNone then s else openFrame b.head stamp 1 true start m.sofar s
  let s := { s with net := { s.net with merge := { s.net.merge with busy := true } } }
  release b (goAlone t otherDone s)

/-- R387 to R389, R533: a block of twin t arrives. (log 97 DEDUCED) -/
def takeBlock (t : Twin) (b : TxBlock) (s : State) : State :=
  if 0 < mergeSkip s t then
    let s := setGot t (mergeGot s t + b.bytes.length) s
    if b.last then setSkip t (mergeSkip s t - 1) s else s
  else if s.net.merge.only = some t then releaseAlone t b s
  else
    let f := copyFlipped t 1 s
    let s := f.2
    let q := s.net.merge.wait
    let r := pairCopy inOrder s q { twin := t, item := b, flip := f.1 }
    let otherLast := match q with
      | y :: _ => if s.twn.readSrc = t then y.item.last else b.last
      | [] => false
    let s := { s with net := { s.net with merge := { s.net.merge with wait := r.q } } }
    match r.pass, r.diff with
    | [x], true => routeDiff (if bothInStep s then mergeMismatch x otherLast s else release x s)
    | xs, true => routeDiff (each xs release s)
    | xs, false => each xs release s

/-- R388: the leading twin's waiting blocks go on alone; the frame is a single copy. -/
def mergeLead (t : Twin) (bs : List TxBlock) (s : State) : State :=
  match bs with
  | [] => s
  | b :: _ =>
    let m := s.net.merge
    let s := if m.busy then each ports (unqueue (fun e => e.opn && e.second)) s
      else
        let o := openFrame b.head b.head.stamp 1 false b.bytes [] (numberFrame b.head b.bytes s)
        { o with net := { o.net with merge := { o.net.merge with busy := true } } }
    each bs (releaseAlone t) (goAlone t false s)

/-- The blocks of the first frame among those that wait. -/
def firstFrame : List (Copy TxBlock) → List (Copy TxBlock)
  | [] => []
  | c :: q => if c.item.last then [c] else c :: firstFrame q

/-- R533: from a declaration on, the survivor's waiting blocks pass; a frame sent from the failed twin alone is finished
from the survivor's. -/
def mergeSwitch (s : State) : State :=
  match soleTwin s with
  | none => s
  | some t =>
    let m := s.net.merge
    let s := { s with net := { s.net with merge := { m with wait := [] } } }
    let s := if m.only = some t.other then
        setSkip t (mergeSkip s t - 1) { s with net := { s.net with merge := { s.net.merge with only := some t } } }
      else s
    each (loneCopies s m.wait) release s

/-! ### Pauses (R394 to R396) -/

/-- R397: how long a port has been paused, in µs. -/
def pausedUs (s : State) (p : Nat) : Nat := (s.tsu.ran - (portOf s p).since) / 250

/-- R394, R395: transmission stops. -/
def pauseNow (p : Nat) (s : State) : State :=
  if flag s (pausedFld p) then s else setB (pausedFld p) true (setPort p { portOf s p with since := s.tsu.ran } s)

/-- Transmission resumes after a pause of us microseconds. -/
def resume (p us : Nat) (s : State) : State :=
  if flag s (pausedFld p) then bumpBy (portCnt p 14) us (setB (pausedFld p) false s) else s

/-- R394: a PAUSE is obeyed: transmission stops after the frame in progress; 0 quanta resume it. -/
def obeyPause (p quanta us : Nat) (s : State) : State :=
  let x := portOf s p
  if quanta = 0 then resume p us (setPort p { x with pend := false } s)
  else if x.cur.isSome then (if flag s (pausedFld p) then s else setPort p { x with pend := true } s)
  else pauseNow p s

/-- R394: a MAC control frame is received. -/
def macControl (p : Nat) (quanta opcode : Nat) (toModule : Bool) (us : Nat) (s : State) : State :=
  if opcode = 1 ∧ toModule = true then
    let s := bump (portCnt p 7) s
    if pauseObey s p && !flag s (holdoffFld p) then obeyPause p quanta us s else bump (portCnt p 8) s
  else bump (portCnt p 9) s

/-- R594 kind 4: a frame received under PORT_HOLD acts as a PAUSE, obeyed whatever PAUSE_OBEY holds. -/
def portHold (p : Nat) (s : State) : State :=
  let r := tstApply 4 p s
  match r.1 with
  | some q => if flag r.2 (holdoffFld p) then bump (portCnt p 8) r.2 else obeyPause p q.toNat (pausedUs r.2 p) r.2
  | none => r.2

/-! ### Receiving (R377, R378, R382 to R386, R409) -/

/-- R378: the port takes the frame's VID. -/
def vidTaken (s : State) (p : Nat) (f : EthFrame) : Bool :=
  let vid := getF s ⟨0x204000 + 4 * p, 0, 12⟩
  match f.vlan with
  | some (v, _) => decide (vid = 0) || decide (v = 0) || decide (v.toNat = vid)
  | none => true

/-- R377, R378: what a port's receive checks count; none where the frame passes. -/
def rxFault (s : State) (p : Nat) (f : EthFrame) : Option Nat :=
  if f.len < 64 then some 2 else if 9216 < f.len then some 3 else if !f.fcsOk then some 1
  else if vidTaken s p f then none else some 4

/-- R378: the priority that a frame takes. -/
def rxPcp (s : State) (p : Nat) (f : EthFrame) : Nat :=
  match f.vlan with
  | some (_, q) => q.toNat
  | none => getF s ⟨0x204000 + 4 * p, 12, 3⟩

/-- R457, R458: a frame carries a good hierarchy header. -/
def hierGood (f : EthFrame) : Bool :=
  let b := f.payload
  decide (f.etype = 0xB7A2) && decide (32 ≤ b.length) && decide (b.head? = some 1) &&
    decide (leNat ((b.drop 30).take 2) = (crc16 (b.take 30)).toNat) &&
    decide (leNat ((b.drop 28).take 2) + 32 ≤ b.length)

/-- R409: the stamp that a port takes of every frame it receives. -/
def rxStamp (p : Nat) (s : State) : Word × State := shiftedStamp p ((rawNow s).toNat - portRxLat s p) s

/-- R378, R382: a frame as it is delivered: without its spline tag, with the VID received and its PCP. -/
def delivered (s : State) (p : Nat) (f : EthFrame) : EthFrame :=
  { stripTag (stripVlan f) with
    vlan := some (match f.vlan with | some (v, _) => v | none => 0, BitVec.ofNat 3 (rxPcp s p f)) }

/-- R385, R409, R458: the frame, with its stamp, captured by the splitter; a hierarchy frame with a bad header is dropped
and counted. (log 98 DEDUCED) -/
def rxDeliver (p : Nat) (f : EthFrame) (raw : Word) (s : State) : State :=
  if f.etype = 0xB7A2 ∧ hierGood f = false then bump 0x400100 s
  else capture (.net p (delivered s p f) raw) s

/-- R386: an entry's place. -/
def winFind (s : State) (o : BitVec 16) (k : BitVec 3) : Option WinEnt :=
  s.net.win.find? (fun w => decide (w.origin = o) && decide (w.stream = k))

/-- The table with one entry renewed, that accepted last; and TABLE_USED. -/
def setWin (ws : List WinEnt) (s : State) : State :=
  setF ⟨0x20401C, 0, 12⟩ ws.length { s with net := { s.net with win := ws } }

/-- The table less the entry of a pair. -/
def winOthers (s : State) (o : BitVec 16) (k : BitVec 3) : List WinEnt :=
  s.net.win.filter (fun w => !(decide (w.origin = o) && decide (w.stream = k)))

/-- R386: a tagged frame is judged against the window table. Answers whether it is accepted. -/
def judgeWin (t : SplineTag) (s : State) : Bool × State :=
  let fresh : WinEnt := ⟨t.origin, t.stream, t.seq, 1⟩
  match winFind s t.origin t.stream with
  | none =>
    if 2048 ≤ s.net.win.length then (true, bump 0x204048 (setWin (fresh :: s.net.win.take 2047) s))
    else (true, setWin (fresh :: s.net.win) s)
  | some w =>
    let rest := winOthers s t.origin t.stream
    let d := (t.seq - w.h).toNat
    let back := (w.h - t.seq).toNat
    if t.first then (true, setWin (fresh :: rest) s)
    else if 1 ≤ d ∧ d < 2 ^ 31 then (true, setWin ({ w with h := t.seq, seen := (w.seen <<< d) ||| 1 } :: rest) s)
    else if back < 64 then
      if w.seen.getLsbD back then (false, bump 0x204040 s)
      else (true, setWin ({ w with seen := w.seen ||| (1#64 <<< back) } :: rest) s)
    else (false, bump 0x204044 s)

/-- R384: a frame passes to PAIR by cut-through. (log 97 DEDUCED) -/
def cutThrough (s : State) (p q pcp : Nat) : Bool :=
  decide (portSpeed s p = portSpeed s q) && !flag s (pausedFld q) && (headOf s q pcp).isNone

/-- R378, R382, R383, R390: a frame is forwarded to PAIR without its VLAN tag, with HOPS reduced by one; cut through where R384
allows, at once where the port may start it (R391, R417, R418) and else as the port's next of its queue; otherwise queued. -/
def forward (p : Nat) (f : EthFrame) (t : SplineTag) (s : State) : State :=
  let q := portPair s p
  let pcp := rxPcp s p f
  let g := { stripVlan f with tag := some { t with hops := t.hops - 1 } }
  let e : TxEnt := { queue := pcp, cells := cellsOf g.len, len := g.len, rel := g.len, body := .fwd g }
  let x := portOf s q
  if portRole s q = 0 then bump 0x20405C s
  else if cutThrough s p q pcp && linkUp s q then
    (if txFree s q && (followHead s q).isNone && clearsLaunches s q e then setPort q { x with cur := some { e with cells := 0 } } s
     else setPort q { x with queue := x.queue ++ [{ e with cells := 0 }] } s)
  else (admitTx q e s).2

/-- R384: a frame that proved bad at its end had begun to pass by cut-through: its egress is stomped. MAC control and PTP frames
are never forwarded (R379, R394). (log 103 DESIGN CHOICE) -/
def stompForward (p : Nat) (f : EthFrame) (s : State) : State :=
  let q := portPair s p
  if portPaired s p && vidTaken s p f && decide (f.dst ≠ swMac s) && decide (f.etype ≠ 0x8808) && !f.ptp &&
      decide (portRole s q ≠ 0) && linkUp s q && cutThrough s p q (rxPcp s p f) then
    stomp q (emit (.frame q (frameBytes f) (txVlan s q (rxPcp s p f)) false) s)
  else s

/-! ### The hierarchy relay (R474) -/

/-- HIER_ROLE (R454): 0 root, 1 area manager, 2 worker. -/
def hierRole (s : State) : Nat := getF s ⟨0x400000, 0, 2⟩
def hierArea (s : State) : Nat := getF s ⟨0x400000, 8, 7⟩
def hierWorker (s : State) : Nat := getF s ⟨0x400000, 16, 7⟩

/-- R474: an accepted frame that a manager relays. -/
def relayed (s : State) (f : EthFrame) : Bool :=
  let b := f.payload
  let mtype := (b.getD 1 0).toNat
  let flags := leNat ((b.drop 2).take 2)
  let epa := leWord ((b.drop 12).take 4)
  hierGood f && (decide (mtype = 0x10) || decide (mtype = 0x30) || decide (mtype = 0x50)) && flags.testBit 1 &&
    (decide (2 ≤ flags / 4 % 4) || (decide (epaArea epa = hierArea s) && decide (flags / 16 % 4 = 0)))

/-- The place of a relayed frame: in queue 7 before any PTP frame that waits, after frames relayed before it.
(log 100 DEDUCED) -/
def insertRelay (x : TxEnt) : List TxEnt → List TxEnt
  | [] => [x]
  | e :: es => if e.queue = 7 ∧ e.ptp = true then x :: e :: es else e :: insertRelay x es

/-- R474: the frame goes once to each down port. (log 100 DEDUCED) -/
def relay (f : EthFrame) (s : State) : State :=
  let downs := ports.filter (fun p => decide (portRole s p = 2))
  if downs = [] ∨ imgSealed s = false ∨ relayed s f = false then s
  else
    let seq := s.net.relaySeq
    let g : EthFrame := { stripVlan f with src := swMac s, tag := some (newTag s 7 seq s.net.relayFirst) }
    let e : TxEnt := { queue := 7, cells := cellsOf g.len, len := g.len, rel := g.len, relay := true, body := .fwd g }
    let s := { s with net := { s.net with relaySeq := seq + 1, relayFirst := false } }
    bump 0x204080 (each downs (fun p s =>
      let r := admitTx p e s
      if r.1 then
        let x := portOf r.2 p
        judgeHead p 7 (setPort p { x with queue := insertRelay e x.queue.dropLast } r.2)
      else r.2) s)

/-! ### Frames that the merge stops releasing (R376, R393) -/

/-- R393: the frame in service ends with an inverted FCS, since its next byte is not released. -/
def underrun (p : Nat) (s : State) : State :=
  let s := bump (portCnt p 11) (setB (evtFld p 2) true (endTx p false s))
  setF ⟨portReg p 0x14, 0, 14⟩ (max (startBytes s p) (min 9216 (startBytes s p + 512))) s

/-- R376, R393: the twins are reset: what the merge had begun to release gets no more bytes. (log 97 DEDUCED) -/
def dropOpen (p : Nat) (s : State) : State :=
  let s := unqueue (fun e => e.opn) p s
  match (portOf s p).cur with
  | some e => if e.opn then underrun p s else s
  | none => s

end Sys2Proof.Machine
end

