-- ==== Sys2Proof/Machine/ImgOps.lean ====
section
/-! DEFINITION. The bytes of an image slot: little-endian fields, the panel directory and records (R119 to R138), and the
safe-level record (R151, R152). -/

namespace Sys2Proof.Machine

/-- An unlisted byte of a store. -/
def zeroByte : Nat → Byte := fun _ => 0

/-- The byte at an offset, as a number. -/
def byteAt (t : Tab Byte) (off : Nat) : Nat := (tabGet zeroByte t off).toNat

/-- The little-endian number of `n` bytes at an offset. -/
def leAt (t : Tab Byte) (off : Nat) : Nat → Nat
  | 0 => 0
  | n + 1 => byteAt t off + 256 * leAt t (off + 1) n

/-- The bytes of a range. -/
def bytesAt (t : Tab Byte) (off n : Nat) : List Byte := tabRange zeroByte t off n

/-- A slot (slot 1 where true). -/
def imgSlot (s : State) (b : Bool) : Tab Byte := if b then s.img.slot1 else s.img.slot0

/-- The ACTIVE image's bytes; none where the pointer names neither slot (R606). -/
def activeImg (s : State) : Tab Byte :=
  match s.img.active with
  | some b => imgSlot s b
  | none => []

/-- The physical slot that is STAGED: the one that is not ACTIVE; slot 0 where neither is. -/
def stagedIdx (s : State) : Bool :=
  match s.img.active with
  | some b => !b
  | none => false

/-- The STAGED slot's bytes. -/
def stagedImg (s : State) : Tab Byte := imgSlot s (stagedIdx s)

/-- A directory entry (R121). -/
structure DirEntry where
  type   : Nat
  ver    : Nat
  off    : Nat
  len    : Nat
  count  : Nat
  recLen : Nat
  deriving DecidableEq, Repr

/-- The directory entry of index i. -/
def dirEntry (t : Tab Byte) (i : Nat) : DirEntry :=
  let o := 128 + 16 * i
  ⟨byteAt t o, byteAt t (o + 1), leAt t (o + 4) 4, leAt t (o + 8) 4, leAt t (o + 12) 2, leAt t (o + 14) 2⟩

/-- The directory (R120, R121). -/
def directory (t : Tab Byte) : List DirEntry := (List.range (leAt t 12 2)).map (dirEntry t)

/-- The panel of a type. -/
def panel (t : Tab Byte) (type : Nat) : Option DirEntry := (directory t).find? (fun e => decide (e.type = type))

/-- The offsets of a panel's records (R122). -/
def records (t : Tab Byte) (type : Nat) : List Nat :=
  match panel t type with
  | some e => (List.range e.count).map (fun i => e.off + i * e.recLen)
  | none => []

/-- The last record of a panel whose little-endian key of `n` bytes at `o` is `k`; and whether two records name it.
(log 40 DEDUCED) -/
def recordFor (t : Tab Byte) (type o n k : Nat) : Option Nat :=
  (records t type).reverse.find? (fun r => decide (leAt t (r + o) n = k))
def recordTwice (t : Tab Byte) (type o n k : Nat) : Bool :=
  decide (1 < ((records t type).filter (fun r => decide (leAt t (r + o) n = k))).length)

/-- CHAN_MASK of a record, and its channels. -/
def chanMask (t : Tab Byte) (r : Nat) : Nat := leAt t (r + 8) 8
def maskChans (m : Nat) : List Nat := (List.range 64).filter (fun n => m.testBit n)

/-- R123: a STRING above 63 names no string. -/
def stringNamed (t : Tab Byte) (r : Nat) : Bool := decide (byteAt t r < 64)

/-- R123, R124: the record breaks a rule, alone or with another. (log 36 DEDUCED) -/
def chanRecBad (t : Tab Byte) (r : Nat) : Bool :=
  let m := chanMask t r
  let cs := maskChans m
  let leds := byteAt t (r + 2)
  decide (leds = 0) || decide (20 < leds) || decide (byteAt t (r + 3) ≠ cs.length) || decide (cs.length = 0) ||
  decide (8 < cs.length) || cs.any (fun n => decide (n / 8 ≠ cs.headD 0 / 8)) ||
  decide (leds * leAt t (r + 4) 2 < 3000) || decide (56000 < leds * leAt t (r + 6) 2) || decide (leAt t (r + 16) 2 < 66) ||
  recordTwice t 1 0 1 (byteAt t r) ||
  (records t 1).any (fun q => decide (q ≠ r) && stringNamed t q && decide (chanMask t q &&& m ≠ 0))

/-- The CHAN record whose string a channel belongs to (R123). (log 40 DEDUCED) -/
def chanRecFor (t : Tab Byte) (n : Nat) : Option Nat :=
  (records t 1).reverse.find? (fun r => stringNamed t r && (chanMask t r).testBit n)

/-- R20, R125: the greatest reference that the image declares for a channel, whatever else its records hold: the least I_MAX of
the enabled strings that name it, 0 where none does. (log 36 DEDUCED) -/
def declaredMax (t : Tab Byte) (n : Nat) : Nat :=
  match (records t 1).filter (fun r => stringNamed t r && (chanMask t r).testBit n && (byteAt t (r + 1)).testBit 0) with
  | [] => 0
  | rs => rs.foldl (fun m r => min m (leAt t (r + 18) 2)) 65535

/-- R152: the copy in use: the higher WSEQ among those whose MAGIC and CRC are good. -/
def safeRecord (s : State) : Option SafeCopy :=
  match s.img.safe0.good, s.img.safe1.good with
  | true, true => some (if s.img.safe0.wseq.toNat < s.img.safe1.wseq.toNat then s.img.safe1 else s.img.safe0)
  | true, false => some s.img.safe0
  | false, true => some s.img.safe1
  | false, false => none

/-- The LEVEL and LIMIT of a channel in the record in use; 0 with no record (R30, R103). -/
def safeLevel (s : State) (ch : Nat) : Nat := match safeRecord s with | some r => (r.level.getD ch 0).toNat | none => 0
def safeLimit (s : State) (ch : Nat) : Nat := match safeRecord s with | some r => (r.limit.getD ch 0).toNat | none => 0

/-- Word of bytes of a store as a 32-bit word. -/
def wordAt (t : Tab Byte) (off : Nat) : Word := w32 (leAt t off 4)

end Sys2Proof.Machine
end

