-- ==== Sys2Proof/Machine/DrvOps.lean ====
section
/-! DEFINITION. The channel slice: its configuration, its loop reference, ramps, states, faults, and the rise and fall of
DRIVE (R29, R30, R125, R222 to R251). -/

namespace Sys2Proof.Machine

/-- The register at offset `o` of channel `n` (R253). -/
def chReg (n o : Nat) : Nat := 0x100000 + 0x100 * n + o

/-- The slice of a channel. -/
def slice (s : State) (n : Nat) : Slice := tabGet (fun _ => {}) s.drv.slices n

/-- Sets the slice of a channel. -/
def setSlice (n : Nat) (x : Slice) (s : State) : State :=
  { s with drv := { s.drv with slices := tabSet (fun _ => {}) s.drv.slices n x } }

/-- All channels. -/
def channels : List Nat := List.range 64

/-- DRV_CH_CFG.ENABLE. -/
def chEnabled (s : State) (n : Nat) : Bool := flag s ⟨chReg n 8, 0, 1⟩

/-- R239: the channel works from the safe-level record, as its own lead. (log 38 DEDUCED) -/
def fromSafe (s : State) (n : Nat) : Bool := !chEnabled s n && !s.drv.loaded && decide (safeLimit s n ≠ 0)

/-- R125, R239: the channel is enabled; its die is not lost (R252). -/
def chOn (s : State) (n : Nat) : Bool := (chEnabled s n || fromSafe s n) && !s.drv.lost.contains (n / 8)

/-- R233: the lead of the channel's string. -/
def leadOf (s : State) (n : Nat) : Nat := if chEnabled s n then 8 * (n / 8) + getF s ⟨chReg n 8, 2, 3⟩ else n

/-- R233: the channels that take the reference of lead `n`. -/
def members (s : State) (n : Nat) : List Nat := channels.filter (fun m => chOn s m && decide (leadOf s m = n))

/-- The short and open thresholds in mV; 0 disables, as on a channel that works from the safe-level record. -/
def vShort (s : State) (n : Nat) : Nat := if chEnabled s n then 20 * getF s ⟨chReg n 8, 6, 12⟩ else 0
def vOpen (s : State) (n : Nat) : Nat := if chEnabled s n then 20 * getF s ⟨chReg n 8, 18, 12⟩ else 0

/-- I_MIN and I_MAX of DRV_CH_LIMIT. -/
def iMin (s : State) (n : Nat) : Nat := getF s ⟨chReg n 0xC, 0, 16⟩
def iMax (s : State) (n : Nat) : Nat := getF s ⟨chReg n 0xC, 16, 16⟩

/-- R125: a non-zero code brought into I_MIN to I_MAX of DRV_CH_LIMIT. -/
def withinLimits (s : State) (n c : Nat) : Nat := min (max c (iMin s n)) (iMax s n)

/-- R223 stage 1 (R29, R125, R126): 0 stays 0, a non-zero code is brought into I_MIN to I_MAX; a channel that is off is
clamped to 0. Until an image has loaded the limits, the clamp is the safe-level record's LIMIT (R152, R239), under which a
channel that the host has enabled keeps to the limits the host wrote. (log 38 DEDUCED) -/
def clampCode (s : State) (n c : Nat) : Nat :=
  if c = 0 then 0
  else if s.drv.loaded then (if chEnabled s n then withinLimits s n c else 0)
  else min (if chEnabled s n then withinLimits s n c else c) (safeLimit s n)

/-- R236: the bias voltage in mV: 7/8 of the short threshold, rounded down to 20 mV; 0 with detection disabled. -/
def biasMv (s : State) (n : Nat) : Nat := vShort s n * 7 / 8 / 20 * 20

/-- R255: the channel's configuration gives unpredictable references. -/
def chBad (s : State) (n : Nat) : Bool :=
  chEnabled s n && ((decide (leadOf s n ≠ n) && (!chEnabled s (leadOf s n) || decide (leadOf s (leadOf s n) ≠ leadOf s n))) ||
    (decide (vOpen s n ≠ 0) && decide (vOpen s n ≤ vShort s n)) || decide (getF s ⟨chReg n 0x24, 0, 4⟩ = 0))

/-- R223 stages 4 and 5, R48: the limiter's scale, with the floor of 66 that never exceeds the working value.
(log 13 DEDUCED) -/
def scaleCode (k w : Nat) : Nat := if w = 0 then 0 else max (w * k / 1024) (min w 66)

/-! ### Ramps (R230) -/

/-- The greatest v below v0 + 2^n with p v, for a p that holds at v0 and falls once: bit by bit, from bit n - 1 down.
(log 57 DESIGN CHOICE) -/
def greatest (p : Nat → Bool) : Nat → Nat → Nat
  | 0, v => v
  | n + 1, v => greatest p n (if p (v + 2 ^ n) then v + 2 ^ n else v)

/-- floor(c0 (c1 / c0)^(t / T)): the greatest v with v^T at most c0^(T - t) c1^t. The fraction t / T is reduced first.
(log 57 DESIGN CHOICE) -/
def logValue (c0 c1 t T : Nat) : Nat :=
  let g := max 1 (Nat.gcd t T)
  let x := c0 ^ ((T - t) / g) * c1 ^ (t / g)
  greatest (fun v => decide (v ^ (T / g) ≤ x)) 16 0

/-- The working value `us` after the ramp's start; it is updated every 2 µs.
(log 8 DESIGN CHOICE, 56 DEDUCED, 57 DESIGN CHOICE) -/
def rampValue (imin : Nat) (r : Ramp) (us : Nat) : Nat :=
  let t := us / 2 * 2
  if r.us ≤ us then r.c1
  else if r.log then
    logValue (if r.c0 = 0 then imin else r.c0) (if r.c1 = 0 then imin else r.c1) t r.us
  else if r.c0 ≤ r.c1 then r.c0 + (r.c1 - r.c0) * t / r.us
  else r.c1 + (r.c0 - r.c1) * (r.us - t) / r.us

/-- The working value a known time after the ramp's start. -/
def workAt (s : State) (n us : Nat) : Nat :=
  match (slice s n).ramp with
  | some r => rampValue (iMin s n) r us
  | none => (slice s n).work

/-- The working value where no command says how far a running ramp has come: any value between its ends.
(log 58 DESIGN CHOICE) -/
def workFree (s : State) (n : Nat) : Nat :=
  match (slice s n).ramp with
  | some r => min r.c0 r.c1 + freeBelow (max r.c0 r.c1 - min r.c0 r.c1) s
  | none => (slice s n).work

/-- One free value is drawn where `workFree` needs it. (log 58 DESIGN CHOICE) -/
def workDrawn (n : Nat) (s : State) : State := if (slice s n).ramp.isSome then drawn s else s

/-- The loop reference of a channel whose working value is w (R223 stages 4 to 6): where the power clamp reduces it, any
value up to that of stage 5 (R220). (log 58 DESIGN CHOICE, 66 DESIGN CHOICE) -/
def loopRef (s : State) (n w : Nat) : Nat :=
  let v := scaleCode s.sys.k w
  if (slice s n).clamp then freeBelow v (drawn s) else v

/-- The ramp time of a reference in µs (R224). -/
def refUs (r : Ref) : Nat := if r.ms then r.ramp.toNat * 1000 else r.ramp.toNat

/-! ### States (R236, R237) -/

/-- The codes of R236. -/
def ChState.num : ChState → Nat
  | .off => 0 | .disabled => 1 | .waitJ1 => 2 | .bias => 3 | .soft => 4 | .run => 5 | .probe => 6 | .stopped => 7
  | .dead => 8

/-- SYS_SUPPLY_STAT.J1_OK. -/
def j1Ok (s : State) : Bool := flag s ⟨0x400, 0, 1⟩

/-- R237: J1 is at or above 9.0 V. -/
def j1High (s : State) : Bool := s.sys.j1High

/-- The stage goes off: no working value, ramp, power clamp or retry probe. A channel that leaves SOFT has left it in this
window, and a loop reference that was not 0 at the window's start has departed (R241). -/
def stageOff (st : ChState) (x : Slice) : Slice :=
  { x with st := st, work := 0, ramp := none, clamp := false, retry := false,
           leftSoft := x.leftSoft || decide (x.st = .soft), blank := x.blank || decide (x.winLoop ≠ 0) }

/-- R46, R237: a channel whose stage works goes to WAIT_J1; its target is held. -/
def waitJ1 (n : Nat) (s : State) : State :=
  match (slice s n).st with
  | .bias | .soft | .run | .probe => setSlice n (stageOff .waitJ1 (slice s n)) s
  | _ => s

/-- DRV_FAULTn is raised while the faults meet their enables (R254). -/
def drvFaultIrq (n : Nat) (s : State) : State := if levelCond s (32 + n) then raise (32 + n) s else s

/-- Sets DRV_CH_FAULT bit i. -/
def setFault (n i : Nat) (s : State) : State := drvFaultIrq n (setF ⟨chReg n 0x20, i, 1⟩ 1 s)

/-- Whether the stage switches: a phase fault is detected only then (R249). -/
def switching (x : Slice) : Bool :=
  match x.st with
  | .bias | .soft | .run | .probe => true
  | .stopped => x.retry
  | _ => false

/-- R249, R250: a phase is opened: the fault is reported; with the other phase out too, the channel goes DEAD. -/
def openPhase (n : Nat) (phaseB : Bool) (s : State) : State :=
  let x := slice s n
  if (if phaseB then x.phaseB else x.phaseA) then
    let x := if phaseB then { x with phaseB := false } else { x with phaseA := false }
    let s := setSlice n { x with blank := true } s
    let s := addF ⟨chReg n 0x30, 16, 8⟩ 1 (setFault n (if phaseB then 5 else 4) s)
    if !x.phaseA && !x.phaseB && decide (x.st ≠ .stopped) then setFault n 6 (setSlice n (stageOff .dead (slice s n)) s) else s
  else s

/-- R249: a defect that arose while the stage was off is detected when the stage next switches. -/
def detectLatent (n : Nat) (s : State) : State :=
  let x := slice s n
  let s := setSlice n { x with latentA := false, latentB := false } s
  let s := if x.latentA then openPhase n false s else s
  if x.latentB then openPhase n true s else s

/-- R237: the channel enters BIAS and establishes its bias; `fresh`: from OFF, WAIT_J1 or STOPPED, so that a reference
soft-starts; `retest`: both phases are re-tested. (log 60 DEDUCED) -/
def toBias (n : Nat) (fresh retest : Bool) (s : State) : State :=
  let x := stageOff .bias (slice s n)
  let x := { x with biased := false, fresh := fresh, phaseA := x.phaseA || retest, phaseB := x.phaseB || retest }
  let s := setSlice n x s
  if !x.phaseA && !x.phaseB then setFault n 6 (setSlice n (stageOff .dead x) s) else detectLatent n s

/-- R237, R230: a ramp of the reference starts from working value c; a RAMP of 0 is a step. A working value of 0 with no
ramp is BIAS. -/
def startRamp (c : Nat) (r : Ref) (x : Slice) : Slice :=
  if refUs r = 0 then
    if r.code = 0 then { (stageOff .bias x) with biased := true, fresh := false }
    else { x with st := .run, work := r.code.toNat, ramp := none }
  else { x with st := .run, work := c, ramp := some ⟨c, r.code.toNat, refUs r, r.log, false⟩ }

/-- R237: the 10 ms linear soft-start to the target held. -/
def startSoft (x : Slice) : Slice :=
  { x with st := .soft, work := 0, ramp := some ⟨0, x.ref.code.toNat, 10000, false, true⟩, fresh := false, blank := true }

/-- R237: in BIAS with the bias established, a held non-zero reference begins. (log 60 DEDUCED) -/
def fromBias (x : Slice) : Slice :=
  if x.st = .bias ∧ x.biased = true ∧ x.ref.code ≠ 0 then (if x.fresh then startSoft x else startRamp 0 x.ref x) else x

/-- R237: a channel that comes to BIAS while J1 is below 8.5 V goes on to WAIT_J1. (log 179 DESIGN CHOICE) -/
def biasOrWait (n : Nat) (fresh retest : Bool) (s : State) : State :=
  let t := toBias n fresh retest s
  if j1Ok t then t else waitJ1 n t

/-- R241: within a window the loop reference has departed by more than 1/16 of its value at the window's start, or k by more
than 64. -/
def departed (x : Slice) (loop k : Nat) : Bool :=
  decide (x.winLoop < 16 * (max loop x.winLoop - min loop x.winLoop)) || decide (64 < max k x.winK - min k x.winK)

/-- R241: the window is blanked where the loop reference of a working value `w` has departed. -/
def noteBlankAt (n w : Nat) (s : State) : State :=
  let t := if departed (slice s n) (loopRef s n w) s.sys.k then setSlice n { slice s n with blank := true } s else s
  if (slice s n).clamp then drawn (drawn t) else t

/-- R241: the same at a moment that no command dates: a running ramp may have any value. -/
def noteBlank (n : Nat) (s : State) : State :=
  let t := noteBlankAt n (workFree s n) s
  if (slice s n).clamp then t else workDrawn n t

/-- R237: the level that a probe drives, as a working value: 2 mA. (log 59 DEDUCED) -/
def probeCode : Nat := 131

/-- R225, R237: a slice takes reference r at working value w, `left` before the end of a soft-start. -/
def retarget (w left : Nat) (r : Ref) (x : Slice) : Slice :=
  let x := { x with ref := r }
  match x.st with
  | .bias => fromBias x
  | .soft => { x with work := w, ramp := some ⟨w, r.code.toNat, left, false, true⟩ }
  | .run => startRamp w r x
  | .probe => if r.code = 0 then x else startRamp probeCode r x
  | _ => x

/-- The length of a running ramp in µs. -/
def rampUs (x : Slice) : Nat := match x.ramp with | some q => q.us | none => 0

/-- R225, R237, R241: the slice of a channel takes a reference at working value w, `left` before the end of a soft-start. -/
def takeRef (n w left : Nat) (r : Ref) (s : State) : State :=
  let s := noteBlankAt n w s
  let y := retarget w left r (slice s n)
  noteBlankAt n y.work (setSlice n y s)

/-- R225: a reference reaches the slice of a channel, `us` after its running ramp started. -/
def applyRef (n us : Nat) (r : Ref) (s : State) : State :=
  takeRef n (workAt s n us) (rampUs (slice s n) - us) r s

/-- R255: where the configuration is bad, the code is any value within the channel's limits. -/
def arrivingRef (n : Nat) (r : Ref) (s : State) : Ref :=
  if chBad s n then { r with code := BitVec.ofNat 16 (clampCode s n (freeBelow 65535 s)) } else r

/-- R20, R239: what a member of lead n takes of the lead's reference: its own limits hold whatever they are. -/
def memberRef (s : State) (n m : Nat) (r : Ref) : Ref :=
  if m = n then r else { r with code := BitVec.ofNat 16 (clampCode s m r.code.toNat) }

/-- R233, R255: what channel m makes of a reference for lead n. -/
def ownRef (s : State) (n m : Nat) (r : Ref) : Ref := if chBad s m then arrivingRef m r s else memberRef s n m r

/-- One free value is drawn where `ownRef` needs it. -/
def ownDrawn (m : Nat) (s : State) : State := if chBad s m then drawn s else s

/-- R223 stage 2, R233: the reference of a lead reaches its members in the same sequencer cycle; `us`: by slice of the die,
the time since that slice's running ramp started. A reference for a channel that is not its string's lead is ignored. -/
def arrive (n : Nat) (us : List Nat) (r : Ref) (s : State) : State :=
  if leadOf s n = n ∨ chBad s n = true then
    each (if chOn s n then (if (members s n).contains n then members s n else n :: members s n) else [n])
      (fun m s =>
        applyRef m (us.getD (m % 8) 0) (ownRef s n m r) (ownDrawn m s)) s
  else s

/-- R239: a channel whose lead has been `was` and which has become a member of another's string takes its lead's reference, at
a moment that no command dates. -/
def joinLead (was n : Nat) (s : State) : State :=
  if chEnabled s n && decide (leadOf s n ≠ n) && decide (was ≠ leadOf s n) then
    let r := ownRef s (leadOf s n) n (slice s (leadOf s n)).ref
    let s := ownDrawn n s
    takeRef n (workFree s n) (freeBelow (rampUs (slice s n)) (drawn s)) r (drawn (drawn s))
  else s

/-! ### The mitre's output -/

/-- The mitre passes a reference: it is clamped, becomes its output for the channel, and travels to the slice (R29, R223).
(log 72 DEDUCED) -/
def mitreOut (n : Nat) (r : Ref) (s : State) : State :=
  let c : BitVec 16 := BitVec.ofNat 16 (clampCode s n r.code.toNat)
  { s with drv := { s.drv with mitre := tabSet (fun _ => 0) s.drv.mitre n c, bus := s.drv.bus ++ [(n, { r with code := c })] } }

/-! ### Enabling, the rise and the fall of DRIVE -/

/-- R237: a channel that is not DRIVE OFF follows its enabling: it becomes DISABLED, or leaves DISABLED. (log 60 DEDUCED) -/
def followEnable (n : Nat) (s : State) : State :=
  let x := slice s n
  if !driveOn s || decide (x.st = .off) then s
  else if chOn s n then
    (if x.st = .disabled then (if j1High s then toBias n false true s else setSlice n (stageOff .waitJ1 x) s) else s)
  else if x.st = .disabled then s
  else setSlice n (stageOff .disabled x) s

/-- R29, R152: the code the mitre is loaded with for a channel: its safe level, clamped. -/
def safeCode (s : State) (n : Nat) : BitVec 16 := BitVec.ofNat 16 (clampCode s n (safeLevel s n))

/-- What a slice keeps while DRIVE is OFF: a defect of a phase that has not been detected yet (R249). -/
def slept (x : Slice) : Slice := { latentA := x.latentA, latentB := x.latentB }

/-- R237, R30, R233: a channel rises from OFF with the safe level of its string's lead, within its own limits, as its reference,
SRC 0. -/
def riseChannel (n : Nat) (s : State) : State :=
  let x : Slice := { slept (slice s n) with ref := ownRef s (leadOf s n) n ⟨safeCode s (leadOf s n), 0, false, false, 0⟩ }
  let s := ownDrawn n s
  let s := { s with drv := { s.drv with mitre := tabSet (fun _ => 0) s.drv.mitre n (safeCode s n) } }
  if !chOn s n then setSlice n { x with st := .disabled } s
  else if j1High s then toBias n true true (setSlice n x s)
  else setSlice n { x with st := .waitJ1 } s

/-- R47, R49: k returns to 1,024, and no limit reduces it. -/
def fullScale (s : State) : State :=
  setB ⟨0x400, 6, 1⟩ false (setB ⟨0x400, 7, 1⟩ false { s with sys := { s.sys with k := 1024 } })

/-- R47, R30, R237: DRIVE rises from OFF: k is 1,024, the mitre is loaded from the safe-level record, and every channel
leaves OFF. (log 61 DEDUCED) -/
def driveRise (s : State) : State :=
  each channels riseChannel (fullScale { s with drv := { s.drv with bus := [], mitre := [], lost := [] } })

/-- R237, R30, R47: DRIVE goes to OFF: every channel is off and its reference is lost; with no output power k is 1,024.
(log 11 DEDUCED) -/
def driveFall (s : State) : State :=
  fullScale (each channels (fun n s => setSlice n (slept (slice s n)) s) { s with drv := { s.drv with bus := [], mitre := [] } })

/-- R238: a module reset gives each enabled channel its safe level with a linear ramp of 10 ms from its present value. -/
def safeRamp (n : Nat) (s : State) : State :=
  let c := safeCode s n
  let y := retarget (workFree s n) 10000 ⟨c, 10, true, false, 0⟩ (slice s n)
  let s := workDrawn n s
  setSlice n y { s with drv := { s.drv with mitre := tabSet (fun _ => 0) s.drv.mitre n c } }

end Sys2Proof.Machine
end

