-- ==== Sys2Proof/Machine/RfxOps.lean ====
section
/-! DEFINITION. The fabric: inputs and gates, the cells that meet an event, precedence and locks, the actions of one
cycle, and the choice between fabric and twins at the mitre (R276 to R301). -/

namespace Sys2Proof.Machine

/-- An event of one fabric cycle (R276). -/
inductive RfxEvent where
  | prs (n : Nat) (rise : Bool)
  | ain (j mean : Nat)
  | timer (t : Nat)
  | tick (n : Nat)
  | mode (n : Nat) (rise : Bool)
  deriving DecidableEq, Repr

/-- A cell as its record gives it (R132, R286). -/
structure Cell where
  num   : Nat
  cls   : Nat
  src   : Nat
  cond  : Nat
  prio  : Nat
  argA  : Nat
  argB  : Nat
  act   : Nat
  level : Nat
  ramp  : Nat
  mask  : Nat
  deriving DecidableEq, Repr

/-- Word w of cell c (R303). -/
def cellReg (c w : Nat) : Nat := 0x138000 + 0x20 * c + 4 * w

/-- The cell as its words hold it. -/
def cellOf (s : State) (c : Nat) : Cell :=
  let w := fun i => getR s (cellReg c i)
  ⟨c, getBits (w 0) 16 8, getBits (w 0) 24 8, getBits (w 1) 0 8, getBits (w 1) 8 8, getBits (w 1) 16 16,
    getBits (w 2) 0 16, getBits (w 2) 16 16, getBits (w 3) 0 16, getBits (w 3) 16 16, (w 4).toNat + (w 5).toNat * 2 ^ 32⟩

/-- The cell that a register entry marks as loaded: bit 0 of its word 6. -/
def loadedEntry (e : Nat × Word) : Option Nat :=
  if 0x138000 ≤ e.1 ∧ e.1 < 0x140000 ∧ e.1 % 0x20 = 0x18 ∧ bitOf e.2 0 = true then some ((e.1 - 0x138000) / 0x20) else none

/-- The loaded cells, lowest number first. -/
def loadedCells (s : State) : List Nat := s.regs.filterMap loadedEntry

/-- Fields of ACTION (R286). -/
def Cell.op (c : Cell) : Nat := c.act % 16
def Cell.flagAt (c : Cell) (i : Nat) : Bool := c.act.testBit i
def Cell.timer (c : Cell) : Nat := c.act / 256 % 64
def Cell.db (c : Cell) : Nat := c.act / 256 % 16

/-- The target channels of a cell. -/
def Cell.targets (c : Cell) : List Nat := channels.filter (fun n => c.mask.testBit n)

/-- R287: the action is defined for the condition: MAP with TRACK and TRACK with MAP alone; OP 0 and 7 to 15 never fire. -/
def Cell.defined (c : Cell) : Bool :=
  decide (1 ≤ c.op) && decide (c.op ≤ 6) && (decide (c.op = 2) == decide (c.cond = 0x12))

/-- RFX_CELL_EN of a cell. -/
def cellEnabled (s : State) (c : Nat) : Bool := flag s ⟨0x130500 + 4 * (c / 32), c % 32, 1⟩

/-- R283: the cell holds a loaded record, is enabled, and its action is defined. (log 73 DEDUCED) -/
def cellReady (s : State) (c : Cell) : Bool := cellEnabled s c.num && c.defined

/-- RFX_IN_CFG.ENABLE and INVERT. -/
def inEnabled (s : State) (i : Nat) : Bool := flag s ⟨0x130100 + 4 * i, 0, 1⟩
def inInverted (s : State) (i : Nat) : Bool := flag s ⟨0x130100 + 4 * i, 1, 1⟩

/-- R277: whether a presence input is active; a disabled one reads inactive. -/
def prsActive (s : State) (i : Nat) : Bool := inEnabled s i && (bitOf s.rfx.pins i != inInverted s i)

/-- The register of a timer. -/
def tmrReg (t : Nat) : Nat := 0x130400 + 4 * t
def tmrRunning (s : State) (t : Nat) : Bool := flag s ⟨tmrReg t, 31, 1⟩
def tmrRemain (s : State) (t : Nat) : Nat := getF s ⟨tmrReg t, 0, 26⟩

/-- The level that a gate names (R285). (log 74 DEDUCED) -/
def gateLevel (s : State) (cls num : Nat) : Bool :=
  if cls = 0 then bitOf s.rfx.seen num else if cls = 1 then bitOf (getR s 0x130004) num else tmrRunning s num

/-- R285: a gate holds. (log 74 DEDUCED) -/
def gateHolds (s : State) (g : Nat) : Bool :=
  !g.testBit 15 || (decide (g / 4096 % 4 ≠ 3) && (gateLevel s (g / 4096 % 4) (g % 64) == g.testBit 14))

/-- The gates of a cell. -/
def gatesHold (s : State) (c : Cell) : Bool := gateHolds s c.argA && gateHolds s c.argB

/-- R284: an event meets COND, for every class but AIN. -/
def condMet (cond : Nat) : RfxEvent → Bool
  | .prs _ rise => decide (cond = 3) || decide (cond = if rise then 1 else 2)
  | .mode _ rise => decide (cond = 3) || decide (cond = if rise then 1 else 2)
  | .timer _ => decide (cond = 1) || decide (cond = 3)
  | .tick _ => decide (cond = 1) || decide (cond = 3)
  | .ain _ _ => false

/-- The class and number of an event (R276). -/
def RfxEvent.src : RfxEvent → Nat × Nat
  | .prs n _ => (0, n)
  | .ain j _ => (1, j)
  | .timer t => (2, t)
  | .tick n => (3, n)
  | .mode n _ => (4, n)

/-- Word 6, ARMED (R284). -/
def armed (s : State) (c : Nat) : Bool := flag s ⟨cellReg c 6, 1, 1⟩
def setArmed (c : Nat) (b : Bool) (s : State) : State := setB ⟨cellReg c 6, 1, 1⟩ b s

/-- R284: an update meets ABOVE or BELOW; and re-arms it. (log 73 DEDUCED) -/
def ainHit (c : Cell) (x : Nat) : Bool := if c.cond = 0x10 then decide (c.argA ≤ x) else decide (x ≤ c.argA)
def ainRearm (c : Cell) (x : Nat) : Bool := if c.cond = 0x10 then decide (x < c.argB) else decide (c.argB < x)

/-- A cell that meets its event: with TRACK, the mean and the channels for which it is evaluated. -/
structure Hit where
  cell : Cell
  x    : Nat
  only : Option (List Nat)
  deriving DecidableEq, Repr

/-- R283 to R285: the event tests one cell: the hits gathered so far and the state, whose ARMED bits change.
(log 73 DEDUCED) -/
def testCell (e : RfxEvent) (n : Nat) (a : List Hit × State) : List Hit × State :=
  let c := cellOf a.2 n
  if e.src = (c.cls, c.src) then
    match e with
    | .ain _ x =>
      if c.cond = 0x12 then (if cellReady a.2 c then (a.1 ++ [⟨c, x, none⟩], a.2) else a)
      else if c.cond = 0x10 ∨ c.cond = 0x11 then
        if armed a.2 n then
          (if ainHit c x && cellReady a.2 c then (a.1 ++ [⟨c, x, none⟩], setArmed n false a.2) else a)
        else if ainRearm c x then (a.1, setArmed n true a.2) else a
      else a
    | e => if condMet c.cond e && cellReady a.2 c && gatesHold a.2 c then (a.1 ++ [⟨c, 0, none⟩], a.2) else a
  else a

/-- All cells test every event of a cycle. -/
def matchCells (es : List RfxEvent) (s : State) : List Hit × State :=
  es.foldl (fun a e => (loadedCells s).foldl (fun a n => testCell e n a) a) ([], s)

/-! ### Locks (R290, R291) -/

/-- RFX_LOCK_STAT. -/
def lockReg (n : Nat) : Nat := 0x130300 + 4 * n
def locked (s : State) (n : Nat) : Bool := flag s ⟨lockReg n, 0, 1⟩
def lockPrio (s : State) (n : Nat) : Nat := getF s ⟨lockReg n, 8, 8⟩

/-- A lock is set, with its priority; WITHHELD counts from now. -/
def setLock (n prio : Nat) (s : State) : State := setR (lockReg n) (w32 (1 + 256 * (prio % 256))) s

/-- R291: a lock is cleared, and WITHHELD with it. -/
def clearLock (n : Nat) (s : State) : State := setR (lockReg n) 0 s

/-- R290: a locked channel refuses a cell of lower PRIO. (log 70 DEDUCED) -/
def refuses (s : State) (c : Cell) (n : Nat) : Bool := locked s n && decide (c.prio < lockPrio s n)

/-- RFX_CH_EN of a channel. (log 71 DEDUCED) -/
def rfxChEn (s : State) (n : Nat) : Bool := flag s ⟨0x130010 + 4 * (n / 32), n % 32, 1⟩

/-! ### The mitre's choice (R293) -/

/-- R287, R293: the latest twin reference voted for a channel. -/
def keepLatest (n : Nat) (r : Ref) (s : State) : State :=
  { s with rfx := { s.rfx with latest := tabSet (fun _ => none) s.rfx.latest n (some r) } }

/-- The latest twin reference of a channel. -/
def latestRef (s : State) (n : Nat) : Option Ref := tabGet (fun _ => none) s.rfx.latest n

/-- A twin reference is lost to a lock (R293). -/
def withhold (n : Nat) (s : State) : State := bump 0x130050 (setB ⟨lockReg n, 1, 1⟩ true s)

/-- R293, R79: the mitre applies the sources of one cycle to a channel, after the fabric's action on its lock. -/
def mitreChoice (n : Nat) (twin fab : Option Ref) (s : State) : State :=
  let twin := if driveLive s then twin else none
  let s := match twin with
    | some r => keepLatest n r s
    | none => s
  match fab, twin with
  | some f, some _ => mitreOut n f (if locked s n then withhold n s else bump 0x13004C s)
  | some f, none => mitreOut n f s
  | none, some r => if locked s n then withhold n s else mitreOut n r s
  | none, none => s

/-! ### One cycle (R287 to R292) -/

/-- The lead's code in force at the mitre (R288). (log 72 DEDUCED) -/
def codeInForce (s : State) (n : Nat) : Nat := (tabGet (fun _ => 0) s.drv.mitre (leadOf s n)).toNat

/-- R288: the mapped code. -/
def mapCode (c : Cell) (x : Nat) : Nat :=
  let a := c.argA
  let b := c.argB
  max 1 (if a ≤ b then (if x ≤ a then c.level else if b ≤ x then 1 else c.level * (b - x) / (b - a))
    else (if a ≤ x then c.level else if x ≤ b then 1 else c.level * (x - b) / (a - b)))

/-- A cell contends for a channel, with the code it writes. -/
structure Contender where
  cell : Cell
  ch   : Nat
  code : Nat
  deriving DecidableEq, Repr

/-- R289: cell c goes before d: the higher PRIO, then the lower CELL. -/
def before (c d : Cell) : Bool := decide (d.prio < c.prio) || (decide (c.prio = d.prio) && decide (c.num < d.num))

/-- The cell that acts of those that contend. -/
def winner : List Contender → Option Contender
  | [] => none
  | x :: xs => match winner xs with | some y => if before y.cell x.cell then some y else some x | none => some x

/-- The contenders of a channel. (log 70 DEDUCED) -/
def contend (xs : List Contender) (n : Nat) : List Contender := xs.filter (fun x => decide (x.ch = n))

/-- The channels of a hit. -/
def Hit.chans (h : Hit) : List Nat :=
  match h.only with
  | some l => h.cell.targets.filter l.contains
  | none => h.cell.targets

/-- What the cells that act do to a channel before the mitre: the fabric reference, and whether a RELEASE passes the latest
twin reference. (log 71 DEDUCED) -/
def actOn (x : Contender) (s : State) : Option Ref × State :=
  let c := x.cell
  let r : Ref := ⟨BitVec.ofNat 16 x.code, BitVec.ofNat 16 c.ramp, false, c.flagAt 4, 2⟩
  if c.op = 1 ∨ c.op = 2 then
    if rfxChEn s x.ch then (some r, if c.flagAt 5 then setLock x.ch c.prio s else s)
    else (none, bump 0x130048 s)
  else
    let s := clearLock x.ch s
    if c.op = 4 ∧ driveLive s then
      (none, match latestRef s x.ch with | some t => mitreOut x.ch t s | none => s)
    else (none, s)

/-- The mitre stage of one channel: the winner's action with the twin reference of the cycle. (log 82 DEDUCED) -/
def actChannel (xs : List Contender) (twins : List (Nat × Ref)) (n : Nat) (s : State) : State :=
  let twin := (twins.find? (fun t => decide (t.1 = n))).map (·.2)
  match winner (contend xs n) with
  | none => mitreChoice n twin none s
  | some x =>
    if x.cell.op = 4 ∧ twin.isSome ∧ driveLive s then mitreChoice n twin none (clearLock n s)
    else
      let r := actOn x s
      mitreChoice n twin r.1 r.2

/-- R280: the strobes from a TSTART to the expiry; a duration of 0 expires at the next strobe too. (log 76 DEDUCED) -/
def strobesOf (c : Cell) : Nat := max 1 (if c.flagAt 6 then c.level * 1000 else c.level)

/-- R280, R287: TSTART and TSTOP act on a timer. (log 76 DEDUCED) -/
def actTimer (c : Cell) (s : State) : State :=
  let t := c.timer
  let live := { s with rfx := { s.rfx with due := s.rfx.due.filter (· ≠ t) } }
  if c.op = 6 then setR (tmrReg t) 0 live
  else if tmrRunning s t && c.flagAt 7 then s
  else setR (tmrReg t) (w32 (strobesOf c + 2 ^ 31)) live

/-- The losses on one target (R289). -/
def lossesOf (timer : Bool) (n : Nat) (xs : List Contender) : List Collision :=
  match winner xs with
  | none => []
  | some w => (xs.filter (fun x => decide (x.cell.num ≠ w.cell.num))).map (fun x => ⟨timer, n, w.cell.num, x.cell.num⟩)

/-- RFX_COLLIDE_LAST takes the first target's loss with the lowest-numbered loser (R289). -/
def recordLoss (ls : List Collision) (s : State) : State :=
  match ls with
  | [] => s
  | l :: _ =>
    let low := (ls.filter (fun m => decide (m.target = l.target) && (m.timer == l.timer))).foldl
      (fun a m => min a m.loser) l.loser
    raise 113 (bumpBy 0x130044 ls.length (setR 0x130060 (w32 (l.winner + low * 2 ^ 10 + l.target * 2 ^ 20 +
      b2n l.timer * 2 ^ 26)) s))

/-- The numbers of a list, each once, in its first place. -/
def noRepeat : List Nat → List Nat
  | [] => []
  | n :: ns => n :: (noRepeat ns).filter (· ≠ n)

/-- Whether a cell's action is UNLOCK or RELEASE. -/
def Cell.unlocks (c : Cell) : Bool := decide (c.op = 3) || decide (c.op = 4)

/-- R295: what a winning TSTART or TSTOP did to its timer, judged on the state before it. (log 77 DEDUCED) -/
def timerAct (s : State) (x : Contender) : Option (Nat × TimerAct) :=
  if x.cell.op = 6 then (if tmrRunning s x.ch then some (x.ch, .stopped) else none)
  else if tmrRunning s x.ch && x.cell.flagAt 7 then none else some (x.ch, .started)

/-- R295: the lock that a winner set or cleared, judged on the state before it. (log 71 DEDUCED, 77 DEDUCED) -/
def lockAct (s : State) (x : Contender) : Option (Nat × Bool) :=
  if x.cell.unlocks then (if locked s x.ch then some (x.ch, false) else none)
  else if x.cell.flagAt 5 && rfxChEn s x.ch then some (x.ch, true) else none

/-- R292, R303: a SET or MAP that wins a channel whose CH_EN bit is 0 is discarded, a refused action. -/
def discards (s : State) (x : Contender) : Bool := (decide (x.cell.op = 1) || decide (x.cell.op = 2)) && !rfxChEn s x.ch

/-- One cycle of the fabric: the hits, the timers that expired, and the twin references of the cycle. Answers the channels
that UNLOCK or RELEASE acted on (R298). (log 70 DEDUCED, 77 DEDUCED) -/
def runHits (hits : List Hit) (expired : List Nat) (twins : List (Nat × Ref)) (s : State) : List Nat × State :=
  let plain := hits.filter (fun h => decide (h.cell.op = 1) || h.cell.unlocks)
  let tries := plain.flatMap (fun h => h.chans.map (fun n => (⟨h.cell, n, h.cell.level⟩ : Contender)))
  let base := tries.filter (fun x => !refuses s x.cell x.ch)
  let refused := (tries.filter (fun x => refuses s x.cell x.ch)).map (fun x => (x.cell.num, x.ch))
  let after := each channels (actChannel base []) s
  let track := (hits.filter (fun h => decide (h.cell.op = 2))).flatMap (fun h =>
    h.chans.filterMap (fun n =>
      let m := clampCode s n (mapCode h.cell h.x)
      let f := codeInForce after n
      if refuses s h.cell n = false ∧ 2 ^ h.cell.db ≤ max m f - min m f then
        some (⟨h.cell, n, mapCode h.cell h.x⟩ : Contender) else none))
  let chans := base ++ track
  let tmr := (hits.filter (fun h => decide (5 ≤ h.cell.op))).map (fun h => (⟨h.cell, h.cell.timer, 0⟩ : Contender))
  let losses := channels.flatMap (fun n => lossesOf false n (contend chans n)) ++
    (List.range 64).flatMap (fun t => lossesOf true t (contend tmr t))
  let fired := noRepeat ((chans ++ tmr).map (fun x => x.cell.num))
  let wins := channels.filterMap (fun n => winner (contend chans n))
  let tmrWins := (List.range 64).filterMap (fun t => winner (contend tmr t))
  let s' := each channels (actChannel chans twins) s
  let s' := each tmrWins (fun x => actTimer x.cell) s'
  let s' := bumpBy 0x130048 refused.length s'
  let s' := recordLoss losses s'
  let s' := if fired = [] then s' else raise 112 (bumpBy 0x130040 fired.length s')
  let refs := (s'.drv.bus.drop s.drv.bus.length).map (fun e => (e.1, e.2))
  let locks := wins.filterMap (lockAct s)
  let timers := expired.map (fun t => (t, TimerAct.expired)) ++ tmrWins.filterMap (timerAct s)
  let quiet := decide (fired = []) && decide (refused = []) && decide (expired = [])
  let listed := refused ++ (wins.filter (discards s)).map (fun x => (x.cell.num, x.ch))
  let s' := if quiet then s' else capture (.fabric ⟨fired, refs, locks, timers, losses, listed⟩) s'
  ((wins.filter (fun x => x.cell.unlocks)).map (fun x => x.ch), s')

/-- R298: TRACK cells on channels that were unlocked, on the latest means. -/
def retrackHits (s : State) (chans : List Nat) : List Hit :=
  (loadedCells s).filterMap (fun n =>
    let c := cellOf s n
    if c.cls = 1 ∧ c.cond = 0x12 ∧ c.src < 8 ∧ cellReady s c = true ∧ inEnabled s (32 + c.src) = true then
      some ⟨c, getF s ⟨0x130200 + 4 * c.src, 0, 16⟩, some chans⟩ else none)

/-- The next cycle where R298 asks for it. -/
def runNext (unlocked : List Nat) (s : State) : State :=
  if unlocked = [] then s else (runHits (retrackHits s unlocked) [] [] s).2

/-- One cycle with its events, and the next cycle where R298 asks for it. -/
def runCycle (es : List RfxEvent) (twins : List (Nat × Ref)) (s : State) : State :=
  let m := matchCells es s
  let expired := es.filterMap (fun e => match e with | .timer t => some t | _ => none)
  let r := runHits m.1 expired twins m.2
  runNext r.1 r.2

/-- R300: the fabric clock runs. -/
def clkRun : Fld := ⟨0x130000, 0, 1⟩

/-- Events start the clock. -/
def startClock (es : List RfxEvent) (s : State) : State := if es = [] then s else setB clkRun true s

/-- Events enter the fabric, which starts a stopped clock; nothing happens while FAB is OFF. -/
def fabEvents (es : List RfxEvent) (twins : List (Nat × Ref)) (s : State) : State :=
  if fabOn s then runCycle es twins (startClock es s)
  else each twins (fun t => mitreChoice t.1 (some t.2) none) s

/-- R281: schedule tick lines are pulsed; a tick while FAB is OFF is lost. -/
def fabTicks (lines : List Nat) (s : State) : State :=
  if fabOn s && decide (lines ≠ []) then fabEvents (lines.map RfxEvent.tick) [] s else s

/-- R277: the fabric takes the active levels of a list of presence inputs. Answers the edges. (log 78 DEDUCED) -/
def takeLevels (ns : List Nat) (s : State) : List RfxEvent × State :=
  ns.foldl (fun a n =>
    let v := prsActive a.2 n
    if v = bitOf a.2.rfx.seen n then a
    else (a.1 ++ [.prs n v], { a.2 with rfx := { a.2.rfx with seen := putBits a.2.rfx.seen n 1 (b2n v) } })) ([], s)

/-- The presence pins take new levels. -/
def setPins (edges : List (Nat × Bool)) (s : State) : State :=
  each edges (fun e s => { s with rfx := { s.rfx with pins := putBits s.rfx.pins e.1 1 (b2n e.2) } }) s

/-- The edges that change a level of the pins, in their order. -/
def levelChanges : Word → List (Nat × Bool) → List (Nat × Bool)
  | _, [] => []
  | p, e :: es => if bitOf p e.1 = e.2 then levelChanges p es else e :: levelChanges (putBits p e.1 1 (b2n e.2)) es

/-- R522: the changes of one cycle, by input number. -/
def oneCycle (old new : Word) : List (Nat × Bool) :=
  (List.range 32).filterMap (fun n => if bitOf old n = bitOf new n then none else some (n, bitOf new n))

/-- R26, R93, R522: the presence edges as the twins and the wake logic see them. (log 81 DEDUCED, 134 DEDUCED) -/
def edgeReports (edges : List (Nat × Bool)) (s : State) : State :=
  let moved := if fabOn s && !flag s clkRun then levelChanges s.rfx.pins edges else oneCycle s.rfx.pins (setPins edges s).rfx.pins
  let s := each moved (fun e => capture (.edge e.1 e.2)) s
  if moved.any (fun e => bitOf (getR s 0x24) e.1) then wakeSource .prs s else s

/-- R277: presence edges of one cycle while the fabric clock runs. (log 79 DESIGN CHOICE, 150 DESIGN CHOICE) -/
def prsCycle (edges : List (Nat × Bool)) (twins : List (Nat × Ref)) (s : State) : State :=
  let r := takeLevels (noRepeat (edges.map (·.1))) (setPins edges s)
  fabEvents r.1 twins r.2

/-- The changes of one input among the edges, less those that leave the level as it was. -/
def changesOf (n : Nat) : Bool → List (Nat × Bool) → List Bool
  | _, [] => []
  | v, (m, l) :: es => if m = n ∧ l ≠ v then l :: changesOf n l es else changesOf n v es

/-- Two cycles of the fabric with presence edges, the second with what R298 evaluates once more, and the next where it asks for one
again. -/
def twoCycles (first second : List (Nat × Bool)) (twins : List (Nat × Ref)) (s : State) : State :=
  let a := takeLevels (noRepeat (first.map (·.1))) (setPins first s)
  let m := matchCells a.1 (startClock a.1 a.2)
  let r := runHits m.1 [] twins m.2
  let b := takeLevels (noRepeat (second.map (·.1))) (setPins second r.2)
  let n := matchCells b.1 (startClock b.1 b.2)
  let q := runHits (n.1 ++ (if r.1 = [] then [] else retrackHits n.2 r.1)) [] [] n.2
  runNext q.1 q.2

/-- R300: the edges captured while the clock was stopped: the first of each input in the first cycle; its opposite in the
next where the level at clock start differs; further changes are lost and counted. -/
def coldEdges (edges : List (Nat × Bool)) (twins : List (Nat × Ref)) (s : State) : State :=
  let ns := noRepeat (edges.map (·.1))
  let chs := ns.map (fun n => (n, changesOf n (bitOf s.rfx.pins n) edges))
  let first := chs.filterMap (fun c => c.2.head?.map (fun l => (c.1, l)))
  let second := chs.filterMap (fun c => if c.2.length % 2 = 0 then c.2.getLast?.map (fun l => (c.1, l)) else none)
  let lost := (chs.filter (fun c => inEnabled s c.1)).foldl
    (fun a c => a + (c.2.length - 1 - (if c.2.length % 2 = 0 then 1 else 0))) 0
  let s := bumpBy 0x130054 lost s
  if second = [] then prsCycle first twins s else twoCycles first second twins s

/-- R277, R300: presence edges reach the fabric, with the twin references of the cycle. -/
def presence (edges : List (Nat × Bool)) (twins : List (Nat × Ref)) (s : State) : State :=
  if fabOn s && decide (edges ≠ []) && !flag s clkRun then coldEdges edges twins s else prsCycle edges twins s

end Sys2Proof.Machine
end

