-- ==== Sys2Proof/Machine/CalOps.lean ====
section
/-! DEFINITION. The calendar: the Gregorian fields, alarms, the high-water mark, steps and shifts, and the schedule table
(R306 to R331). -/

namespace Sys2Proof.Machine

/-! ### The Gregorian fields (R309) -/

/-- The fields. -/
structure CalFields where
  sec   : Nat
  min   : Nat
  hour  : Nat
  wday  : Nat
  day   : Nat
  month : Nat
  year  : Nat
  deriving DecidableEq, Repr

/-- A leap year; years count from 2000. -/
def leap (y : Nat) : Bool := decide (y % 4 = 0) && !decide (y = 100 ∨ y = 200 ∨ y = 300)

/-- The length of a month. -/
def monthLen (y m : Nat) : Nat :=
  if m = 2 then (if leap y then 29 else 28) else if m = 4 ∨ m = 6 ∨ m = 9 ∨ m = 11 then 30 else 31

/-- The days before a year, and before a month of a year. -/
def yearDays (y : Nat) : Nat :=
  365 * y + (y + 3) / 4 - (if 100 < y then 1 else 0) - (if 200 < y then 1 else 0) - (if 300 < y then 1 else 0)
def monthDays (y m : Nat) : Nat := ((List.range (m - 1)).map (fun i => monthLen y (i + 1))).sum

/-- The days and seconds of the 400-year cycle. -/
def cycleDays : Nat := 146097
def cycleSecs : Nat := cycleDays * 86400

/-- The second of the cycle that the fields name. -/
def fieldSecs (f : CalFields) : Nat :=
  (yearDays f.year + monthDays f.year f.month + (f.day - 1)) * 86400 + f.hour * 3600 + f.min * 60 + f.sec

/-- The year of a day of the cycle. -/
def yearOf (d : Nat) : Nat :=
  let y := d / 366
  if yearDays (y + 2) ≤ d then y + 2 else if yearDays (y + 1) ≤ d then y + 1 else y

/-- The month of a day of year y. -/
def monthOf (y r : Nat) : Nat := ((List.range 12).filter (fun m => decide (monthDays y (m + 1) ≤ r))).length

/-- The fields of a second of the cycle, with a given weekday. -/
def fieldsOf (n wday : Nat) : CalFields :=
  let d := n / 86400
  let t := n % 86400
  let y := yearOf d
  let r := d - yearDays y
  let m := monthOf y r
  ⟨t % 60, t / 60 % 60, t / 3600, wday, r - monthDays y m + 1, m, y⟩

/-- R310: the fields are within the ranges of R309 and name a date. (log 85 DEDUCED) -/
def possible (f : CalFields) : Bool :=
  decide (f.sec ≤ 59) && decide (f.min ≤ 59) && decide (f.hour ≤ 23) && decide (f.wday ≤ 6) && decide (1 ≤ f.month) &&
    decide (f.month ≤ 12) && decide (1 ≤ f.day) && decide (f.day ≤ monthLen f.year f.month) && decide (f.year ≤ 399)

/-- The fields in two words of the layout of CAL_TIME and CAL_DATE (R333). -/
def fieldsFrom (t d : Word) : CalFields :=
  ⟨getBits t 0 6, getBits t 8 6, getBits t 16 5, getBits t 24 3, getBits d 0 5, getBits d 8 4, getBits d 16 9⟩
def timeWord (f : CalFields) : Word := w32 (f.sec + f.min * 2 ^ 8 + f.hour * 2 ^ 16 + f.wday * 2 ^ 24)
def dateWord (f : CalFields) : Word := w32 (f.day + f.month * 2 ^ 8 + f.year * 2 ^ 16)

/-- The present fields. -/
def calFields (s : State) : CalFields := fieldsFrom (getR s 0x30014) (getR s 0x30018)
def setFields (f : CalFields) (s : State) : State := setR 0x30014 (timeWord f) (setR 0x30018 (dateWord f) s)

/-- SEC and SUBSEC. -/
def calSec (s : State) : Nat := (getR s 0x3001C).toNat + 2 ^ 32 * getF s ⟨0x30020, 0, 16⟩
def setCalSec (n : Nat) (s : State) : State := setR 0x3001C (w32 n) (setR 0x30020 (w32 (n / 2 ^ 32 % 2 ^ 16)) s)
def calSub (s : State) : Nat := getF s ⟨0x30010, 0, 15⟩
def setCalSub (n : Nat) (s : State) : State := setR 0x30010 (w32 n) s

/-- The seconds of field time since 2000, the passed cycles counted. -/
def fieldPos (s : State) : Int := s.cal.lap * cycleSecs + fieldSecs (calFields s)

/-- R315: what one crystal tick adds to the trimmed count, in parts of 10^9: the rate that CAL_TRIM gives, at most 500,000 parts
fast or slow. -/
def calRate (s : State) : Nat := (1000000000 + clampInt (-500000) 500000 (signed 20 (getF s ⟨0x30040, 0, 20⟩))).toNat

/-- R306, R315: SUBSEC counts on over some ticks, the trim adding or withholding single counts; a second boundary is a command
of its own. (log 170 DESIGN CHOICE) -/
def calAdvance (ticks : Nat) (s : State) : State :=
  if s.cal.hold = 0 then
    let p := s.cal.phase + ticks * calRate s
    setCalSub (min 32767 (calSub s + p / 1000000000)) { s with cal := { s.cal with phase := p % 1000000000 } }
  else s

/-- R315: the phase of the count at the tick that ends the second. -/
def phaseEnd (s : State) : State :=
  let need := (32768 - calSub s) * 1000000000
  let n := (need - s.cal.phase + calRate s - 1) / calRate s
  { s with cal := { s.cal with phase := s.cal.phase + n * calRate s - need } }

/-! ### Alarms (R319 to R322) -/

/-- The register at offset o of alarm a. -/
def almReg (a o : Nat) : Nat := 0x30100 + 0x20 * a + o
def almEn (s : State) (a : Nat) : Bool := flag s ⟨almReg a 8, 0, 1⟩

/-- Mask bit i of an alarm: SEC, MIN, HOUR, WDAY, DAY, MONTH, YEAR. -/
def almMask (s : State) (a i : Nat) : Bool := flag s ⟨almReg a 8, 8 + i, 1⟩
def almFields (s : State) (a : Nat) : CalFields := fieldsFrom (getR s (almReg a 0)) (getR s (almReg a 4))

/-- The alarm's date, and its time of day, match. -/
def matchDate (s : State) (a : Nat) (f : CalFields) : Bool :=
  let x := almFields s a
  (almMask s a 3 || decide (x.wday = f.wday)) && (almMask s a 4 || decide (x.day = f.day)) &&
    (almMask s a 5 || decide (x.month = f.month)) && (almMask s a 6 || decide (x.year = f.year))
def matchTime (s : State) (a : Nat) (f : CalFields) : Bool :=
  let x := almFields s a
  (almMask s a 0 || decide (x.sec = f.sec)) && (almMask s a 1 || decide (x.min = f.min)) &&
    (almMask s a 2 || decide (x.hour = f.hour))

/-- R319: the alarm matches a second. -/
def almMatches (s : State) (a : Nat) (f : CalFields) : Bool := almEn s a && matchDate s a f && matchTime s a f

/-- A value of lo to hi that a field of an alarm takes. -/
def anyIn (masked : Bool) (v lo hi : Nat) : Bool :=
  decide (lo ≤ hi) && (masked || (decide (lo ≤ v) && decide (v ≤ hi)))

/-- Whether the alarm's time of day matches any second of the day from lo to hi. -/
def anyTime (s : State) (a lo hi : Nat) : Bool :=
  let x := almFields s a
  (List.range 24).any (fun h => (almMask s a 2 || decide (x.hour = h)) &&
    decide (h * 3600 ≤ hi) && decide (lo ≤ h * 3600 + 3599) &&
    (List.range 60).any (fun m => (almMask s a 1 || decide (x.min = m)) &&
      let b := h * 3600 + m * 60
      decide (b ≤ hi) && decide (lo ≤ b + 59) && anyIn (almMask s a 0) x.sec (lo - b) (min 59 (hi - b))))

/-- Whether the alarm matches any of the n seconds from position p on, whose first day has weekday w. -/
def anyMatch (s : State) (a : Nat) (p : Int) (n w : Nat) : Bool :=
  if n = 0 then false
  else
    let start := (p % (cycleSecs : Int)).toNat
    let d0 := start / 86400
    let last := start + n - 1
    almEn s a && (List.range (last / 86400 - d0 + 1)).any (fun i =>
      let lo := if i = 0 then start % 86400 else 0
      let hi := if d0 + i = last / 86400 then last % 86400 else 86399
      matchDate s a { fieldsOf ((d0 + i) % cycleDays * 86400) ((w + i) % 7) with sec := 0 } && anyTime s a lo hi)

/-- R320: an alarm fires. A firing within the scope of R310 is no wake source. -/
def almFire (a : Nat) (crossed rep : Bool) (s : State) : State :=
  let s := setB ⟨almReg a 0xC, 1, 1⟩ crossed (setB ⟨almReg a 0xC, 2, 1⟩ rep (setF ⟨almReg a 0xC, 0, 1⟩ 1 s))
  let s := raise (8 + a) (bump (almReg a 0x10) s)
  if s.cal.bad then s else wakeSource (if a = 0 then .alm0 else .alm1) s

/-- R310: while the fields are unpredictable, an alarm may fire or not. (log 85 DEDUCED) -/
def almFree (a : Nat) (s : State) : State :=
  let s' := drawn s
  if bitOf (freeOf s) 0 then almFire a (bitOf (freeOf s) 1) (bitOf (freeOf s) 2) s' else s'

/-- R310: the fields take free values. (log 85 DEDUCED) -/
def freeFields (s : State) : State :=
  let x := freeOf s
  let y := freeOf (drawn s)
  let s := setR 0x30014 (x &&& w32 (readMask 0x30014)) (setR 0x30018 (y &&& w32 (readMask 0x30018)) (drawn (drawn s)))
  let bad (off : Nat) := spoilLong off (readMask off)
  bad 0x30014 (bad 0x30018 (bad (almReg 0 0xC) (bad (almReg 1 0xC) s)))

/-- WRAP is set, and the cycles passed are counted. -/
def wrapBy (d : Int) (s : State) : State :=
  if d = 0 then s else setF ⟨0x30000, 3, 1⟩ 1 { s with cal := { s.cal with lap := s.cal.lap + d } }

/-- R306, R309: the fields advance by one second. -/
def fieldsAdvance (s : State) : State :=
  let f := calFields s
  let n := fieldSecs f + 1
  let w := if n % 86400 = 0 then (f.wday + 1) % 7 else f.wday
  wrapBy (if n = cycleSecs then 1 else 0) (setFields (fieldsOf (n % cycleSecs) w) s)

/-- R320, R322: the alarms judged at a second boundary, on the fields of the new second. -/
def almBoundary (s : State) : State :=
  if s.cal.bad then almFree 1 (almFree 0 s)
  else
    let rep := decide (fieldPos s ≤ s.cal.mark)
    let m0 := almMatches s 0 (calFields s)
    let m1 := almMatches s 1 (calFields s)
    let s := { s with cal := { s.cal with mark := max s.cal.mark (fieldPos s) } }
    let s := if m0 then almFire 0 false rep s else s
    if m1 then almFire 1 false rep s else s

/-- R321, R322: an alarm judged at a step from position p0 to p1, both with weekdays: the skipped seconds less the last,
whose fields are the new ones. (log 84 DEDUCED) -/
def almStep (a : Nat) (p0 p1 mark : Int) (w0 : Nat) (s : State) : State :=
  let n := (p1 - p0 - 1).toNat
  let w := if (p0 + 1) % 86400 = 0 then (w0 + 1) % 7 else w0
  let land := almMatches s a (calFields s)
  let seen := (min p1 mark - p0).toNat
  if anyMatch s a (p0 + 1) n w || land then
    almFire a true (anyMatch s a (p0 + 1) (min n seen) w || (land && decide (p1 ≤ mark))) s
  else s

/-- R312, R321, R322: the fields move by d seconds; `land`: the fields a load sets, whose weekday is not reckoned.
(log 84 DEDUCED) -/
def fieldsStep (d : Int) (land : Option CalFields) (s : State) : State :=
  let f := calFields s
  let p0 := fieldPos s
  let p1 := p0 + d
  let w := ((f.wday : Int) + (p1 / 86400 - p0 / 86400)) % 7
  let g := match land with
    | some g => g
    | none => fieldsOf (p1 % (cycleSecs : Int)).toNat w.toNat
  let s' := setFields g (wrapBy (p1 / (cycleSecs : Int) - s.cal.lap) s)
  let mark := s.cal.mark
  let s' := { s' with cal := { s'.cal with mark := max mark p1 } }
  if 0 < d then almStep 1 p0 p1 mark f.wday (almStep 0 p0 p1 mark f.wday s') else s'

/-! ### The second boundary (R306, R316) -/

/-- R316: the TSU raw time at the boundary is latched while NET is ON. -/
def captureTsu (cycles : Nat) (s : State) : State :=
  if netOn s then
    let s := tsuAdvance cycles s
    setR 0x30048 (rawNow s) (setR 0x3004C (w32 (calSec s % 2 ^ 16 + 2 ^ 16)) s)
  else setF ⟨0x3004C, 16, 1⟩ 0 s

/-- The lease entries that are not FREE. -/
def leaseSlots (s : State) : List Nat :=
  (s.regs.filter (fun e => decide (0x308000 ≤ e.1) && decide (e.1 < 0x30C000) && decide (e.1 % 16 = 8))).map
    (fun e => (e.1 - 0x308000) / 16)

/-- The register of word w of lease entry e (R452); STATE and REMAIN_S. -/
def leaseReg (e w : Nat) : Nat := 0x308000 + 16 * e + 4 * w
def leaseState (s : State) (e : Nat) : Nat := getF s ⟨leaseReg e 2, 0, 3⟩
def leaseRemain (e : Nat) : Fld := ⟨leaseReg e 2, 16, 16⟩

/-- R448: REMAIN_S of a lease falls by one at each second boundary. (log 119 DEDUCED) -/
def leaseSecond (s : State) : State :=
  if airOn s then
    each (leaseSlots s) (fun e s =>
      if 3 ≤ leaseState s e then setF (leaseRemain e) (getF s (leaseRemain e) - 1) s else s) s
  else s

/-- R602: LEASE_REM of the perturbation block falls by one. (log 148 DEDUCED) -/
def tstSecond (s : State) : State := setF ⟨0xF00004, 16, 12⟩ (getF s ⟨0xF00004, 16, 12⟩ - 1) s

/-- R306: SUBSEC takes `sub`; SEC and the fields advance; the alarms are judged; the health report is rewritten (R543).
(log 119 DEDUCED, 135 DEDUCED) -/
def boundary (sub cycles : Nat) (s : State) : State :=
  let s := setCalSec ((calSec s + 1) % 2 ^ 48) (setCalSub sub s)
  let s := tstSecond (leaseSecond (captureTsu cycles s))
  let s := almBoundary (if s.cal.bad then freeFields s else fieldsAdvance s)
  if ctrlOn s then rewriteReport s else s

/-! ### The schedule table (R325 to R331) -/

/-- The register at offset o of entry e. -/
def schReg (e o : Nat) : Nat := 0x31000 + 0x20 * e + o

/-- SCH_STAT.STATE: 0 IDLE, 1 ARMED, 2 DONE, 3 LATE. -/
def schState (s : State) (e : Nat) : Nat := getF s ⟨schReg e 0x18, 0, 2⟩
def setSch (e n : Nat) (s : State) : State := setF ⟨schReg e 0x18, 0, 2⟩ n s

/-- T in whole seconds and nanoseconds, and in ns. -/
def schSec (s : State) (e : Nat) : Nat := (getR s (schReg e 0)).toNat + 2 ^ 32 * getF s ⟨schReg e 4, 0, 16⟩
def schNs (s : State) (e : Nat) : Nat := schSec s e * 1000000000 + getF s ⟨schReg e 8, 0, 30⟩
def setSchSec (e n : Nat) (s : State) : State :=
  setR (schReg e 0) (w32 n) (setF ⟨schReg e 4, 0, 16⟩ (n / 2 ^ 32) s)
def schPeriod (s : State) (e : Nat) : Nat := (getR s (schReg e 0x10)).toNat
def schGrace (s : State) (e : Nat) : Nat := getF s ⟨schReg e 4, 16, 16⟩

/-- SEC:SUBSEC in ns, times 32,768, so that it is a whole number. -/
def nowUnits (s : State) : Nat := (calSec s * 32768 + calSub s) * 1000000000
def schUnits (s : State) (e : Nat) : Nat := schNs s e * 32768

/-- R327: the entry's T has come. -/
def schDue (s : State) (e : Nat) : Bool := decide (schUnits s e ≤ nowUnits s)

/-- R330: occurrences of a periodic entry that lie before the latest at or before now. -/
def schPast (s : State) (e : Nat) : Nat :=
  if schPeriod s e = 0 then 0 else (nowUnits s - schUnits s e) / (schPeriod s e * 1000000000 * 32768)

/-- SCH_STAT.RESULT. -/
def schAnswer (e : Nat) (c : Code) (s : State) : State := setF ⟨schReg e 0x18, 8, 8⟩ c.num (unspoilLong (schReg e 0x18) s)

/-- R481: the instant of a scheduled snapshot. -/
def atInstant (e : Nat) (s : State) : State :=
  if s.hier.armed.any (fun a => decide (a.entry = e) && (match a.op with | .snapshot _ => true | _ => false)) then
    { s with hier := { s.hier with
      atT := s.hier.atT.filter (fun x => decide (x.1 ≠ e)) ++ [(e, ⟨s.regs, s.drv, s.chain, s.mtr, s.air⟩)] } }
  else s

/-- R490: a command of the hierarchy that entry e held has been applied. -/
def hierApplied (e : Nat) (s : State) : State :=
  if s.hier.armed.any (fun a => decide (a.entry = e)) then raise 144 s else s

/-- R326: what an entry's action does at release; a RESET is left to the end of its tick (R331). (log 88 DEDUCED) -/
def schAction (e : Nat) (s : State) : State :=
  let ctl := getR s (schReg e 0xC)
  let arg := getR s (schReg e 0x14)
  match getBits ctl 0 4 with
  | 0 => schAnswer e .ok s
  | 1 => if fabOn s then fabTicks [getBits arg 0 4] (schAnswer e .ok s) else schAnswer e .state s
  | 2 => if ctrlOn s && decide (ctrl s ≠ .halted) then captureReq (.sched e (getBits ctl 8 8) arg) (atInstant e (schAnswer e .ok s))
      else schAnswer e .state s
  | 3 =>
    let w := w32 (getBits arg 0 12 + getBits ctl 8 8 * 2 ^ 16)
    if flag s pwrBusy then { s with sys := { s.sys with wakeWait := some w, wakeEntry := some e } }
    else
      let ans := if s.sys.held || pwrRefused s w then Code.state else Code.ok
      let s := if ans = .ok then hierApplied e s else s
      schAnswer e ans (raise 7 (pwrIssue w (getBits ctl 8 8) true 0 0 s))
  | 4 => s
  | _ => spoilLong (schReg e 0x18) 0xFF00 s

/-- The reset that an entry's ARG names (R106). (log 89 DEDUCED) -/
def schKind (s : State) (e : Nat) : Option StartKind :=
  match getF s ⟨schReg e 0x14, 0, 2⟩ with | 1 => some .controller | 2 => some .module | _ => none

/-- R331: a RESET takes effect after every entry of its tick has been released. (log 28 DESIGN CHOICE, 89 DEDUCED) -/
def schReset (e : Nat) (s : State) : State :=
  if getF s ⟨schReg e 0xC, 0, 4⟩ = 4 then
    match schKind s e with
    | some k => schAnswer e (resetAnswer s k) (resetRequest k true s)
    | none => schAnswer e .ok s
  else s

/-- R326: an entry is released: the wake command first, then its action. -/
def schRelease (e : Nat) (s : State) : State :=
  schAction e (if flag s ⟨schReg e 0xC, 5, 1⟩ then wakeSource .sched s else s)

/-- An entry leaves the comparators of the TSU. (log 87 DEDUCED) -/
def unhand (e : Nat) (s : State) : State := { s with tsu := { s.tsu with fine := s.tsu.fine.filter (fun x => decide (x.1 ≠ e)) } }

/-- R329, R330: the state of an entry after its release or a judgement, with T moved on by n occurrences. -/
def schAfter (e n : Nat) (late : Bool) (s : State) : State :=
  let s := unhand e s
  if schPeriod s e = 0 then setSch e (if late then 3 else 2) s
  else setSch e 1 (setSchSec e ((schSec s e + n * schPeriod s e) % 2 ^ 48) s)

/-- R328: an entry answered LATE. (log 91 DEDUCED) -/
def schLate (e : Nat) (s : State) : State := raise 10 (bump 0x30050 (schAnswer e .late s))

/-- R328, R330: an entry whose T has passed is judged, on the latest occurrence; resets wait for the end of the tick.
(log 89 DEDUCED) -/
def schJudge (e : Nat) (s : State) : State :=
  let k := schPast s e
  let t := schUnits s e + k * schPeriod s e * 1000000000 * 32768
  let late := decide (t + schGrace s e * 1000000000 * 32768 < nowUnits s)
  let s := bumpBy 0x30054 k s
  schAfter e (k + 1) late (if late then schLate e s else schRelease e s)

/-- R331: several entries in one tick, in ascending number, and then their resets. `ran`: those released and not LATE. -/
def schTick (es : List Nat) (f : Nat → State → State) (ran : Nat → State → Bool) (s : State) : State :=
  let rs := es.filter (fun e => ran e s)
  each rs schReset (each es f s)

/-- Whether a judgement would release the entry. (log 91 DEDUCED) -/
def schInGrace (e : Nat) (s : State) : Bool :=
  decide (nowUnits s ≤ schUnits s e + schPast s e * schPeriod s e * 1000000000 * 32768 +
    schGrace s e * 1000000000 * 32768)

/-- R328: a step of SEC has moved: every ARMED entry whose T it has passed is judged. -/
def schSteps (s : State) : State :=
  schTick ((List.range 64).filter (fun e => decide (schState s e = 1) && schDue s e)) schJudge schInGrace s

/-- R327: ARMED entries that fall due at a tick, those in the TSU's comparators apart. -/
def schFallDue (s : State) : List Nat :=
  (List.range 64).filter (fun e => decide (schState s e = 1) && schDue s e && !s.tsu.fine.any (fun x => decide (x.1 = e)))

end Sys2Proof.Machine
end

