-- ==== Sys2Proof/Machine/MtrOps.lean ====
section
/-! DEFINITION. Energy metering: meter points and their four registers, the choice between twins, saves and the restore,
and the pulse outputs (R335 to R371). -/

namespace Sys2Proof.Machine

/-- The register at offset o of point p (R369). -/
def ptReg (p o : Nat) : Nat := 0x121000 + 0x80 * p + o

/-- MTR_POINT_CFG. -/
def ptKind (s : State) (p : Nat) : Nat := getF s ⟨ptReg p 0, 0, 3⟩
def ptSource (s : State) (p : Nat) : Nat := getF s ⟨ptReg p 0, 8, 8⟩
def ptVref (s : State) (p : Nat) : Nat := getF s ⟨ptReg p 0, 16, 8⟩
def ptValid (s : State) (p : Nat) : Bool := flag s ⟨ptReg p 0, 31, 1⟩
def ptRatio (s : State) (p : Nat) : Nat := (getR s (ptReg p 4)).toNat
def ptPulse (s : State) (p : Nat) : Nat := getF s ⟨ptReg p 8, 0, 8⟩

/-- The meter points. -/
def points : List Nat := List.range 128

/-- The current inputs of a feeder point (R335). -/
def ptInputs (s : State) (p : Nat) : List Nat :=
  if ptKind s p = 2 then [ptSource s p] else if ptKind s p = 3 then (List.range 3).map (ptSource s p + ·) else []

/-- MTR_POINT_CFG.MODE: an air-cored coil (R133, R341). -/
def ptCoil (s : State) (p : Nat) : Bool := flag s ⟨ptReg p 0, 24, 1⟩

/-- R133, R335: the point's configuration lies outside its ranges. -/
def ptRange (s : State) (p : Nat) : Bool :=
  let top := match ptKind s p with | 0 => 63 | 1 => 63 | 2 => 7 | 3 => 5 | _ => 31
  decide (4 < ptKind s p) || decide (top < ptSource s p) || (decide (ptKind s p = 2) && decide (2 < ptVref s p)) ||
    ((decide (ptKind s p = 2) || decide (ptKind s p = 3)) && ptCoil s p && decide (ptRatio s p = 0))

/-- R134: the point shares a current input or a pulse output with another declared point; or its configuration is out of range.
(log 93 DESIGN CHOICE) -/
def ptBad (s : State) (p : Nat) : Bool :=
  ptValid s p && (ptRange s p ||
    points.any (fun q => decide (q ≠ p) && ptValid s q &&
      ((ptInputs s p).any (ptInputs s q).contains || (decide (ptPulse s p < 4) && decide (ptPulse s p = ptPulse s q)))))

/-- A point's totals. -/
def ptTot (s : State) (p : Nat) : PointTot := tabGet (fun _ => {}) s.mtr.pts p
def setTot (p : Nat) (x : PointTot) (s : State) : State :=
  { s with mtr := { s.mtr with pts := tabSet (fun _ => {}) s.mtr.pts p x } }

/-- R338: whether a point's samples exist. -/
def ptSampled (s : State) (p : Nat) : Bool :=
  ptValid s p && ctrlOn s && (if ptKind s p ≤ 1 then driveOn s else mtrOn s)

/-- A sample energy, a fraction of U, rounded to the nearest U with ties away from zero and held as a signed 64-bit value
(R345). -/
def roundU (e : Int × Nat) : Int :=
  let d : Int := e.2
  let u := if e.2 = 0 then 0 else if 0 ≤ e.1 then (2 * e.1 + d) / (2 * d) else -((2 * (-e.1) + d) / (2 * d))
  (BitVec.ofInt 64 u).toInt

/-- R350: the residue modulo 3 of a value. -/
def residue (n : Nat) : Nat := n % 3
def residueZ (n : Int) : Nat := (n % 3).toNat

/-- R350: the residue of a sum modulo a power of 4, from the operands' residues: a carry out takes 1 away. -/
def residueSum (ra rb carry : Nat) : Nat := (ra + rb + 2 * carry) % 3

/-- R346, R350: one sample, and the residue beside the accumulator that it changes. (log 96 DEDUCED) -/
def addSample (x : PointTot) (e : Int) : PointTot :=
  if 0 < e then { x with
    imp := (x.imp + e.toNat) % 2 ^ 96
    rImp := residueSum x.rImp (residueZ e) ((x.imp + e.toNat) / 2 ^ 96) }
  else if e < 0 then { x with
    exp := (x.exp + (-e).toNat) % 2 ^ 96
    rExp := residueSum x.rExp (residueZ (-e)) ((x.exp + (-e).toNat) / 2 ^ 96) }
  else x

/-- A point's totals with the residues that belong to them. -/
def withResidues (x : PointTot) : PointTot :=
  { x with rImp := residue x.imp, rExp := residue x.exp, rS0 := residue x.s0.toNat }

/-- NET and ABS (R347). -/
def ptNet (x : PointTot) : Int := (x.imp : Int) - x.exp
def ptAbs (x : PointTot) : Nat := x.imp + x.exp

/-- R348: a KIND 4 point's IMPORT in U, from its pulse count. (log 95 DEDUCED) -/
def s0Energy (c ratio : Nat) : Nat :=
  (c * 1000000000 / ratio) * 2 ^ 32 + (c * 1000000000 % ratio) * 2 ^ 32 / ratio

/-- The totals that registers and pulse outputs follow (R2, R348, R364): zero of a point that the image does not declare, and of a
pulse-input point where the part has no pulse inputs. (log 2 DESIGN CHOICE, 95 DEDUCED) -/
def ptShown (s : State) (p : Nat) : PointTot :=
  let x := ptTot s p
  if !ptValid s p then {}
  else if ptKind s p = 4 ∧ s.fitS0 = false then {}
  else if ptKind s p = 4 then
    { x with imp := if ptRatio s p = 0 then (freeOf s).toNat else s0Energy x.s0.toNat (ptRatio s p), exp := 0 }
  else x

/-- R134: the totals that the point's record reports: anything where its configuration is bad. (log 93 DESIGN CHOICE) -/
def ptReported (s : State) (p : Nat) : PointTot :=
  if ptBad s p then { ptShown s p with imp := (freeOf s).toNat * 2 ^ 32, exp := (freeOf s).toNat * 2 ^ 32 } else ptShown s p

/-! ### From samples to energy (R335, R340 to R345) -/

/-- The record of a string, its channels, lowest first, and its lead. -/
def chanRec (s : State) (string : Nat) : Option Nat :=
  (records (activeImg s) 1).find? (fun o => stringNamed (activeImg s) o && decide (byteAt (activeImg s) o = string))
def stringChans (s : State) (string : Nat) : List Nat :=
  match chanRec s string with
  | some o => channels.filter (fun n => decide (leAt (activeImg s) (o + 8) 8 / 2 ^ n % 2 = 1))
  | none => []
def stringLead (s : State) (string : Nat) : Option Nat := (stringChans s string).head?

/-- The front end of a feeder input. -/
def feeder (s : State) (j : Nat) : Feeder := s.mtr.feeders.getD j {}

/-- The pole of R340's and R341's filters, over 2^32. (log 92 DESIGN CHOICE) -/
def filterPole : Int := 4293280660 + (Config.highPole.val : Int)

/-- A filter's value, over 2^32, carried to the next instant. -/
def decay (y : Int) : Int := filterPole * y / 2 ^ 32 + ((Config.filterRound (filterPole * y)).val : Int)

/-- R340: the first-order high-pass filter of 0.5 Hz: a constant input dies away. (log 92 DESIGN CHOICE) -/
def highPass (y last x : Int) : Int := decay y + (2 ^ 32 - (Config.highGain.val : Int)) * (x - last)

/-- R341: the integrator with the corner of R340: its gain is 1 at 50 Hz and goes as 1/f. (log 92 DESIGN CHOICE) -/
def integrate (y last x : Int) : Int :=
  let k : Int := 168627400 + (Config.coilGain.val : Int)
  let b := min k (Config.coilSplit.val : Int)
  decay y + (k - b) * x + b * last

/-- R340, R341: the samples of one instant pass the front ends. -/
def feedFeeders (xs : List Int) (s : State) : State :=
  { s with mtr := { s.mtr with feeders := (List.range 12).map (fun j =>
    let f := feeder s j
    let x := xs.getD j 0
    ⟨x, highPass f.high f.last x, integrate f.coil f.last x, f.high, f.coil⟩) } }

/-- R342: the gain trim of a point, as a factor over 2^20. -/
def trimGain (s : State) (p : Nat) : Int := 2 ^ 20 + signed 16 (getF s ⟨ptReg p 0xC, 0, 16⟩)

/-- R342: the voltage and the current that meet under a point's phase trim, from the last two samples of each: a delay takes the
current from between the two; a negative one waits for the later current. (log 92 DESIGN CHOICE) -/
def trimmed (s : State) (p : Nat) (v1 v i1 i : Int) : Int × Int :=
  let d := signed 16 (getF s ⟨ptReg p 0xC, 16, 16⟩)
  if 0 ≤ d then (v, i + (i1 - i) * d / 65536) else (v1, i1 + (i - i1) * (-d) / 65536)

/-- The channels of a channel or string point (R335). -/
def ptChans (s : State) (p : Nat) : List Nat := if ptKind s p = 0 then [ptSource s p] else stringChans s (ptSource s p)

/-- The voltage and current of a channel at an instant. -/
def chanSample (x : MeterStep) (k n : Nat) : Int × Int := (x.chan.getD k []).getD n (0, 0)

/-- R335: the voltages and currents that an instant of a channel or string point multiplies. -/
def chanPairs (s : State) (x : MeterStep) (p k : Nat) : List (Int × Int) :=
  (ptChans s p).map (fun n =>
    let before := if k = 0 then (s.mtr.lastV.getD n 0, s.mtr.lastI.getD n 0) else chanSample x (k - 1) n
    let now := chanSample x k n
    trimmed s p before.1 now.1 before.2 now.2)

/-- R335: those of a feeder point. -/
def feederPairs (s : State) (p : Nat) : List (Int × Int) :=
  (ptInputs s p).zipIdx.map (fun e =>
    let v := feeder s (8 + (if ptKind s p = 2 then ptVref s p else e.2))
    let f := feeder s e.1
    let i := if ptCoil s p then (f.coil1, f.coil) else (f.high1, f.high)
    trimmed s p (v.high1 / 2 ^ 32) (v.high / 2 ^ 32) (i.1 / 2 ^ 32) (i.2 / 2 ^ 32))

/-- The instants of a step that are not yet taken. -/
def ptInstants (s : State) (m : MeterIn) (p : Nat) : List (List (Int × Int)) :=
  match ptKind s p with
  | 0 | 1 => ((List.range m.x.chan.length).drop m.early).map (chanPairs s m.x p)
  | 2 | 3 => if m.fed then [] else [feederPairs s p]
  | _ => []

/-- R340, R341: the primary current in nA over the sample, as a fraction: the ratio of a transformer, the sensitivity of a coil. -/
def primary (s : State) (p : Nat) : Nat × Nat :=
  if ptKind s p < 2 then (1, 1) else if ptCoil s p then (1000000000, ptRatio s p) else (ptRatio s p, 1000)

/-- R335, R345: the energy of products of µV and nA at an instant, as a fraction of U = 2^−32 mWh: 31.25 µs for a channel, 125 µs
for a feeder. (log 92 DESIGN CHOICE) -/
def instantEnergy (s : State) (p : Nat) (xs : List (Int × Int)) : Int × Nat :=
  let dt : Int := if ptKind s p < 2 then 3125 else 12500
  ((xs.map (fun e => e.1 * e.2)).sum * trimGain s p * dt * (primary s p).1 * 2 ^ 32, 36 * 10 ^ 22 * 2 ^ 20 * (primary s p).2)

/-- What a step contributes to a point. -/
def ptWork (s : State) (m : MeterIn) (p : Nat) : MeterWork :=
  let xs := ptInstants s m p
  let sum := fun (f : Int × Int → Int) => (xs.flatten.map f).sum
  { es := xs.map (fun e => roundU (instantEnergy s p e))
    pulses := if ptKind s p = 4 then tabGet (fun _ => 0) m.s0 (ptSource s p) else 0
    volts := if ptKind s p = 0 then sum (·.1) else if ptKind s p = 2 then sum (fun e => e.1 * e.1) else 0
    amps := if ptKind s p = 0 then sum (·.2) else if ptKind s p = 2 then sum (fun e => e.2 * e.2) else 0
    freq := if (ptKind s p = 2 ∨ ptKind s p = 3) ∧ m.fed = false then m.freq else 0 }

/-! ### Keeping a step's result (R350 to R353) -/

/-- R346, R348, R350: a step's contribution to the totals, with their residues. (log 96 DEDUCED) -/
def addWork (x : PointTot) (w : MeterWork) : PointTot :=
  let y := w.es.foldl addSample x
  { y with
    s0 := x.s0 + w32 w.pulses
    rS0 := residueSum x.rS0 (residue (w32 w.pulses).toNat) ((x.s0.toNat + (w32 w.pulses).toNat) / 2 ^ 32) }

/-- A point's sums over the present second. -/
def secondOf (s : State) (p : Nat) : MeterSecond := tabGet (fun _ => {}) s.mtr.second p

/-- The energy in U that a step adds to the second's: of the sample energies, or of the pulses (R348, R349).
(log 92 DESIGN CHOICE) -/
def netWork (s : State) (p : Nat) (w : MeterWork) : Int :=
  if ptKind s p = 4 then (w.pulses * 1000000000 * 2 ^ 32 / ptRatio s p : Nat) else w.es.sum

/-- R349, R350: a step's contribution to the sums of the second, with their residues. -/
def addSecond (s : State) (p : Nat) (y : MeterSecond) (w : MeterWork) : MeterSecond :=
  let n := netWork s p w
  { energy := y.energy + n, volts := y.volts + w.volts, amps := y.amps + w.amps, freq := y.freq + w.freq
    res := List.zipWith (fun a b => residueSum a (residueZ b) 0) y.res [n, w.volts, w.amps, w.freq] }

/-- Bits of a number turned over. -/
def flipZ {n : Nat} (x : BitVec n) (v : Int) : Int := (BitVec.ofInt n v ^^^ x).toInt

/-- The upset of a twin's datapath at a point, if any. -/
def upsetOf (us : List MeterUpset) (t : Twin) (p : Nat) : Option MeterUpset :=
  us.find? (fun u => decide (u.twin = t) && decide (u.point = p))

/-- R350: the sample energies that a datapath holds: a multiplier's bits may turn over. -/
def upsetWork (us : List MeterUpset) (t : Twin) (p : Nat) (w : MeterWork) : MeterWork :=
  match upsetOf us t p with
  | some u => { w with es := w.es.zipIdx.map (fun e => match u.es[e.2]? with | some x => flipZ x e.1 | none => e.1) }
  | none => w

/-- The upset of a twin's datapath at a point turns bits of its accumulators over. (log 96 DEDUCED) -/
def upset (us : List MeterUpset) (t : Twin) (p : Nat) (x : PointTot) : PointTot :=
  match upsetOf us t p with
  | some u => { x with imp := x.imp ^^^ u.imp.toNat, exp := x.exp ^^^ u.exp.toNat, s0 := x.s0 ^^^ u.s0 }
  | none => x

/-- And of its sums of the second. -/
def upsetSecond (us : List MeterUpset) (t : Twin) (p : Nat) (y : MeterSecond) : MeterSecond :=
  match upsetOf us t p with
  | some u =>
    let f := fun i (v : Int) => match u.sums[i]? with | some x => flipZ x v | none => v
    { y with energy := f 0 y.energy, volts := f 1 y.volts, amps := f 2 y.amps, freq := f 3 y.freq }
  | none => y

/-- R350: the residues beside the accumulators agree with the values. (log 96 DEDUCED) -/
def residueOk (x : PointTot) : Bool :=
  decide (x.rImp = residue x.imp) && decide (x.rExp = residue x.exp) && decide (x.rS0 = residue x.s0.toNat)

/-- R350: and those beside the sums of the second. -/
def secondOk (y : MeterSecond) : Bool := decide (y.res = [y.energy, y.volts, y.amps, y.freq].map residueZ)

/-- R350: one datapath's result for a point, and whether it passes: every product's residue is that of its operands, which is that of
the exact product, and every sum's that of its operands. `forced`: the check is made to fail (R594). (log 96 DEDUCED) -/
def datapath (s : State) (us : List MeterUpset) (forced : Bool) (t : Twin) (p : Nat) (w : MeterWork) : Bool × MeterRes :=
  let v := upsetWork us t p w
  let tot := upset us t p (addWork (ptTot s p) v)
  let sec := upsetSecond us t p (addSecond s p (secondOf s p) v)
  (decide (v.es.map residueZ = w.es.map residueZ) && residueOk tot && secondOk sec && !forced, ⟨tot, sec, v.es⟩)

/-- R351: a result is kept: both twins hold it, and the point's record receives it. -/
def keepTot (p : Nat) (x : MeterRes) (s : State) : State :=
  let s := setTot p x.tot { s with mtr := { s.mtr with second := tabSet (fun _ => {}) s.mtr.second p x.sec } }
  if ptKind s p = 4 then s else capture (.meter p x.es) s

/-- R351, R352: the step fails on every live datapath, and is to be recomputed from its held samples. (log 96 DEDUCED) -/
def toRetry (p : Nat) (w : MeterWork) (s : State) : State :=
  bump 0x120028 { s with mtr := { s.mtr with retry := s.mtr.retry ++ [(p, w)] } }

/-- R352: a retry that fails again drops the step's contribution. (log 96 DEDUCED) -/
def dropStep (s : State) : State := bump 0x12002C s

/-- R536: beside a twin in SHADOW the results are compared. -/
def shadowRes (res : Twin → Bool × MeterRes) (s : State) : State :=
  match shadowTwin s with
  | some t => if (res t).1 && decide ((res t).2 = (res t.other).2) then s else declareFailed t 9 s
  | none => s

/-- R351 to R353: the choice between the datapaths for one point. `again`: a retry. (log 96 DEDUCED) -/
def keepPoint (again : Bool) (us : List MeterUpset) (forced : Twin → Bool) (p : Nat) (w : MeterWork) (s : State) : State :=
  let res := fun t => datapath s us (forced t) t p w
  let fails := fun s => if again then dropStep s else toRetry p w s
  let fallback := fun (t : Twin) s => strike t.other (keepTot p (res t).2 (raise 104 (bump 0x120020 s)))
  if bothInStep s then
    match (res .a).1, (res .b).1 with
    | true, true =>
      if (res .a).2 = (res .b).2 then keepTot p (res .a).2 s
      else divergence (keepTot p (res s.twn.readSrc).2 (bump 0x120024 s))
    | true, false => fallback .a s
    | false, true => fallback .b s
    | false, false => strike .a (strike .b (fails s))
  else
    match soleTwin s with
    | some t => shadowRes res (if (res t).1 then keepTot p (res t).2 s else strike t (fails s))
    | none => s

/-- The point at which a twin's residue check is forced to fail (R594 kind 16, R600). -/
def residueForced (s : State) : Option Nat × Option Nat × State :=
  let other := fun (t : Twin) => decide (twinState s t.other = .inStep)
  let a := if other .a then tstApply 16 0 s else (none, s)
  let b := if other .b then tstApply 16 1 a.2 else (none, a.2)
  match a.1, b.1 with
  | some x, some y => if x = y then (none, none, s) else (some x.toNat, some y.toNat, b.2)
  | x, y => (x.map Int.toNat, y.map Int.toNat, b.2)

/-- R362: MTR_GAP_MS is written at the first sample after a start. With no snapshot restored its value is not stated.
(log 95 DEDUCED) -/
def writeGap (s : State) : State :=
  if !s.mtr.gapDue then s
  else
    let s' := { s with mtr := { s.mtr with gapDue := false, gap := none } }
    let now := calSec s * 1000000000 + calSub s * 1000000000 / 32768
    if !flag s ⟨0x30000, 0, 1⟩ then setR 0x12004C 0xFFFFFFFF s'
    else
      match s.mtr.gap with
      | some g => setR 0x12004C (w32 (min 0xFFFFFFFF ((now - g) / 1000000))) s'
      | none => setR 0x12004C (freeOf s) (drawn s')

/-! ### The second's means (R349) -/

/-- The square root of a number below 2^128, rounded down, bit by bit. -/
def squareRoot (n : Nat) : Nat :=
  (List.range 64).reverse.foldl (fun r i => if (r + 2 ^ i) ^ 2 ≤ n then r + 2 ^ i else r) 0

/-- VRMS, in 0.01 V, of a channel and of a single-phase feeder; of a string and of three phases the rule gives none.
(log 92 DESIGN CHOICE) -/
def meanVolts (s : State) (p : Nat) : Nat :=
  let y := secondOf s p
  match ptKind s p with
  | 0 => y.volts.natAbs / (32000 * 10000)
  | 2 => squareRoot (y.volts.toNat / (8000 * 10000 ^ 2))
  | 4 => 0
  | _ => (freeOf s).toNat

/-- IRMS, in mA, of the same. (log 92 DESIGN CHOICE) -/
def meanAmps (s : State) (p : Nat) : Nat :=
  let y := secondOf s p
  let g := (trimGain s p).natAbs
  match ptKind s p with
  | 0 => y.amps.natAbs * g / (32000 * 2 ^ 20 * 1000000)
  | 2 => squareRoot (y.amps.toNat * (g * (primary s p).1) ^ 2 / (8000 * (2 ^ 20 * 1000000 * (primary s p).2) ^ 2))
  | 4 => 0
  | _ => (freeOf (drawn s)).toNat

/-- The means of one point: P_MW is the second's net energy as power, rounded down; FREQ is 0 of a DC point.
(log 92 DESIGN CHOICE) -/
def writeMean (p : Nat) (s : State) : State :=
  let f := ((secondOf s p).freq / 8000).toNat
  let t := if ptKind s p = 1 ∨ ptKind s p = 3 then drawn (drawn s) else s
  setR (ptReg p 0x38) (w32 (unsigned 32 ((secondOf s p).energy * 3600 / 2 ^ 32)))
    (setR (ptReg p 0x3C) (w32 (meanVolts s p % 2 ^ 16 + f % 2 ^ 16 * 2 ^ 16)) (setR (ptReg p 0x40) (w32 (meanAmps s p)) t))

/-- R349: the means of the second of every point. -/
def writeMeans (s : State) : State :=
  let s := each (points.filter (ptSampled s)) writeMean s
  { s with mtr := { s.mtr with second := [] } }

/-! ### Saves (R355 to R359, R361) -/

/-- The codes of R355. -/
def saveNum : SaveKind → Nat
  | .periodic => 0 | .final => 1 | .reset => 2 | .host => 3

/-- R364: the tag of the configuration of a declared point. -/
def cfgTag (rec : List Byte) : BitVec 16 := crc16 (rec.take 12)

/-- The segment time of a step boundary in ns (R27), and the present time as the module knows it. -/
def stepNs (s : State) : Nat := s.twn.step.toNat * 125000
def presentNs (s : State) : Nat :=
  if netOn s && anchorValid s then (segmentNs s (rawNow s)).toNat else calSec s * 1000000000 + calSub s * 1000000000 / 32768

/-- A bank's bytes, and their replacement. -/
def bankOf (s : State) (b : Bool) : Tab Byte := if b then s.mtr.bankB else s.mtr.bankA
def setBank (b : Bool) (x : Tab Byte) (s : State) : State :=
  if b then { s with mtr := { s.mtr with bankB := x } } else { s with mtr := { s.mtr with bankA := x } }

/-- R355: MAGIC of a valid bank. -/
def bankMagic : List Byte := [0x4D, 0x54, 0x52, 0x42]

/-- R355, R361: a bank's MAGIC and HCRC are good. -/
def bankGood (t : Tab Byte) : Bool :=
  decide (bytesAt t 0 4 = bankMagic) && decide (leAt t 28 4 = (crc32 (bytesAt t 0 28)).toNat)

/-- WSEQ of a bank, and the time of its snapshot in ns (R355). -/
def bankSeq (t : Tab Byte) : Nat := leAt t 4 4
def bankNs (t : Tab Byte) : Nat := leAt t 8 6 * 1000000000 + leAt t 16 4

/-- R355: the record of a point, where its RCRC is good. -/
def bankRec (t : Tab Byte) (p : Nat) : Option PointTot :=
  let o := 32 + 32 * p
  if leAt t (o + 30) 2 = (crc16 (bytesAt t o 30)).toNat then
    some (withResidues {
      imp := leAt t o 12, exp := leAt t (o + 12) 12, s0 := w32 (leAt t (o + 24) 4), tag := BitVec.ofNat 16 (leAt t (o + 28) 2) })
  else none

/-- R355: the 32 bytes of a point's record. -/
def recBytes (x : PointTot) : List Byte :=
  let b := leBytes 12 x.imp ++ leBytes 12 x.exp ++ wordBytes x.s0 ++ leBytes 2 x.tag.toNat
  b ++ leBytes 2 (crc16 b).toNat

/-- R355: the 32 bytes of a bank's header. -/
def headBytes (wseq ns : Nat) (k : SaveKind) : List Byte :=
  let b := bankMagic ++ leBytes 4 wseq ++ leBytes 6 (ns / 1000000000) ++ [0, 0] ++ leBytes 4 (ns % 1000000000) ++
    leBytes 1 (saveNum k) ++ List.replicate 7 0
  b ++ wordBytes (crc32 b)

/-- A string of bytes from offset 0 as a table; a zero byte is not listed. -/
def tabOf (bs : List Byte) : Tab Byte := bs.zipIdx.filterMap (fun e => if e.1 = 0 then none else some (e.2, e.1))

/-- R355: a whole bank. -/
def bankTab (wseq ns : Nat) (k : SaveKind) (recs : Tab PointTot) : Tab Byte :=
  tabOf (headBytes wseq ns k ++ points.flatMap (fun p => recBytes (tabGet (fun _ => {}) recs p)))

/-- R356: the bank with the lower WSEQ; bank B where true. -/
def nextBank (s : State) : Bool :=
  let a := bankGood s.mtr.bankA
  let b := bankGood s.mtr.bankB
  if a && !b then true else if b && !a then false else decide (bankSeq s.mtr.bankB < bankSeq s.mtr.bankA)

/-- R355, R357: the kept values as a save takes them: S0 is 0 of a declared point that is not of KIND 4. -/
def snapTots (s : State) : Tab PointTot :=
  points.foldl (fun t p => if ptValid s p && decide (ptKind s p ≠ 4) then
    tabSet (fun _ => {}) t p { tabGet (fun _ => {}) t p with s0 := 0, rS0 := 0 } else t) s.mtr.pts

/-- MTR_STAT.SAVING and SYS_PWR_STAT.SAVE. -/
def savingFld : Fld := ⟨0x120000, 1, 1⟩

/-- R356: a save takes its snapshot and begins: the bank's MAGIC is 0 until it ends. -/
def beginSave (k : SaveKind) (ns : Nat) (s : State) : State :=
  let b := match s.mtr.saving with
    | some x => x.bank
    | none => nextBank s
  let s := setBank b (tabPut zeroByte (bankOf s b) 0 [0, 0, 0, 0]) s
  setB savingFld true { s with mtr := { s.mtr with
    saving := some ⟨k, b, ns, snapTots s⟩
    hostDue := if k = .host then false else s.mtr.hostDue } }

/-- R358: the save that waits when another falls due: a reset's takes the place. (log 94 DEDUCED) -/
def saveWaits (k : SaveKind) (s : State) : State :=
  { s with mtr := { s.mtr with
    waiting := if s.mtr.waiting.isNone ∨ k = .reset then some k else s.mtr.waiting
    hostDue := if k = .host then false else s.mtr.hostDue } }

/-- R361: the record of a point that the restore takes, and whether it is a fix. -/
def restorePoint (first second : Option (Tab Byte)) (p : Nat) : PointTot × Bool :=
  match first with
  | none => ({}, false)
  | some t =>
    match bankRec t p, second.bind (fun u => bankRec u p) with
    | some r, _ => (r, false)
    | none, some r => (r, true)
    | none, none => ({}, true)

/-- R361, R362: the boot ROM restores the totals; nothing of the gap is metered. -/
def mtrRestore (s : State) : State :=
  let a := s.mtr.bankA
  let b := s.mtr.bankB
  let first := match bankGood a, bankGood b with
    | true, true => some (if bankSeq b < bankSeq a then a else b)
    | true, false => some a
    | false, true => some b
    | false, false => none
  let second := if bankGood a && bankGood b then some (if bankSeq b < bankSeq a then b else a) else none
  let rs := points.map (fun p => (p, restorePoint first second p))
  let pts := rs.foldl (fun t r => tabSet (fun _ => {}) t r.1 r.2.1) []
  let s := { s with mtr := { s.mtr with
    pts := pts, retry := [], zero := [], s0 := [], second := [], gap := first.map bankNs, gapDue := true } }
  let s := setF ⟨0x120000, 3, 3⟩ (match first with | some t => leAt t 20 1 | none => 7) s
  if rs.any (fun r => r.2.2) then setF ⟨0x120000, 6, 1⟩ 1 s else s

/-! ### Pulse outputs (R366 to R368) -/

/-- A pulse output. -/
def pulse (s : State) (k : Nat) : PulseSt :=
  match k with | 0 => s.mtr.pls0 | 1 => s.mtr.pls1 | 2 => s.mtr.pls2 | _ => s.mtr.pls3
def setPulse (k : Nat) (x : PulseSt) (s : State) : State :=
  match k with
  | 0 => { s with mtr := { s.mtr with pls0 := x } }
  | 1 => { s with mtr := { s.mtr with pls1 := x } }
  | 2 => { s with mtr := { s.mtr with pls2 := x } }
  | _ => { s with mtr := { s.mtr with pls3 := x } }

/-- The register at offset o of pulse output k. -/
def plsReg (k o : Nat) : Nat := 0x120200 + 0x10 * k + o

/-- The point that an output follows. -/
def plsPoint (s : State) (k : Nat) : Option Nat := points.find? (fun p => ptValid s p && decide (ptPulse s p = k))

/-- R134: two points name the output. (log 93 DESIGN CHOICE) -/
def plsBad (s : State) (k : Nat) : Bool := decide (1 < (points.filter (fun p => ptValid s p && decide (ptPulse s p = k))).length)

/-- PULSE_CONST of an output's point; 0 with none; of an output that two points name, anything (R134).
(log 93 DESIGN CHOICE, 185 DESIGN CHOICE) -/
def plsConst (s : State) (k : Nat) : Nat :=
  if plsBad s k then (Config.freeWord (s.free + 1)).toNat % 65536
  else match plsPoint s k with | some p => getF s ⟨ptReg p 8, 16, 16⟩ | none => 0

/-- R366: the pulses owed; of an output that two points name, anything (R134). -/
def owed (s : State) (k : Nat) : Int :=
  match plsPoint s k with
  | none => 0
  | some p =>
    if plsBad s k then (freeOf s).toInt else
    let x := ptShown s p
    let r : Int := match getF s ⟨ptReg p 8, 8, 2⟩ with | 0 => x.imp | 1 => x.exp | 2 => ptNet x | _ => ptAbs x
    r * plsConst s k / (1000000 * 2 ^ 32)

/-- The registers of an output. -/
def showPulse (k : Nat) (s : State) : State :=
  let b : Int := if plsConst s k = 0 then 0 else owed s k - (pulse s k).emitted
  setR (plsReg k 4) (w32 (unsigned 32 b)) (setR (plsReg k 8) (w32 (unsigned 32 (pulse s k).emitted)) s)

/-- R368: the pulse outputs start: nothing is owed. -/
def startPulse (k : Nat) (s : State) : State :=
  showPulse k (setPulse k { pulse s k with emitted := if plsConst s k = 0 then 0 else owed s k } s)
def startPulses (s : State) : State := each (List.range 4) startPulse s

/-- R367: while the backlog is positive an open output closes. -/
def firePulse (k : Nat) (s : State) : State :=
  let x := pulse s k
  if x.phase = 0 ∧ 0 < owed s k - x.emitted ∧ plsConst s k ≠ 0 then
    showPulse k (setPulse k { emitted := x.emitted + 1, phase := 1 } s)
  else s

/-- R366: one output at a step boundary. (log 93 DESIGN CHOICE) -/
def stepPulse (k : Nat) (s : State) : State :=
  let s := if plsBad s k then drawn (drawn s) else s
  if plsConst s k = 0 then showPulse k (setPulse k { pulse s k with emitted := 0 } s)
  else
    let x := pulse s k
    let s := if 65535 < owed s k - x.emitted then
        raise 106 (bump (plsReg k 12) (setPulse k { x with emitted := owed s k - 65535 } s))
      else s
    firePulse k (showPulse k s)

/-! ### A step of every point -/

/-- R365, R368: ZERO takes effect on the points that it was written for in an earlier step. -/
def applyZeros (step : Nat) (s : State) : State :=
  let now := s.mtr.zero.filter (fun z => decide (z.2 < step))
  if now = [] then s
  else
    let s := { s with mtr := { s.mtr with zero := s.mtr.zero.filter (fun z => decide (step ≤ z.2)) } }
    startPulses (each now (fun z s =>
      setF ⟨ptReg z.1 0x44, 0, 1⟩ 0 (setTot z.1 { tag := (ptTot s z.1).tag } s)) s)

/-- The samples and pulses of a step, or of a part of one, are added to every point that has them (R335 to R353, R362). -/
def accumulate (m : MeterIn) (forced : Nat → Twin → Bool) (s : State) : State :=
  let s := if mtrOn s && !m.fed then feedFeeders m.island s else s
  let live := points.filter (ptSampled s)
  let s := if live = [] then s else writeGap s
  let work := live.map (fun p => (p, ptWork s m p))
  let s := each work (fun e => keepPoint false m.x.upsets (forced e.1) e.1 e.2) s
  match m.x.chan.getLast? with
  | some k => { s with mtr := { s.mtr with lastI := k.map (·.2), lastV := k.map (·.1) } }
  | none => s

/-- One step of every point (R335 to R353, R362, R365): the contributions, the choices, and at a second boundary the means. -/
def runMeter (m : MeterIn) (s : State) : State :=
  let f := residueForced s
  let forced := fun (p : Nat) (t : Twin) => decide ((match t with | .a => f.1 | .b => f.2.1) = some p)
  let s := applyZeros m.step (accumulate m forced f.2.2)
  if m.step % 8000 = 0 then writeMeans s else s

/-- R357, R359: at a trip the datapaths take what the present step has captured before it, `chan` of the channels, and results that
wait for a retry. (log 94 DEDUCED) -/
def takePart (chan : List (List (Int × Int))) (s : State) : State :=
  if !ctrlOn s || (twinDead s .a && twinDead s .b) then s
  else
    let m : MeterIn := ⟨s.twn.step.toNat, ⟨chan, [], []⟩, s.mtr.island, s.mtr.freq, s.mtr.s0, 0, !s.mtr.fresh⟩
    let s := each s.mtr.retry (fun e => keepPoint true [] (fun _ => false) e.1 e.2) { s with mtr := { s.mtr with retry := [] } }
    accumulate m (fun _ _ => false) { s with mtr := { s.mtr with s0 := [], early := chan.length, fed := s.mtr.fresh } }

/-- R54, R97, R358: the final save abandons any other; a trip during a final save starts nothing. (log 94 DEDUCED) -/
def beginFinal (chan : List (List (Int × Int))) (s : State) : State :=
  if s.mtr.saving.any (fun x => decide (x.kind = .final)) then s
  else
    let s := takePart chan s
    setB pwrSave true (beginSave .final (presentNs s) { s with mtr := { s.mtr with waiting := none } })

end Sys2Proof.Machine
end

