-- ==== Sys2Proof/Machine/Mtr.lean ====
section
/-! DEFINITION. The commands of energy metering (R335 to R371). -/

namespace Sys2Proof.Machine

/-- R343: the feeder inputs that a point uses: 0 to 7 currents, 8 to 10 voltages VL1 to VL3. -/
def ptUses (s : State) (p i : Nat) : Bool :=
  (ptInputs s p).contains i || (decide (ptKind s p = 2) && decide (i = 8 + ptVref s p)) ||
    (decide (ptKind s p = 3) && decide (8 ≤ i) && decide (i ≤ 10))

/-- Bits of MTR_FAULT. -/
def mtrFault (i : Nat) (s : State) : State :=
  let s := setF ⟨0x120004, i, 1⟩ 1 s
  if levelCond s 105 then raise 105 s else s

/-- R343: MTR_POINT_STAT.CLIP of the points that use a sample at full scale, and MTR_FAULT.CLIP. -/
def clipPoints (uses : Nat → Bool) (s : State) : State :=
  mtrFault 2 (each (points.filter (fun p => ptValid s p && uses p)) (fun p => setF ⟨ptReg p 0x44, 1, 1⟩ 1) s)

/-- R338, R343: a channel's sample at full scale, whatever the state of MTR. -/
def clipChans (cs : List Nat) (s : State) : State :=
  if cs = [] then s
  else clipPoints (fun p => decide (ptKind s p < 2) && (ptChans s p).any cs.contains) s

/-- METER_STEP (R335 to R353, R359): what the step delivers is accumulated; from a trip on it is held, until the final save has
completed. (log 8 DESIGN CHOICE, 92 DESIGN CHOICE) -/
def execMeterStep (x : MeterStep) (s : State) : Host.Outcome State Fault Refusal :=
  .next (if !ctrlOn s || (twinDead s .a && twinDead s .b) then s
    else
      let m : MeterIn := ⟨s.twn.step.toNat, x, s.mtr.island, s.mtr.freq, s.mtr.s0, s.mtr.early, s.mtr.fed⟩
      let s := clipChans (x.clip.map (·.val)) { s with mtr := { s.mtr with s0 := [], fresh := false, early := 0, fed := false } }
      if s.sys.trip || flag s pwrSave then { s with mtr := { s.mtr with held := s.mtr.held ++ [m] } }
      else runMeter m s)

/-- METER_RETRY (R352, R353): both datapaths recompute the oldest step held for a point. (log 96 DEDUCED) -/
def execMeterRetry (p : Fin 128) (us : List MeterUpset) (s : State) : Host.Outcome State Fault Refusal :=
  .next (match s.mtr.retry.find? (fun e => decide (e.1 = p.val)) with
    | some e => keepPoint true us (fun _ => false) p.val e.2 { s with mtr := { s.mtr with retry := s.mtr.retry.erase e } }
    | none => s)

/-- ISLAND_FRAME (R343): a bad frame is replaced by the previous step's samples; a failed slice's are 0. -/
def execIslandFrame (crcOk : Bool) (samples : List Int) (adcFail clip : BitVec 12) (freq : Option Nat) (s : State) :
    Host.Outcome State Fault Refusal :=
  .next (if !mtrOn s then s
    else
      let s := setF ⟨0x120000, 0, 1⟩ 1 { s with mtr := { s.mtr with fresh := true } }
      if !crcOk then mtrFault 0 (bump 0x120030 s)
      else
        let island := samples.zipIdx.map (fun e => if adcFail.getLsbD e.2 then 0 else e.1)
        let s := { s with mtr := { s.mtr with island := island } }
        let s := if adcFail = 0 then s else mtrFault 1 s
        let s := if clip = 0 then s else clipPoints (fun p => (List.range 12).any (fun i => clip.getLsbD i && ptUses s p i)) s
        match freq with
        | some f =>
          let s := { s with mtr := { s.mtr with freq := f } }
          if f < 45000 ∨ 65000 < f then mtrFault 3 s else s
        | none => s)

/-- S0_PULSE (R2, R344): the counter wraps; the step's pulses reach the points at its end. A part without pulse inputs counts none.
(log 2 DESIGN CHOICE) -/
def execS0Pulse (j : Fin 32) (s : State) : Host.Outcome State Fault Refusal :=
  .next (if !mtrOn s || !s.fitS0 then s else
    let r := 0x120100 + 4 * j.val
    let s := setR r (getR s r + 1) s
    capture (.s0 j.val) { s with mtr := { s.mtr with s0 := tabSet (fun _ => 0) s.mtr.s0 j.val (tabGet (fun _ => 0) s.mtr.s0 j.val + 1) } })

/-- METER_SAVE_START (R355 to R358): a periodic save needs a second boundary, a host save SAVE_NOW, a reset's an accepted reset; a save due while another
writes waits. -/
def execMeterSaveStart (kind : SaveKind) (s : State) : Host.Outcome State Fault Refusal :=
  .next (if !ctrlOn s then s
    else
      match kind with
      | .final => if s.sys.trip then beginFinal [] s else s
      | k =>
        let wanted := match k with
          | .host => s.mtr.hostDue || decide (s.mtr.waiting = some .host)
          | .reset => s.sys.rstWait.isSome
          | _ => decide (s.twn.step.toNat % 8000 = 0) || decide (s.mtr.waiting = some .periodic)
        if !wanted then s
        else if s.mtr.saving.isSome then saveWaits k s
        else
          let s := if s.mtr.waiting = some k then { s with mtr := { s.mtr with waiting := none } } else s
          beginSave k (stepNs s) s)

/-- R359: the held steps are accumulated once the final save has completed and the input has recovered. -/
def releaseHeld (s : State) : State :=
  if s.sys.trip || flag s pwrSave then s
  else each s.mtr.held runMeter { s with mtr := { s.mtr with held := [] } }

/-- METER_SAVE_DONE (R356, R358, R359, R363). (log 10 DESIGN CHOICE, 27 DEDUCED) -/
def execMeterSaveDone (s : State) : Host.Outcome State Fault Refusal :=
  .next (match s.mtr.saving with
    | none => s
    | some x =>
      let s := setBank x.bank (bankTab (bankSeq (bankOf s (!x.bank)) + 1) x.ns x.kind x.recs) s
      let s := setB savingFld false (setB ⟨0x120000, 2, 1⟩ x.bank { s with mtr := { s.mtr with saving := none } })
      let sec := x.ns / 1000000000
      let s := setR 0x120040 (w32 sec) (setR 0x120044 (w32 (sec / 2 ^ 32 % 2 ^ 16)) (setR 0x120048 (w32 (x.ns % 1000000000)) s))
      let s := bump 0x120034 s
      match x.kind with
      | .reset => { s with sys := { s.sys with rstSaved := true } }
      | .final => releaseHeld (setB pwrSave false s)
      | _ => s)

/-- MTR_RESULT. -/
def mtrAnswer (c : Code) (s : State) : State := setF ⟨0x120010, 0, 8⟩ c.num s

/-- SAVE_NOW (R357, R358): answered BUSY while a save waits. -/
def execSaveNow (s : State) : Host.Outcome State Fault Refusal :=
  .next (if !mtrOn s then s
    else if s.mtr.waiting.isSome then mtrAnswer .busy s
    else mtrAnswer .ok { s with mtr := { s.mtr with hostDue := true } })

/-- ZERO (R365): legal only while RECONF of the point is 1; it acts in the next step. -/
def execZero (p : Fin 128) (s : State) : Host.Outcome State Fault Refusal :=
  .next (if !mtrOn s then s
    else if flag s ⟨ptReg p.val 0x44, 0, 1⟩ then
      mtrAnswer .ok { s with mtr := { s.mtr with zero := s.mtr.zero ++ [(p.val, s.twn.step.toNat)] } }
    else mtrAnswer .state s)

/-- PULSE_STEP (R366, R367). -/
def execPulseStep (s : State) : Host.Outcome State Fault Refusal :=
  .next (if mtrOn s && ctrlOn s then each (List.range 4) stepPulse s else s)

/-- PULSE_WIDTH_EXPIRE (R367): a closed output opens; one that has been open for WIDTH_MS may close again. -/
def execPulseWidthExpire (k : Fin 4) (s : State) : Host.Outcome State Fault Refusal :=
  .next (if !mtrOn s then s
    else
      match (pulse s k.val).phase with
      | 1 => setPulse k.val { pulse s k.val with phase := 2 } s
      | 2 => firePulse k.val (setPulse k.val { pulse s k.val with phase := 0 } s)
      | _ => s)

/-- R347, R370: the ten words of a point's totals. -/
def totalWords (x : PointTot) : List Word :=
  let two := fun (n : Int) => [w32 (unsigned 32 n), w32 (unsigned 32 (n / 2 ^ 32))]
  two (x.imp / 2 ^ 32 : Nat) ++ two (x.exp / 2 ^ 32 : Nat) ++ two (ptNet x / 2 ^ 32) ++ two (ptAbs x / 2 ^ 32 : Nat) ++
    [w32 x.imp, w32 x.exp]

/-- R370: the read of a point's first total latches the rest. -/
def latchTotals (p : Nat) (s : State) : State :=
  let ws := totalWords (ptShown s p)
  { s with hostData := [ws.getD 0 0], mtr := { s.mtr with latch := tabSet (fun _ => []) s.mtr.latch p ws } }

/-- TOTALS_LATCH_READ (R370): a read while MTR is OFF returns 0 (R33). -/
def execTotalsLatchRead (route : Route) (p : Fin 128) (s : State) : Host.Outcome State Fault Refusal :=
  .next (readBy route (fun s => if mtrOn s then latchTotals p.val s else { s with hostData := [0] }) s)

end Sys2Proof.Machine
end

