-- ==== Sys2Proof/Machine/AirOps.lean ====
section
/-! DEFINITION. The wireless cells: channel plans and hopping, time sources, the choice of a cell, transmission, leases
and the verdict on a received frame (R422 to R448). -/

namespace Sys2Proof.Machine

/-- The register at offset o of radio r, and its i-th counter (R452). -/
def airReg (r o : Nat) : Nat := 0x300000 + 0x1000 * r + o
def airCnt (r i : Nat) : Nat := airReg r (0x200 + 4 * i)

/-- A radio's state. -/
def radioOf (s : State) (r : Nat) : RadioSt :=
  match r with | 0 => s.air.r0 | 1 => s.air.r1 | 2 => s.air.r2 | _ => s.air.r3
def setRadio (r : Nat) (x : RadioSt) (s : State) : State :=
  match r with
  | 0 => { s with air := { s.air with r0 := x } }
  | 1 => { s with air := { s.air with r1 := x } }
  | 2 => { s with air := { s.air with r2 := x } }
  | _ => { s with air := { s.air with r3 := x } }

/-- The radios. -/
def radios : List Nat := [0, 1, 2, 3]

/-- Setting bit i of AIR_RADIO_EVT raises AIR_EVTr where IRQ_EN has the bit. -/
def airEvt (r i : Nat) (s : State) : State :=
  let s := setF ⟨airReg r 0x14, i, 1⟩ 1 s
  if flag s ⟨airReg r 0x18, i, 1⟩ then raise (132 + r) s else s

/-! ### Slotframes, channels, lengths (R422, R423, R428) -/

/-- Fields of AIR_SF_CFG of handle h. -/
def sfReg (r h w : Nat) : Nat := airReg r (0x100 + 0x10 * h + 4 * w)
def sfValid (s : State) (r h : Nat) : Bool := flag s ⟨sfReg r h 2, 31, 1⟩
def sfLength (s : State) (r h : Nat) : Nat := getF s ⟨sfReg r h 0, 0, 16⟩
def sfSlotUs (s : State) (r h : Nat) : Nat := getF s ⟨sfReg r h 0, 16, 16⟩
def sfMax (s : State) (r h : Nat) : Nat := getF s ⟨sfReg r h 2, 16, 11⟩
def sfHopLen (s : State) (r h : Nat) : Nat := getF s ⟨sfReg r h 3, 16, 8⟩

/-- The slotframes of a radio that are loaded. -/
def slotframes (s : State) (r : Nat) : List Nat := (List.range 8).filter (sfValid s r)

/-- R422: the number of channels of a plan. -/
def planChannels (r rate band : Nat) : Nat :=
  if r < 2 then 16 else if band = 0 then (if rate = 0 then 34 else 17) else (if rate = 0 then 129 else 64)

/-- R422: the centre of a channel, in kHz. -/
def channelKhz (r rate band k : Nat) : Nat :=
  if r < 2 then 2405000 + 5000 * k
  else if band = 0 then (if rate = 0 then 863125 + 200 * k else 863225 + 400 * k)
  else if rate = 0 then 902200 + 200 * k else 902400 + 400 * k

/-- R427: TsMaxAck and TsMaxTx. -/
def maxAck (r rate : Nat) : Nat := if r < 2 then 2400 else if rate = 0 then 6400 else if rate = 1 then 3200 else 2400
def maxTx (r rate us : Nat) : Nat := us - 2120 - 1000 - 224 - maxAck r rate

/-- R427: the template of a timeslot, in the order of the rule's table, and the timeslot's length. -/
def timeslotTemplate (r rate us : Nat) : List Nat :=
  [1800, 128, 2120, 1020, 2200, 1000, 800, 400, maxAck r rate, maxTx r rate us, us]

/-- R428: the longest PSDU of a slotframe. -/
def maxPsdu (r rate us : Nat) : Nat :=
  let tx := maxTx r rate us
  let n := if r < 2 then tx / 32 else if rate = 0 then tx / 160 else if rate = 1 then tx / 80 else tx * 3 / 160
  min (if r < 2 then 127 else 2047) (n - (if r < 2 then 6 else 8))

/-- The steps of R423 for i down to 1. -/
def hopSteps : Nat → Nat → List Nat → List Nat
  | 0, _, c => c
  | i + 1, x, c =>
    let y := if x % 2 = 1 then (x / 2) ^^^ 0xB400 else x / 2
    let j := y % (i + 2)
    hopSteps i y ((c.set (i + 1) (c.getD j 0)).set j (c.getD (i + 1) 0))

/-- R423: the hopping list. -/
def hopList (n hopId : Nat) : List Nat := hopSteps (n - 1) (if hopId = 0 then 0xACE1 else hopId) (List.range n)

/-- R423: a slotframe's hopping list, and its channel at an ASN with a channel offset. -/
def sfHops (s : State) (r h : Nat) : List Nat := hopList (sfHopLen s r h) (getF s ⟨sfReg r h 3, 0, 16⟩)
def hopChannel (s : State) (r h asn off : Nat) : Nat := (sfHops s r h).getD ((asn + off) % sfHopLen s r h) 0

/-- R422, R423: the centre of that channel, in kHz. -/
def hopKhz (s : State) (r h asn off : Nat) : Nat :=
  channelKhz r (getF s ⟨sfReg r h 2, 0, 2⟩) (getF s ⟨sfReg r h 2, 2, 1⟩) (hopChannel s r h asn off)

/-- R425: the slotframes of the radio differ in TIMESLOT_US. (log 118 DESIGN CHOICE) -/
def radioBad (s : State) (r : Nat) : Bool :=
  (slotframes s r).any (fun h => (slotframes s r).any (fun g => decide (sfSlotUs s r h ≠ sfSlotUs s r g)))

/-! ### Time sources (R430, R432) -/

/-- AIR_FOLLOW and LOST. -/
def followEn (s : State) (r : Nat) : Bool := flag s ⟨airReg r 4, 31, 1⟩
def followPan (s : State) (r : Nat) : BitVec 16 := (getR s (airReg r 4)).setWidth 16
def lostFld (r : Nat) : Fld := ⟨airReg r 8, 2, 1⟩

/-- TIME_SRC: 0 PTP, 1 NEIGHBOUR, 2 CALENDAR, 3 NONE. (log 117 DEDUCED) -/
def timeSrc (s : State) (r : Nat) : Nat :=
  let near := followEn s r && decide ((radioOf s r).heard = some (followPan s r)) && !flag s (lostFld r)
  let ptp := netOn s && anchorValid s
  if flag s ⟨airReg r 4, 16, 1⟩ && near then 1
  else if ptp then 0
  else if near then 1
  else if flag s ⟨0x30000, 0, 1⟩ then 2
  else 3

/-- R424, R430: segment time in µs by PTP or by the calendar. (log 117 DEDUCED) -/
def sourceUs (s : State) (src : Nat) : Int := if src = 0 then segmentNs s (rawNow s) / 1000 else (nowUnits s : Int) / 32768000

/-- R431: how far the grid has to move, in µs, at the start of timeslot `asn` by source `src`: by PTP or the calendar to where the
timeslot begins by that source (R424), by a neighbour to its beacon. (log 117 DEDUCED) -/
def gridCorr (s : State) (r asn src : Nat) : Int :=
  let x := radioOf s r
  match src, slotframes s r with
  | 1, _ => if x.src = 1 then x.corr else 0
  | 3, _ => 0
  | _, h :: _ => (asn * sfSlotUs s r h : Nat) - sourceUs s src
  | _, [] => 0

/-- R434: a neighbour of the radio is in search. -/
def searching (s : State) (r : Nat) : Bool :=
  (leaseSlots s).any (fun e => flag s ⟨leaseReg e 2, 4, 1⟩ && decide (getF s ⟨leaseReg e 2, 8, 2⟩ = r))

/-! ### Lease entries (R448) -/

/-- What a lease entry holds beside its registers. -/
def leaseOf (s : State) (e : Nat) : LeaseSt := tabGet (fun _ => {}) s.air.leases e
def setLease (e : Nat) (x : LeaseSt) (s : State) : State :=
  { s with air := { s.air with leases := tabSet (fun _ => {}) s.air.leases e x } }

/-- Fields of word 2. -/
def joinPend (e : Nat) : Fld := ⟨leaseReg e 2, 3, 1⟩
def leaseSearch (e : Nat) : Fld := ⟨leaseReg e 2, 4, 1⟩
def leaseMiss (e : Nat) : Fld := ⟨leaseReg e 2, 5, 2⟩
def leaseRadio (e : Nat) : Fld := ⟨leaseReg e 2, 8, 2⟩

/-- LEASE_S and KA_S; 0 acts as 1. -/
def leaseS (s : State) : Nat := max 1 (getF s ⟨0x304000, 0, 16⟩)
def kaS (s : State) : Nat := max 1 (getF s ⟨0x304000, 16, 16⟩)

/-- R439, R444, R451: what a radio has for the twins enters the splitter; while CTRL is not RUN it waits. -/
def airReport (r : Nat) (x : SplitIn) (s : State) : State :=
  if ctrlRun s then capture x s else setRadio r { radioOf s r with buf := (radioOf s r).buf ++ [x] } s

/-- A change of a lease's state: reported on the radio that last carried the entry, and to both twins (R444).
(log 112 DEDUCED) -/
def setLeaseState (e n : Nat) (s : State) : State :=
  if leaseState s e = n then s
  else
    let r := getF s (leaseRadio e)
    airReport r (.lease e n) (airEvt r 0 (setF ⟨leaseReg e 2, 0, 3⟩ n s))

/-- The link key and a staged key are erased; RX_FC is reset with the key (R443). -/
def eraseLink (e : Nat) (s : State) : State :=
  setR (leaseReg e 3) 0 (setLease e { leaseOf s e with link := none, staged := none, mseq := none } s)

/-- Every key of the entry is erased. (log 110 DEDUCED) -/
def eraseKeys (e : Nat) (s : State) : State := eraseLink e (setLease e { leaseOf s e with join := none } s)

/-- The entry leaves its lease: no rejoin, miss or search is left. (log 112 DEDUCED) -/
def endLease (e n : Nat) (s : State) : State :=
  setLeaseState e n (setB (joinPend e) false (setB (leaseSearch e) false (setF (leaseMiss e) 0 s)))

/-- A lease returns to WAIT; its link key is erased. (log 112 DEDUCED) -/
def dropLease (e : Nat) (s : State) : State := endLease e 1 (eraseLink e s)

/-- JOINING, ACTIVE or SILENT; ACTIVE or SILENT. -/
def joined (s : State) (e : Nat) : Bool := decide (2 ≤ leaseState s e)
def leased (s : State) (e : Nat) : Bool := decide (3 ≤ leaseState s e)

/-- R442: a new key epoch, in FRAM and in its register: counters start again, link keys are erased. -/
def newEpoch (s : State) : State :=
  let s := { s with air := { s.air with epoch := s.air.epoch + 1, fc := 0 } }
  each ((leaseSlots s).filter (joined s)) dropLease (setR 0x304008 s.air.epoch s)

/-- R442, R448: AIR rises from OFF. -/
def airRise (s : State) : State :=
  let s := clearRegs (fun off => decide (0x308000 ≤ off) && decide (off < 0x30C000)) s
  let s := { s with air := { s.air with leases := [], r0 := {}, r1 := {}, r2 := {}, r3 := {} } }
  newEpoch (each radios (fun r s => setB ⟨airReg r 8, 4, 1⟩ true (setB (lostFld r) false (setR (airReg r 0x10) 0 s))) s)

/-! ### Frames for the twins (R444, R451) -/

/-- n free bytes. -/
def anyBytes (n : Nat) (s : State) : List Byte := (List.range n).map (fun i => (Config.freeWord (s.free + i)).setWidth 8)

/-- Whether an input is a radio frame. -/
def SplitIn.isRadio : SplitIn → Bool
  | .radio _ _ => true
  | _ => false

/-- R444, R451: a frame for the twins; at most 32 wait for CTRL. Of a radio whose slotframes differ it holds anything (R425).
(log 118 DESIGN CHOICE) -/
def toTwins (rx : RadioRx) (body : List Byte) (s : State) : State :=
  let r := rx.radio.val
  let x := SplitIn.radio rx (if radioBad s r then anyBytes body.length s else body)
  let s := if radioBad s r then { s with free := s.free + body.length } else s
  if !ctrlRun s && decide (32 ≤ ((radioOf s r).buf.filter SplitIn.isRadio).length) then airEvt r 2 (bump (airCnt r 5) s)
  else airReport r x s

/-- CTRL is RUN again: what waited enters the splitter. -/
def airDrain (s : State) : State :=
  each radios (fun r s =>
    setRadio r { radioOf s r with buf := [] } (each (radioOf s r).buf capture s)) s

/-! ### Transmission (R426, R437, R439, R446) -/

/-- A field of a cell as the two words of the cell window hold it. -/
def cellBits (c : BitVec 64) (lo w : Nat) : Nat := (c.toNat >>> lo) % 2 ^ w
def cellOpt (c : BitVec 64) (i : Nat) : Bool := c.getLsbD (24 + i)
def cellTo (c : BitVec 64) : BitVec 16 := (c >>> 32).setWidth 16
def cellHandle (c : BitVec 64) : Nat := cellBits c 50 3

/-- R424, R435: the cells of the radio that are in use in a timeslot. -/
def activeCells (s : State) (r asn : Nat) : List (BitVec 64) :=
  (s.air.cells.map (·.2)).filter (fun c => c.getLsbD 63 && decide (cellBits c 48 2 = r) && sfValid s r (cellHandle c) &&
    decide (asn % sfLength s r (cellHandle c) = cellBits c 0 16) &&
    (!cellOpt c 4 || searching s r || flag s (lostFld r)))

/-- R439: a queued frame may go in a cell: it fits, and the cell names its address or the broadcast address.
(log 115 PRESUMED) -/
def mayGo (s : State) (r : Nat) (c : BitVec 64) (e : RadioEnt) : Bool :=
  decide (e.f.len ≤ sfMax s r (cellHandle c)) && (decide (cellTo c = 0xFFFF) || decide (e.f.dst = .short (cellTo c)))

/-- The frame a TX cell takes; a beacon cell takes none. (log 114 DEDUCED) -/
def frameFor (s : State) (r : Nat) (c : BitVec 64) : Option RadioEnt :=
  if cellOpt c 0 && !cellOpt c 5 then (radioOf s r).queue.find? (mayGo s r c) else none

/-- R426: of some cells, the one of the lowest handle, the first in the table among equals. (log 114 DEDUCED) -/
def lowestCell (cs : List (BitVec 64)) : Option (BitVec 64) :=
  cs.foldl (fun best c =>
    match best with
    | none => some c
    | some b => if cellHandle c < cellHandle b then some c else some b) none

/-- R426: the cell used; any or none of a radio under R425. (log 114 DEDUCED, 118 DESIGN CHOICE) -/
def chooseCell (s : State) (r asn : Nat) : Option (BitVec 64) :=
  let cs := activeCells s r asn
  if radioBad s r then cs[freeBelow cs.length s]?
  else
    match cs.filter (fun c => (frameFor s r c).isSome) with
    | [] => lowestCell cs
    | tx => lowestCell tx

/-- The power a radio sends with (R422, R452). -/
def txDbm (s : State) (r : Nat) : Nat := min (getF s ⟨airReg r 0, 8, 5⟩) (if r < 2 then 10 else 14)

/-- R441: the outgoing frame counter has been used. (log 110 DEDUCED) -/
def countFc (s : State) : State := { s with air := { s.air with fc := s.air.fc + 1 } }

/-- R437, R439: a frame joins the queue. (log 116 DEDUCED) -/
def queueRadio (r : Nat) (f : RadioTx) (s : State) : State :=
  let x := radioOf s r
  if 256 ≤ x.queue.length then bump (airCnt r 10) s
  else if (slotframes s r).all (fun h => decide (sfMax s r h < f.len)) then airEvt r 6 (bump (airCnt r 9) s)
  else setRadio r { x with queue := x.queue ++ [{ f := f }] } s

/-- R437: two copies carry one spline tag. -/
def sameFrame (f g : RadioTx) : Bool := decide (f.tag = g.tag)

/-- R437, R438, R527: one twin's copy of a radio frame reaches its tile. -/
def radioCopy (r : Nat) (t : Twin) (f : RadioTx) (s : State) : State :=
  if !airOn s || !ctrlRun s then s
  else
    let c := copyFlipped t 3 s
    let p := pairCopy sameFrame c.2 (radioOf c.2 r).copies { twin := t, item := f, flip := c.1 }
    let s := each p.pass (queueRadio r) (setRadio r { radioOf c.2 r with copies := p.q } c.2)
    if p.diff then routeDiff (if bothInStep s then airEvt r 5 (bump (airCnt r 12) s) else s) else s

/-- R448: a module LEAVE has been acknowledged. -/
def leaveSent (f : RadioTx) (s : State) : State :=
  match f.dst, f.msg with
  | .short a, t :: _ => if t = 7 ∧ a ≠ 0 ∧ joined s (a.toNat - 1) = true then dropLease (a.toNat - 1) s else s
  | _, _ => s

/-- Replaces the first entry equal to `e`. -/
def replaceOne (e y : RadioEnt) : List RadioEnt → List RadioEnt
  | [] => []
  | x :: xs => if x = e then y :: xs else x :: replaceOne e y xs

/-- R439: the frame has been sent in a cell: it is done, or tried again, or dropped after its last attempt. The backoff of
shared cells follows TSCH CSMA-CA. (log 115 PRESUMED, 116 DEDUCED) -/
def attempt (r : Nat) (e : RadioEnt) (shared acked : Bool) (s : State) : State :=
  let x := radioOf s r
  let rest := x.queue.erase e
  if e.f.dst = .short 0xFFFF then bump (airCnt r 6) (setRadio r { x with queue := rest } s)
  else if acked then leaveSent e.f (bump (airCnt r 6) (setRadio r { x with queue := rest, be := 1, backoff := 0 } s))
  else
    let s := bump (airCnt r 7) s
    let x := if shared then { x with backoff := freeBelow (2 ^ x.be - 1) s, be := min 5 (x.be + 1) } else x
    let s := if shared then drawn s else s
    if getF s ⟨0x304004, 8, 3⟩ < e.tries + 1 then
      airReport r (.radioFail r e.f) (airEvt r 1 (bump (airCnt r 8) (setRadio r { x with queue := rest } s)))
    else
      setRadio r { x with queue := replaceOne e { e with tries := e.tries + 1 } x.queue } s

/-- R446: the FLAGS of a beacon. -/
def beaconFlags (s : State) (r : Nat) : Nat :=
  b2n ((leaseSlots s).any (fun e => decide (leaseState s e = 1))) + 2 * b2n (decide (timeSrc s r = 0))

/-- R446: the Querad record of a beacon. -/
def beaconRecord (s : State) (r : Nat) : List Byte :=
  [0x40, 1, BitVec.ofNat 8 (beaconFlags s r), BitVec.ofNat 8 r] ++ wordBytes s.air.epoch

/-- R440: the key index of a frame: the join key of one with an extended address, else the link key. -/
def dstKey : RadioDst → Nat
  | .ext _ => 1
  | .short _ => 2

/-- R440: the address of a sender. -/
def srcAddr : RadioSrc → RadioDst
  | .eui e => .ext e
  | .slot n => .short (BitVec.ofNat 16 (n + 1))

/-- R441: the CCM* nonce of the module's next frame. (log 121 PRESUMED, 186 DESIGN CHOICE) -/
def radioNonce (s : State) : List Byte := leBytes 8 Config.eui64.toNat ++ (wordBytes s.air.fc).reverse ++ [6]

/-- R440: the header of a frame to `dst`, secured at level 6 with a 1-byte key index. -/
def headTo (s : State) (dst : RadioDst) : RadioHead :=
  ⟨2, true, swOrigin s, .short 0, some dst, some ⟨6, 1, dstKey dst, s.air.fc, radioNonce s⟩⟩

/-- R440: the header of a beacon, which is not secured. -/
def beaconHead (s : State) : RadioHead := ⟨2, true, swOrigin s, .short 0, none, none⟩

/-- R446: the IEs of a beacon in cell c; the Slotframe and Link IE lists every slotframe of the radio with its cells.
(log 186 DESIGN CHOICE) -/
def beaconIes (s : State) (r asn : Nat) (c : BitVec 64) : BeaconIes :=
  let h := cellHandle c
  ⟨asn, timeslotTemplate r (getF s ⟨sfReg r h 2, 0, 2⟩) (sfSlotUs s r h), sfHops s r h,
    (slotframes s r).map (fun g => (g, sfLength s r g,
      ((s.air.cells.map (·.2)).filter (fun c => c.getLsbD 63 && decide (cellBits c 48 2 = r) && decide (cellHandle c = g))).map
        (fun c => (cellBits c 0 16, cellBits c 16 8, cellBits c 24 8))))⟩

/-- R425: the frame that a radio whose slotframes differ sends in place of one: on any channel of a plan, to any address, with any
content. (log 118 DESIGN CHOICE) -/
def anyFrame (r n : Nat) (s : State) : State :=
  let rate := freeBelow 2 s
  let band := freeBelow 1 (drawn s)
  let s2 := drawn (drawn s)
  let khz := channelKhz r rate band (freeBelow (planChannels r rate band - 1) s2)
  let dst := RadioDst.short ((freeOf (drawn s2)).setWidth 16)
  let s4 := drawn (drawn s2)
  emit (.radio r khz (txDbm s r) (headTo s dst) (anyBytes n s4)) { s4 with free := s4.free + n }

/-- R439, R440: a message goes out. (log 118 DESIGN CHOICE) -/
def sendRadio (r khz : Nat) (f : RadioTx) (s : State) : State :=
  countFc (if radioBad s r then anyFrame r f.msg.length s else emit (.radio r khz (txDbm s r) (headTo s f.dst) f.msg) s)

/-- R446: a beacon goes out. -/
def sendBeacon (r khz asn : Nat) (c : BitVec 64) (s : State) : State :=
  if radioBad s r then anyFrame r 8 s
  else emit (.beacon r khz (txDbm s r) (beaconHead s) (beaconIes s r asn c) (beaconRecord s r)) s

/-- R431, R439, R446: whether the radio sends in the cell it uses. -/
def cellSends (s : State) (r : Nat) (c : BitVec 64) : Bool :=
  decide (timeSrc s r ≠ 3) && cellOpt c 0 &&
    (cellOpt c 5 || ((frameFor s r c).isSome && !(cellOpt c 2 && decide (0 < (radioOf s r).backoff))))

/-- A cell is used (R426, R431, R433, R439, R446). (log 115 PRESUMED) -/
def useCell (r asn : Nat) (c : BitVec 64) (acked : Bool) (s : State) : State :=
  let listens := cellOpt c 1 && !cellSends s r c
  let w := tstApply 7 r s
  let s := if listens then w.2 else s
  let s := setRadio r { radioOf s r with shift := if listens then w.1.getD 0 else 0, wide := cellOpt c 4, rx := listens } s
  let khz := hopKhz s r (cellHandle c) asn (cellBits c 16 8)
  if timeSrc s r = 3 then s
  else if cellOpt c 0 && cellOpt c 5 then sendBeacon r khz asn c s
  else
    match frameFor s r c with
    | none => s
    | some e =>
      if cellOpt c 2 && decide (0 < (radioOf s r).backoff) then
        setRadio r { radioOf s r with backoff := (radioOf s r).backoff - 1 } s
      else attempt r e (cellOpt c 2) acked (sendRadio r khz e.f s)

/-! ### Reception (R433, R443) -/

/-- R433, R435: the frame starts inside the receive window. (log 116 DEDUCED) -/
def inRxWindow (s : State) (r : Nat) (wide : Bool) (off : Int) : Bool :=
  let x := radioOf s r
  let g : Int := if wide || x.wide then 2120 else 1100
  decide (x.shift - g ≤ off) && decide (off ≤ x.shift + g)

/-- The entry of a sender. (log 117 DEDUCED) -/
def slotOf (s : State) : RadioSrc → Option Nat
  | .slot n => if n < 1024 then some n else none
  | .eui e => (leaseSlots s).find? (fun n => decide (leaseState s n ≠ 0) && decide ((leaseOf s n).eui = e))

/-- R436: an enhanced acknowledgement, which a perturbation may withhold; with source NONE nothing is sent, and of a radio whose
slotframes differ anything or nothing (R425). (log 117 DEDUCED) -/
def sendAck (rx : RadioRx) (s : State) : State :=
  let r := rx.radio.val
  let p := tstApply 9 r s
  if timeSrc s r = 3 then s
  else if p.1.isSome then p.2
  else if radioBad s r then (if bitOf (freeOf p.2) 0 then countFc (anyFrame r 0 (drawn p.2)) else drawn p.2)
  else countFc (emit (.radioAck r (headTo p.2 (srcAddr rx.src)) rx.off) p.2)

/-- A frame of the glowworm has been received: no miss is left (R434). (log 113 DEDUCED) -/
def clearMiss (e r : Nat) (s : State) : State :=
  setF (leaseRadio e) r (setB (leaseSearch e) false (setF (leaseMiss e) 0 s))

/-- An accepted frame: RX_FC, the acknowledgement, the counter; a SILENT lease is ACTIVE (R448). (log 111 DEDUCED) -/
def acceptRx (rx : RadioRx) (e : Nat) (s : State) : State :=
  let s := setLease e { leaseOf s e with mseq := some rx.mseq } (setR (leaseReg e 3) rx.fc s)
  sendAck rx (bump (airCnt rx.radio.val 0) (clearMiss e rx.radio.val s))

/-- R443: the verdict on an authenticated frame of entry e, and what an accepted one does.
(log 110 DEDUCED, 111 DEDUCED, 120 DESIGN CHOICE) -/
def judgeRx (rx : RadioRx) (e : Nat) (act : State → State) (s : State) : State :=
  let r := rx.radio.val
  let h := getR s (leaseReg e 3)
  if h.toNat < rx.fc.toNat then act (acceptRx rx e s)
  else if rx.fc = h ∧ (leaseOf s e).mseq = some rx.mseq then sendAck rx (bump (airCnt r 3) (clearMiss e r s))
  else raise (140 + r) (bump (airCnt r 2) s)

/-- The radio takes in a frame: it is ON and enabled, the cell in use receives, and the frame lies in its window (R433); free under
R425. (log 118 DESIGN CHOICE) -/
def radioTakes (rx : RadioRx) (s : State) : Bool × State :=
  let r := rx.radio.val
  let wide := match slotOf s rx.src with | some e => flag s (leaseSearch e) | none => false
  if !airOn s || !flag s ⟨airReg r 0, 0, 1⟩ || !(radioOf s r).rx || !inRxWindow s r wide rx.off then (false, s)
  else if radioBad s r then (bitOf (freeOf s) 0, drawn s) else (true, s)

/-- R451: the wake indication of a frame. -/
def airWake (s : State) : State := if ctrlRun s then s else wakeSource .air s

/-- R443: a frame under the link key; the staged key of a lease that has no other yet. `act`: what its QTYPE does for
the entry. -/
def rxFrame (rx : RadioRx) (wakes : Bool) (body : List Byte) (act : Nat → State → State) (s : State) : State :=
  let t := radioTakes rx s
  let s := t.2
  if !t.1 then s
  else
    match slotOf s rx.src with
    | none => bump (airCnt rx.radio.val 1) s
    | some e =>
      let x := leaseOf s e
      if !rx.micOk || (x.link.isNone && x.staged.isNone) then bump (airCnt rx.radio.val 1) s
      else judgeRx rx e (fun s =>
        let s := if leaseState s e = 4 then setLeaseState e 3 s else s
        let s := act e (toTwins rx body s)
        if wakes then airWake s else s) s

/-- A Querad message: QTYPE, QSEQ, body (R445). -/
def querad (qtype : Nat) (rx : RadioRx) (body : List Byte) : List Byte := BitVec.ofNat 8 qtype :: rx.qseq :: body

/-- R449: an item of a DATA body. -/
def itemBytes : DataItem → List Byte
  | .level c r l => [1, 5] ++ leBytes 2 c.toNat ++ leBytes 2 r.toNat ++ [if l then 1 else 0]
  | .state c f => [2, 4] ++ leBytes 2 c.toNat ++ leBytes 2 f.toNat
  | .presence l e => [3, 2, l, e]
  | .lux v => [4, 2] ++ leBytes 2 v.toNat
  | .energy v => [5, 4] ++ leBytes 4 v.toNat
  | .other t v => [t, BitVec.ofNat 8 v.length] ++ v

/-- R445: the twins issue a message of their own, with their next QSEQ. -/
def issueQuerad (r qtype : Nat) (dst : RadioDst) (body : List Byte) (s : State) : State :=
  emit (.glow r dst (BitVec.ofNat 8 qtype :: s.air.qseq :: body)) { s with air := { s.air with qseq := s.air.qseq + 1 } }

/-- R445, R447: firmware answers an accepted JOIN_REQ with a JOIN_RESP, which echoes its QSEQ and its NONCE_G. STATUS, accepted or
retry later, is firmware's; NONCE_M comes from the carrier's random source. (log 186 DESIGN CHOICE) -/
def joinResp (rx : RadioRx) (nonceG : List Byte) (s : State) : State :=
  match rx.src, slotOf s rx.src with
  | .eui v, some e =>
    emit (.glow rx.radio.val (.ext v) (querad 2 rx (BitVec.ofNat 8 (b2n (bitOf (freeOf s) 0)) :: leBytes 2 (e + 1) ++
      leBytes 2 (leaseS s) ++ leBytes 2 (kaS s) ++ wordBytes s.air.epoch ++ nonceG ++ anyBytes 8 (drawn s)))) { s with free := s.free + 9 }
  | _, _ => s

/-- R432: a missed beacon. (log 113 DEDUCED) -/
def missBeacon (r : Nat) (s : State) : State :=
  let n := (radioOf s r).misses + 1
  let s := bump (airCnt r 13) (setRadio r { radioOf s r with misses := n } s)
  if n = 3 then raise (136 + r) (airEvt r 4 (setB (lostFld r) true s)) else s

end Sys2Proof.Machine
end

