-- ==== Sys2Proof/Machine/Air.lean ====
section
/-! DEFINITION. The commands of the wireless cells (R422 to R452). -/

namespace Sys2Proof.Machine

/-- TIMESLOT_START (R424, R426, R431): the grid moves by at most 100 µs; what is left of the correction waits.
(log 117 DEDUCED) -/
def execTimeslotStart (r : Fin 4) (asn : BitVec 40) (acked : Bool) (s : State) : Host.Outcome State Fault Refusal :=
  .next (if !airOn s then s
    else
      let x := radioOf s r.val
      let src := timeSrc s r.val
      let corr := gridCorr s r.val asn.toNat src
      let s := setRadio r.val { x with
        asn := asn, corr := corr - clampInt (-100) 100 corr, src := src, shift := 0, wide := false, rx := false } s
      let s := setR (airReg r.val 0xC) (asn.setWidth 32) s
      if !flag s ⟨airReg r.val 0, 0, 1⟩ then s
      else
        let bad := radioBad s r.val
        match chooseCell s r.val asn.toNat with
        | some c => useCell r.val asn.toNat c acked (if bad then drawn s else s)
        | none => if bad then drawn s else s)

/-- R452: a radio with EN 0 uses no cell; with source NONE it listens without one (R431). -/
def beaconHeard (s : State) (r : Nat) : Bool := flag s ⟨airReg r 0, 0, 1⟩ || decide (timeSrc s r = 3)

/-- R433: a beacon that starts at `offset` is inside a receive window; with source NONE the radio listens continuously (R431). -/
def hearsBeacon (s : State) (r : Nat) (offset : Int) : Bool :=
  decide (timeSrc s r = 3) || ((radioOf s r).rx && inRxWindow s r (flag s (lostFld r)) offset)

/-- BEACON_RECEIVE (R430 to R433): while NEIGHBOUR is in force, a beacon more than one timeslot off counts as missed, as does one that
a perturbation discards. Where NEIGHBOUR is in force once it has come, the radio takes its ASN and phase. A radio whose slotframes
differ may receive anything in its place, or nothing (R425). (log 118 DESIGN CHOICE) -/
def execBeaconReceive (r : Fin 4) (pan : BitVec 16) (asn : BitVec 40) (offset : Int) (s : State) :
    Host.Outcome State Fault Refusal :=
  .next (if !airOn s || !followEn s r.val || decide (pan ≠ followPan s r.val) || !beaconHeard s r.val then s
    else
      let near := decide (timeSrc s r.val = 1)
      let p := tstApply 8 r.val s
      let s := p.2
      if p.1.isSome then (if near then missBeacon r.val s else s)
      else if !hearsBeacon s r.val offset then s
      else
        let bad := radioBad s r.val
        let w := Config.freeWord s.free
        let asn := if bad then Config.freeWord (s.free + 1) ++ w.setWidth 8 else asn
        let offset := if bad then signed 32 (Config.freeWord (s.free + 2)).toNat else offset
        let s := if bad then { s with free := s.free + 3 } else s
        if bad && bitOf w 31 then s else
        let x := radioOf s r.val
        if near && (decide (asn.toNat + 1 < x.asn.toNat) || decide (x.asn.toNat + 1 < asn.toNat)) then missBeacon r.val s
        else
          let x := { x with misses := 0, heard := some pan }
          let s := setB (lostFld r.val) false (setRadio r.val x s)
          if timeSrc s r.val = 1 then setRadio r.val { x with asn := asn, corr := offset, src := 1 } (setR (airReg r.val 0xC) (asn.setWidth 32) s)
          else s)

/-- BEACON_MISSED (R432). -/
def execBeaconMissed (r : Fin 4) (s : State) : Host.Outcome State Fault Refusal :=
  .next (if airOn s && flag s ⟨airReg r.val 0, 0, 1⟩ && decide (timeSrc s r.val = 1) then missBeacon r.val s else s)

/-- KEEPALIVE_MISS (R434): the third consecutive miss starts the search. (log 113 DEDUCED) -/
def execKeepaliveMiss (r : Fin 4) (e : Fin 1024) (s : State) : Host.Outcome State Fault Refusal :=
  .next (if airOn s && flag s ⟨airReg r.val 0, 0, 1⟩ && leased s e.val then
    let n := getF s (leaseMiss e.val) + 1
    let s := addF (leaseMiss e.val) 1 (bump (airCnt r.val 4) s)
    if n = 3 then airEvt r.val 3 (setB (leaseSearch e.val) true s) else s
  else s)

/-- SEARCH_CHANNEL_HOP (R431). -/
def execSearchChannelHop (r : Fin 4) (s : State) : Host.Outcome State Fault Refusal :=
  .next (if airOn s && followEn s r.val && decide (timeSrc s r.val = 3) then
    match slotframes s r.val with
    | h :: _ => setRadio r.val { radioOf s r.val with hop := ((radioOf s r.val).hop + 1) % max 1 (sfHopLen s r.val h) } s
    | [] => s
  else s)

/-- RADIO_TX_COPY (R437, R438, R527). -/
def execRadioTxCopy (r : Fin 4) (t : Twin) (f : RadioTx) (s : State) : Host.Outcome State Fault Refusal :=
  .next (if !airOn s || !ctrlRun s || twinDead s t then s else delayCopy t (.radio r.val t f) (radioCopy r.val t f) s)

/-- RADIO_COPY_TIMEOUT (R437): the only copy is queued, unless it has passed alone already. -/
def execRadioCopyTimeout (r : Fin 4) (s : State) : Host.Outcome State Fault Refusal :=
  .next (match (radioOf s r.val).copies with
    | [] => s
    | c :: q => passSolo c (queueRadio r.val) (bump (airCnt r.val 11)) (setRadio r.val { radioOf s r.val with copies := q } s))

/-- JOIN_REQ (R443, R447, R448): under the join key of the entry that holds the EUI-64. (log 110 DEDUCED, 112 DEDUCED) -/
def execJoinReq (rx : RadioRx) (caps : Byte) (nonceG : BitVec 64) (s : State) : Host.Outcome State Fault Refusal :=
  .next (
    let t := radioTakes rx s
    let s := t.2
    if !t.1 then s
    else
      match slotOf s rx.src with
      | none => bump 0x304044 s
      | some e =>
        if !rx.micOk || (leaseOf s e).join.isNone then bump (airCnt rx.radio.val 1) s
        else judgeRx rx e (fun s =>
          let s := if leased s e then setB (joinPend e) true s else setLeaseState e 2 s
          airWake (toTwins rx (querad 1 rx (caps :: leBytes 8 nonceG.toNat)) s)) s)

/-- R448: a valid JOIN_CONF: the staged key is the link key. -/
def completeJoin (rx : RadioRx) (e : Nat) (k : TileKey) (s : State) : State :=
  let s := setLease e { leaseOf s e with link := some k, staged := none } s
  let s := acceptRx rx e s
  let s := setF (leaseRemain e) (leaseS s) (setB (joinPend e) false (bump 0x304040 s))
  setLeaseState e 3 s

/-- JOIN_CONF (R447, R448): valid under the staged key with its NONCE_M; else it is judged as any frame. -/
def execJoinConf (rx : RadioRx) (nonceM : BitVec 64) (s : State) : Host.Outcome State Fault Refusal :=
  .next (
    let body := querad 3 rx (leBytes 8 nonceM.toNat)
    let plain := rxFrame rx false body (fun _ s => s) s
    match slotOf s rx.src with
    | none => plain
    | some e =>
      match (leaseOf s e).staged with
      | none => plain
      | some (k, n) =>
        if rx.micOk && decide (n = nonceM) && (decide (leaseState s e = 2) || flag s (joinPend e)) then
          let t := radioTakes rx s
          if t.1 then toTwins rx body (completeJoin rx e k t.2) else t.2
        else plain)

/-- The body of RENEW_ACK. (log 116 DEDUCED) -/
def renewAck (rx : RadioRx) (e : Nat) (s : State) : RadioTx :=
  ⟨.short (BitVec.ofNat 16 (e + 1)), querad 5 rx (leBytes 2 (leaseS s) ++ leBytes 2 (kaS s)), 31, 0⟩

/-- RENEW (R448). -/
def execRenew (rx : RadioRx) (s : State) : Host.Outcome State Fault Refusal :=
  .next (rxFrame rx false (querad 4 rx []) (fun e s =>
    if leased s e then queueRadio rx.radio.val (renewAck rx e s) (setF (leaseRemain e) (leaseS s) s) else s) s)

/-- KEEPALIVE (R434, R445, R448). -/
def execKeepalive (rx : RadioRx) (status : Byte) (s : State) : Host.Outcome State Fault Refusal :=
  .next (rxFrame rx false (querad 6 rx [status]) (fun _ s => s) s)

/-- LEAVE (R448). -/
def execLeave (rx : RadioRx) (reason : Byte) (s : State) : Host.Outcome State Fault Refusal :=
  .next (rxFrame rx true (querad 7 rx [reason]) (fun e s => if joined s e then dropLease e s else s) s)

/-- QUERAD_DATA (R444, R445, R449, R451): DATA; a message of an unknown QTYPE is passed on, and wakes nothing. -/
def execQueradData (rx : RadioRx) (m : QueradMsg) (s : State) : Host.Outcome State Fault Refusal :=
  .next (match m with
    | .data items => rxFrame rx true (querad 0x10 rx (items.flatMap itemBytes)) (fun _ s => s) s
    | .unknown q body => rxFrame rx false (querad q.toNat rx body) (fun _ s => s) s)

/-- RELAY (R450): accepted hop by hop, never forwarded by the tile. -/
def execRelay (rx : RadioRx) (finalDst origSrc : BitVec 16) (hops : Byte) (inner : List Byte) (s : State) :
    Host.Outcome State Fault Refusal :=
  .next (rxFrame rx true
    (querad 0x20 rx (leBytes 2 finalDst.toNat ++ leBytes 2 origSrc.toNat ++ [hops] ++ inner)) (fun _ s => s) s)

/-- R448: the EUI-64 of an entry is written. -/
def commitEui (e : Nat) (v : BitVec 64) (s : State) : State :=
  let old := (leaseOf s e).eui
  let s := setLease e { leaseOf s e with eui := v } s
  if v = 0 then endLease e 0 (eraseKeys e s)
  else if leaseState s e = 0 then setLeaseState e 1 s
  else if v = old then s
  else endLease e 1 (eraseKeys e s)

/-- LEASE_EUI_WRITE (R448, R452): a write of EUI_HI commits the EUI-64. -/
def execLeaseEuiWrite (e : Fin 1024) (v : Word) (s : State) : Host.Outcome State Fault Refusal :=
  .next (if airOn s then
    let s := unspoil (leaseReg e.val 1) (setR (leaseReg e.val 1) v s)
    commitEui e.val (v ++ getR s (leaseReg e.val 0)) s
  else s)

/-- JOIN_WAIT_EXPIRE (R448). -/
def execJoinWaitExpire (e : Fin 1024) (s : State) : Host.Outcome State Fault Refusal :=
  .next (
    let unstage := fun s => setLease e.val { leaseOf s e.val with staged := none } s
    if !airOn s then s
    else if leaseState s e.val = 2 then setLeaseState e.val 1 (bump 0x304048 (unstage s))
    else if leased s e.val && flag s (joinPend e.val) then bump 0x304048 (setB (joinPend e.val) false (unstage s))
    else s)

/-- LEASE_SILENT (R448). -/
def execLeaseSilent (e : Fin 1024) (s : State) : Host.Outcome State Fault Refusal :=
  .next (if airOn s && decide (leaseState s e.val = 3) then setLeaseState e.val 4 (bump 0x304050 s) else s)

/-- LEASE_EXPIRE (R448): REMAIN_S has reached 0. -/
def execLeaseExpire (e : Fin 1024) (s : State) : Host.Outcome State Fault Refusal :=
  .next (if airOn s && leased s e.val && decide (getF s (leaseRemain e.val) = 0) then
    dropLease e.val (bump 0x30404C s)
  else s)

/-- FRAME_COUNTER_EXHAUST (R441, R442). -/
def execFrameCounterExhaust (s : State) : Host.Outcome State Fault Refusal :=
  .next (if airOn s && decide (0xFFFF0000 ≤ s.air.fc.toNat) then newEpoch s else s)

/-- R452: a read of AIR_ASN_LO. -/
def latchAsn (r : Nat) (s : State) : State :=
  let asn := (radioOf s r).asn.toNat
  { setR (airReg r 0x10) (w32 (asn / 2 ^ 32)) s with hostData := [w32 asn] }

/-- AIR_ASN_READ (R452): the read latches AIR_ASN_HI; while AIR is OFF it returns 0 (R33). -/
def execAirAsnRead (route : Route) (r : Fin 4) (s : State) : Host.Outcome State Fault Refusal :=
  .next (readBy route (fun s => if airOn s then latchAsn r.val s else { s with hostData := [0] }) s)

end Sys2Proof.Machine
end

