-- ==== Sys2Proof/Machine/Sha.lean ====
section
/-! DEFINITION. SHA-256 (FIPS 180-4), HMAC (RFC 2104) and HKDF (RFC 5869) over it, which R119, R139, R447, R551, R554, R556 and
R562 name. -/

namespace Sys2Proof.Machine

/-- The round constants. -/
def shaK : List Word :=
  [0x428a2f98, 0x71374491, 0xb5c0fbcf, 0xe9b5dba5, 0x3956c25b, 0x59f111f1, 0x923f82a4, 0xab1c5ed5,
   0xd807aa98, 0x12835b01, 0x243185be, 0x550c7dc3, 0x72be5d74, 0x80deb1fe, 0x9bdc06a7, 0xc19bf174,
   0xe49b69c1, 0xefbe4786, 0x0fc19dc6, 0x240ca1cc, 0x2de92c6f, 0x4a7484aa, 0x5cb0a9dc, 0x76f988da] ++
  [0x983e5152, 0xa831c66d, 0xb00327c8, 0xbf597fc7, 0xc6e00bf3, 0xd5a79147, 0x06ca6351, 0x14292967,
   0x27b70a85, 0x2e1b2138, 0x4d2c6dfc, 0x53380d13, 0x650a7354, 0x766a0abb, 0x81c2c92e, 0x92722c85,
   0xa2bfe8a1, 0xa81a664b, 0xc24b8b70, 0xc76c51a3, 0xd192e819, 0xd6990624, 0xf40e3585, 0x106aa070] ++
  [0x19a4c116, 0x1e376c08, 0x2748774c, 0x34b0bcb5, 0x391c0cb3, 0x4ed8aa4a, 0x5b9cca4f, 0x682e6ff3,
   0x748f82ee, 0x78a5636f, 0x84c87814, 0x8cc70208, 0x90befffa, 0xa4506ceb, 0xbef9a3f7, 0xc67178f2]

/-- The chaining value: eight words. -/
structure ShaSt where
  a : Word := 0x6a09e667
  b : Word := 0xbb67ae85
  c : Word := 0x3c6ef372
  d : Word := 0xa54ff53a
  e : Word := 0x510e527f
  f : Word := 0x9b05688c
  g : Word := 0x1f83d9ab
  h : Word := 0x5be0cd19
  deriving DecidableEq, Repr

/-- A word of four bytes, the first highest. -/
def beWord32 : List Byte → Word
  | b0 :: b1 :: b2 :: b3 :: _ => ((b0 ++ b1) ++ b2) ++ b3
  | _ => 0

/-- The bytes of a word, the highest first. -/
def beBytes32 (w : Word) : List Byte := [(w >>> 24).setWidth 8, (w >>> 16).setWidth 8, (w >>> 8).setWidth 8, w.setWidth 8]

/-- The next words of the message schedule, from the last sixteen, the oldest first. -/
def shaSchedule : Nat → List Word → List Word
  | 0, _ => []
  | n + 1, ws =>
    let s := fun i => ws.getD i 0
    let s0 := (s 1).rotateRight 7 ^^^ (s 1).rotateRight 18 ^^^ (s 1 >>> 3)
    let s1 := (s 14).rotateRight 17 ^^^ (s 14).rotateRight 19 ^^^ (s 14 >>> 10)
    s 0 :: shaSchedule n (ws.drop 1 ++ [s 0 + s0 + s 9 + s1])

/-- One round, with its constant plus schedule word. -/
def shaRound (x : ShaSt) (kw : Word) : ShaSt :=
  let s1 := x.e.rotateRight 6 ^^^ x.e.rotateRight 11 ^^^ x.e.rotateRight 25
  let ch := (x.e &&& x.f) ^^^ (~~~x.e &&& x.g)
  let t1 := x.h + s1 + ch + kw
  let s0 := x.a.rotateRight 2 ^^^ x.a.rotateRight 13 ^^^ x.a.rotateRight 22
  let maj := (x.a &&& x.b) ^^^ (x.a &&& x.c) ^^^ (x.b &&& x.c)
  { a := t1 + (s0 + maj), b := x.a, c := x.b, d := x.c, e := x.d + t1, f := x.e, g := x.f, h := x.g }

/-- One block of 64 bytes. -/
def shaBlock (x : ShaSt) (block : List Byte) : ShaSt :=
  let ws := shaSchedule 64 ((List.range 16).map (fun i => beWord32 (block.drop (4 * i))))
  let y := (List.zipWith (· + ·) shaK ws).foldl shaRound x
  { a := x.a + y.a, b := x.b + y.b, c := x.c + y.c, d := x.d + y.d, e := x.e + y.e, f := x.f + y.f, g := x.g + y.g, h := x.h + y.h }

/-- A padded message of n blocks. -/
def shaBlocks : Nat → ShaSt → List Byte → ShaSt
  | 0, x, _ => x
  | n + 1, x, m => shaBlocks n (shaBlock x (m.take 64)) (m.drop 64)

/-- SHA-256 of a byte string: 32 bytes. (log 142 PRESUMED) -/
def sha256 (m : List Byte) : List Byte :=
  let zeros := (119 - m.length % 64) % 64
  let padded := m ++ [0x80] ++ List.replicate zeros 0 ++ (leBytes 8 (8 * m.length)).reverse
  let x := shaBlocks (padded.length / 64) {} padded
  [x.a, x.b, x.c, x.d, x.e, x.f, x.g, x.h].flatMap beBytes32

/-- HMAC-SHA-256 of a message under a key. -/
def hmac (key m : List Byte) : List Byte :=
  let k := if 64 < key.length then sha256 key else key
  let k := k ++ List.replicate (64 - k.length) 0
  sha256 (k.map (· ^^^ 0x5C) ++ sha256 (k.map (· ^^^ 0x36) ++ m))

/-- The blocks of HKDF's output from T(i) on. -/
def hkdfBlocks (prk info : List Byte) : Nat → Nat → List Byte → List Byte
  | 0, _, _ => []
  | n + 1, i, prev =>
    let t := hmac prk (prev ++ info ++ [BitVec.ofNat 8 i])
    t ++ hkdfBlocks prk info n (i + 1) t

/-- HKDF-SHA-256 of input key material, a salt, an info string and a length. (log 142 PRESUMED) -/
def hkdf (ikm salt info : List Byte) (len : Nat) : List Byte :=
  (hkdfBlocks (hmac salt ikm) info ((len + 31) / 32) 1 []).take len

end Sys2Proof.Machine
end

