-- ==== Sys2Proof/Machine/P256.lean ====
section
/-! DEFINITION. ECDSA over P-256 (FIPS 186-4) with SHA-256 digests, and its deterministic nonce (RFC 6979), which R119, R139, R549,
R556 and R562 name. Byte strings are in SEC 1 order, the highest byte first. -/

namespace Sys2Proof.Machine

/-- The field, the order, and the curve's b. -/
def p256Field : Nat := 0xFFFFFFFF00000001000000000000000000000000FFFFFFFFFFFFFFFFFFFFFFFF
def p256Order : Nat := 0xFFFFFFFF00000000FFFFFFFFFFFFFFFFBCE6FAADA7179E84F3B9CAC2FC632551
def p256B : Nat := 0x5AC635D8AA3A93E7B3EBBD55769886BC651D06B0CC53B0F63BCE3C3E27D2604B

/-- A point: its coordinates; none at infinity. -/
abbrev Point := Option (Nat × Nat)

/-- The base point. -/
def p256G : Point := some
  (0x6B17D1F2E12C4247F8BCE6E563A440F277037D812DEB33A0F4A13945D898C296,
   0x4FE342E2FE1A7F9B8EE7EB4A7C0F9E162BCE33576B315ECECBB6406837BF51F5)

/-- x to the power e, modulo m, over the low `n` bits of e. -/
def powMod (m : Nat) : Nat → Nat → Nat → Nat
  | 0, _, _ => 1
  | n + 1, x, e =>
    let r := powMod m n (x * x % m) (e / 2)
    if e % 2 = 1 then x * r % m else r

/-- The inverse modulo a prime of at most 256 bits. -/
def invMod (m x : Nat) : Nat := powMod m 256 (x % m) (m - 2)

/-- a − b in the field. -/
def fsub (a b : Nat) : Nat := (a + (p256Field - b % p256Field)) % p256Field

/-- The point on the line of slope k through two points. -/
def onLine (k x1 y1 x2 : Nat) : Point :=
  let x := fsub (k * k) (x1 + x2)
  some (x, fsub (k * fsub x1 x) y1)

/-- Twice a point. -/
def pdouble : Point → Point
  | none => none
  | some (x, y) =>
    if y = 0 then none
    else onLine (fsub (3 * (x * x)) 3 * invMod p256Field (2 * y) % p256Field) x y x

/-- The sum of two points. -/
def padd : Point → Point → Point
  | none, q => q
  | p, none => p
  | some (x1, y1), some (x2, y2) =>
    if x1 = x2 then (if y1 = y2 then pdouble (some (x1, y1)) else none)
    else onLine (fsub y2 y1 * invMod p256Field (fsub x2 x1) % p256Field) x1 y1 x2

/-- A multiple of a point, over the low `n` bits of k. -/
def pmul : Nat → Nat → Point → Point
  | 0, _, _ => none
  | n + 1, k, p =>
    let q := pmul n (k / 2) (pdouble p)
    if k % 2 = 1 then padd p q else q

/-- A number from bytes, the highest first. -/
def beNat (b : List Byte) : Nat := b.foldl (fun n x => 256 * n + x.toNat) 0

/-- A number as 32 bytes, the highest first. -/
def be32 (n : Nat) : List Byte := (leBytes 32 n).reverse

/-- The public key of a private scalar, X then Y; none where the scalar is out of range. (log 142 PRESUMED) -/
def ecdsaPub (d : List Byte) : Option (List Byte) :=
  let k := beNat d
  if k = 0 ∨ p256Order ≤ k then none
  else match pmul 256 k p256G with
    | some (x, y) => some (be32 x ++ be32 y)
    | none => none

/-- The verdict on a signature r, s of a digest under a public key X, Y. (log 142 PRESUMED) -/
def ecdsaVerify (pub digest sig : List Byte) : Bool :=
  let x := beNat (pub.take 32)
  let y := beNat (pub.drop 32)
  let r := beNat (sig.take 32)
  let s := beNat (sig.drop 32)
  if p256Field ≤ x ∨ p256Field ≤ y ∨ y * y % p256Field ≠ (x * x * x + (p256Field - 3) * x + p256B) % p256Field then false
  else if r = 0 ∨ p256Order ≤ r ∨ s = 0 ∨ p256Order ≤ s then false
  else
    let w := invMod p256Order s
    match padd (pmul 256 (beNat digest * w % p256Order) p256G) (pmul 256 (r * w % p256Order) (some (x, y))) with
    | some (v, _) => decide (v % p256Order = r)
    | none => false

/-- The signature of a digest e with nonce k; none where either half is 0. -/
def signWith (d e k : Nat) : Option (List Byte) :=
  match pmul 256 k p256G with
  | none => none
  | some (x, _) =>
    let r := x % p256Order
    let s := invMod p256Order k * (e + r * d) % p256Order
    if r = 0 ∨ s = 0 then none else some (be32 r ++ be32 s)

/-- RFC 6979: candidates for the nonce from K and V, until one serves. -/
def nonceLoop (d e : Nat) : Nat → List Byte → List Byte → Option (List Byte)
  | 0, _, _ => none
  | n + 1, k, v =>
    let v := hmac k v
    let c := beNat v
    let sig := if c = 0 ∨ p256Order ≤ c then none else signWith d e c
    match sig with
    | some x => some x
    | none =>
      let k := hmac k (v ++ [0])
      nonceLoop d e n k (hmac k v)

/-- The signature of a 32-byte digest with a private scalar: r then s; none where the scalar is out of range, or no one of 256
candidates serves. (log 142 PRESUMED) -/
def ecdsaSign (d digest : List Byte) : Option (List Byte) :=
  let x := beNat d
  let e := beNat digest
  if x = 0 ∨ p256Order ≤ x then none
  else
    let h := be32 x ++ be32 (e % p256Order)
    let v := List.replicate 32 1
    let k := hmac (List.replicate 32 0) (v ++ [0] ++ h)
    let v := hmac k v
    let k := hmac k (v ++ [1] ++ h)
    nonceLoop x e 256 k (hmac k v)

end Sys2Proof.Machine
end

