-- ==== Sys2Proof/Machine/KeyOps.lean ====
section
/-! DEFINITION. The key store: descriptors, the derivation tree, the judgement of a slot, key clearing, and zeroisation
(R547 to R564). -/

namespace Sys2Proof.Machine

/-- The words of a descriptor (R565), and its fields. -/
def keyW0 (n : Nat) : Nat := 0x40400 + 8 * n
def keyW1 (n : Nat) : Nat := 0x40404 + 8 * n
def keyState (s : State) (n : Nat) : Nat := getF s ⟨keyW0 n, 0, 2⟩
def keyType (s : State) (n : Nat) : Nat := getF s ⟨keyW0 n, 2, 2⟩
def keyUsage (s : State) (n i : Nat) : Bool := flag s ⟨keyW0 n, 4 + i, 1⟩
def keyParent (s : State) (n : Nat) : Nat := getF s ⟨keyW0 n, 10, 7⟩
def keyDepth (s : State) (n : Nat) : Nat := getF s ⟨keyW0 n, 17, 3⟩
def keyGen (s : State) (n : Nat) : Nat := getF s ⟨keyW1 n, 0, 8⟩
def keyPgen (s : State) (n : Nat) : Nat := getF s ⟨keyW1 n, 8, 8⟩

/-- Bits of KEY_STAT and KEY_DBG. -/
def keyBusy : Fld := ⟨0x40000, 0, 1⟩
def keyTamper : Fld := ⟨0x40000, 1, 1⟩
def keyTest : Fld := ⟨0x40000, 2, 1⟩
def keyLost : Fld := ⟨0x40000, 3, 1⟩
def keyOpen : Fld := ⟨0x40000, 4, 1⟩
def dbgOpen : Fld := ⟨0x4010C, 1, 1⟩

/-- The slots. -/
def keySlots : List Nat := List.range 128

/-- The material of a slot: 32 bytes. -/
def material (s : State) (n : Nat) : List Byte := tabGet (fun _ => List.replicate 32 0) s.key.mats n
def setMaterial (n : Nat) (m : List Byte) (s : State) : State :=
  { s with key := { s.key with mats := tabSet (fun _ => List.replicate 32 0) s.key.mats n m } }

/-- R550: every ancestor is VALID and every link's PGEN is its parent's GEN; a tree is at most 8 levels deep. -/
def chainOk (s : State) : Nat → Nat → Bool
  | 0, _ => false
  | k + 1, n =>
    decide (n = 0) || (decide (keyState s (keyParent s n) = 1) && decide (keyPgen s n = keyGen s (keyParent s n)) &&
      chainOk s k (keyParent s n))

/-- R550: the judgement of a slot; none where it is usable. (log 139 DEDUCED) -/
def keyJudge (s : State) (n : Nat) : Option Code :=
  if keyState s n ≠ 1 then some .nokey else if chainOk s 8 n then none else some .orphan

/-- A slot is another, or descends from it. -/
def descends (s : State) (root : Nat) : Nat → Nat → Bool
  | 0, n => decide (n = root)
  | k + 1, n => decide (n = root) || (decide (n ≠ 0) && descends s root k (keyParent s n))

/-- KEY_DATA or KEY_LABEL as bytes: n registers from an offset. -/
def keyBytes (s : State) (off n : Nat) : List Byte := (List.range n).flatMap (fun i => wordBytes (getR s (off + 4 * i)))

/-- KEY_OUT takes bytes; none: it is unpredictable (R556). (log 144 DEDUCED) -/
def keyOut (b : Option (List Byte)) (s : State) : State :=
  match b with
  | some b => each (List.range ((b.length + 3) / 4)) (fun i s =>
      unspoil (0x40080 + 4 * i) (setR (0x40080 + 4 * i) (leWord (b.drop (4 * i))) s)) s
  | none => each (List.range 16) (fun i => spoilReg (0x40080 + 4 * i)) s

/-- R556: an answer; KEY_DONE is raised. (log 140 DEDUCED) -/
def keyAnswer (c : Code) (s : State) : State :=
  raise 13 (unspoilLong 0x40000 (setF ⟨0x40000, 8, 8⟩ c.num s))

/-- Salt of R551 and R554. -/
def zeroSalt : List Byte := List.replicate 32 0

/-- R551: the material derived from a parent's. (log 121 PRESUMED) -/
def deriveMat (parent : List Byte) (type usage : Nat) (label : List Byte) : List Byte :=
  let info : List Byte := [0x50, 0x4B, 0x44, 0x31, BitVec.ofNat 8 type, BitVec.ofNat 8 usage] ++ label
  if type = 3 then
    let z := leNat (hkdf parent zeroSalt info 40).reverse
    (leBytes 32 (z % (p256Order - 1) + 1)).reverse
  else if type = 1 then (hkdf parent zeroSalt info 16) ++ List.replicate 16 0
  else hkdf parent zeroSalt info 32

/-- R554: the join key of an entry. (log 121 PRESUMED) -/
def joinKey (mat : List Byte) (eui : BitVec 64) : List Byte :=
  hkdf mat zeroSalt ([0x51, 0x52, 0x4A, 0x30] ++ leBytes 8 eui.toNat) 16

/-- R447: the link key from the join key. (log 121 PRESUMED) -/
def linkKey (join : List Byte) (eui nonceG nonceM : BitVec 64) (epoch : Word) : List Byte :=
  hkdf join (leBytes 8 nonceG.toNat ++ leBytes 8 nonceM.toNat)
    ([0x51, 0x52, 0x44, 0x31] ++ leBytes 8 eui.toNat ++ wordBytes epoch) 16

/-- R563: the public key of a TYPE 3 key under the test root, while slot 0 is usable (R550); a label of 16 bytes. -/
def testKey (s : State) (label : List Byte) : Option (List Byte) :=
  if keyJudge s 0 = none then ecdsaPub (deriveMat (material s 0) 3 8 label) else none

/-- R551: a slot is filled; GEN wraps from 255 to 1. -/
def fillSlot (n type usage parent depth pgen : Nat) (imported : Bool) (mat : List Byte) (s : State) : State :=
  let g := if keyGen s n = 255 then 1 else keyGen s n + 1
  setR (keyW0 n) (w32 (1 + type * 4 + usage * 16 + b2n imported * 512 + parent * 1024 + depth * 131072))
    (setR (keyW1 n) (w32 (g + pgen * 256)) (setMaterial n mat s))

/-- Keys loaded from slots that `p` selects are cleared in the engines and the tiles (R557, R559). -/
def clearLoaded (p : Nat → Bool) (s : State) : State :=
  let kill := fun (k : Option TileKey) => match k with | some x => if p x.slot then none else k | none => k
  let ls := s.air.leases.filterMap (fun e =>
    let x := e.2
    let st := match x.staged with | some (k, n) => if p k.slot then none else some (k, n) | none => none
    let y : LeaseSt := { x with join := kill x.join, link := kill x.link, staged := st }
    if y = {} then none else some (e.1, y))
  { s with
    air := { s.air with leases := ls }
    key := { s.key with engines := s.key.engines.filter (fun e => (kill e.2).isSome) } }

/-- R557: keys loaded from a destroyed slot or its descendants are cleared, once no operation works on one of them. -/
def purgeKeys (s : State) : State :=
  let held := fun r => match s.key.run with | some x => descends s r 8 x.slot | none => false
  each (s.key.purge.filter (fun r => !held r)) (fun r s => clearLoaded (descends s r 8) s)
    { s with key := { s.key with purge := s.key.purge.filter held } }

/-- R559: every slot is EMPTY and every key is gone; an operation in progress is aborted (R560). (log 140 DEDUCED) -/
def zeroStore (s : State) : State :=
  let s := each keySlots (fun n => setR (keyW0 n) 0) { s with key := { s.key with mats := [], purge := [] } }
  let s := clearLoaded (fun _ => true) s
  match s.key.run with
  | some _ => keyAnswer .nokey (keyOut (some (List.replicate 64 0)) (setB keyBusy false { s with key := { s.key with run := none } }))
  | none => s

/-- R559, R562: a zeroisation is recorded: its cause, the count and the calendar's seconds. -/
def recordZero (cause : Nat) (s : State) : State :=
  setR 0x40108 (getR s 0x3001C) (addF ⟨0x40104, 8, 8⟩ 1 (setF ⟨0x40104, 4, 3⟩ cause s))

/-- R559, R564: debug closes; a challenge not consumed stays good until the next start (R556). (log 165 DESIGN CHOICE) -/
def closeDebug (s : State) : State :=
  setB keyTest false (setB dbgOpen false { s with key := { s.key with bypass := false } })

/-- Thirty-two free bytes. (log 144 DEDUCED) -/
def freeKey (s : State) : List Byte := (List.range 8).flatMap (fun i => wordBytes (Config.freeWord (s.free + i)))

/-- Eight free words as a number: bytes of the carrier's random source, and the state after they are drawn.
(log 50 DESIGN CHOICE) -/
def randomBits (s : State) : Nat × State :=
  (leNat (freeKey s), { s with free := s.free + 8 })

/-- KEY_LABEL and KEY_DATA. -/
def keyWords (s : State) : List Word := (List.range 20).map (fun i => getR s (0x40010 + 4 * i))
def setKeyWords (ws : List Word) (s : State) : State :=
  each (List.range 20) (fun i s => setR (0x40010 + 4 * i) (ws.getD i 0) s) s

/-- R564: TEST ends at a power-on, a brown-out or a module reset: the store is zeroed and J18 closes.
(log 165 DESIGN CHOICE) -/
def endTest (s : State) : State := if flag s keyTest then closeDebug (zeroStore s) else s

/-- The place of a tamper source in KEY_TMP_STAT. -/
def tamperIdx : TamperSrc → Nat
  | .loop0 => 0 | .loop1 => 1 | .mesh => 2

/-- R558: a loop counts while it is armed; the mesh always. -/
def tamperArmed (s : State) (t : TamperSrc) : Bool :=
  match t with | .loop0 => flag s ⟨0x40100, 0, 1⟩ | .loop1 => flag s ⟨0x40100, 1, 1⟩ | .mesh => true

/-- KEY_STAT.OPEN: an open source is left. -/
def showOpen (s : State) : State := setB keyOpen (s.key.outside.any (tamperArmed s)) s

/-- R97: the cores stop in ROM, and CTRL reads HALTED. (log 20 DEDUCED) -/
def haltCores (s : State) : State :=
  let s := setB pwrBusy false { s with sys := { s.sys with start := none, haltDue := false, todo := [], liveWait := false } }
  setF Dom.ctrl.fld 3 (setF stageFld (stageNum .haltTamper) s)

/-- R97, R559, R560: tamper trips. In a start that has not reached READY the cores stop in ROM, at once or when they reach
it. (log 20 DEDUCED, 141 DEDUCED) -/
def tamperTrip (t : TamperSrc) (s : State) : State :=
  let s := raise 12 (setB keyTamper true (recordZero (tamperIdx t + 1) (closeDebug (zeroStore s))))
  if s.sys.start.isSome || (decide (getF s stageFld = stageNum .recovery) && ctrlRun s) then
    if getF s stageFld < 3 then { s with sys := { s.sys with haltDue := true } } else haltCores s
  else s

/-- R558: an arm bit is set; a source whose condition holds already is open from then on. (log 140 DEDUCED) -/
def armLoop (t : TamperSrc) (s : State) : State :=
  let was := tamperArmed s t
  let s := setF ⟨0x40100, tamperIdx t, 1⟩ 1 s
  if !was && s.key.outside.contains t then showOpen (tamperTrip t s) else s

end Sys2Proof.Machine
end

