-- ==== Sys2Proof/Machine/Key.lean ====
section
/-! DEFINITION. The commands of the key store and tamper (R547 to R565). -/

namespace Sys2Proof.Machine

/-- Whether the host issued a command. -/
def fromHost : KeyIssuer → Bool
  | .host _ => true
  | .firmware _ => false

/-- R547: a slot that a host command may not name. (log 139 DEDUCED) -/
def notHosts (who : KeyIssuer) (n : Nat) : Bool := fromHost who && decide (64 ≤ n)

/-- The word of KEY_CMD that an operation's operands make (R565). -/
def keyWord (op : Nat) (a : KeyArgs) : Word :=
  w32 (op + a.slot.toNat * 2 ^ 4 + a.parent.toNat * 2 ^ 12 + a.type.toNat * 2 ^ 20 + a.usage.toNat * 2 ^ 24)

/-- R556: an operation at the key port: BUSY while another runs; `start` answers it, or starts it. -/
def keyPort (start : State → Code × Option KeyRun × State) (s : State) : State :=
  if s.key.run.isSome then keyAnswer .busy s
  else
    let r := start s
    match r.2.1 with
    | some x => setB keyBusy true { r.2.2 with key := { r.2.2.key with run := some x } }
    | none => keyAnswer r.1 r.2.2

/-- R28, R527, R555: an operation is asked for, which KEY_CMD spells as `v`. The host's is answered STATE at once while CTRL is not
RUN, and is held for the twins before READY; in RUN the row is what the twins' requests, then, do. (log 109 DEDUCED) -/
def keyAsk (who : KeyIssuer) (v : Word) (random : Nat) (f : State → State) (s : State) : State :=
  match who with
  | .host c =>
    if !ctrlRun s then keyAnswer .state s
    else if atReady s then byPort false c f s
    else if twinDead s .a && twinDead s .b then s
    else captureReq (.keyCmd v (keyWords s) c random) s
  | .firmware c => byPort false c f s

/-- R555, R556: an operation; firmware may not issue one of the host's. (log 53 DESIGN CHOICE) -/
def keyCommand (who : KeyIssuer) (v : Word) (random : Nat) (hostOnly : Bool) (start : State → Code × Option KeyRun × State)
    (s : State) : State :=
  keyAsk who v random (fun s => if hostOnly && !fromHost who then keyAnswer .state s else keyPort start s) s

/-- The operands of an operation that takes none. -/
def noKeyArgs : KeyArgs := ⟨0, 0, 0, 0⟩

/-- GEN_ROOT (R556, R561, R562). -/
def execGenRoot (who : KeyIssuer) (a : KeyArgs) (random : BitVec 256) (s : State) : Host.Outcome State Fault Refusal :=
  .next (keyCommand who (keyWord 1 a) random.toNat true (fun s =>
    if keyState s 0 = 1 ∨ flag s keyTest = true ∨ flag s keyOpen = true ∨ notHosts who a.slot.toNat = true then (.state, none, s)
    else (.ok, some ⟨.fill 0 0 1 0 0 0 false (leBytes 32 random.toNat), 0⟩, s)) s)

/-- R552: DERIVE and IMPORT: the parent is judged, then the target. (log 139 DEDUCED) -/
def fillLegal (who : KeyIssuer) (a : KeyArgs) (s : State) : Option Code :=
  if notHosts who a.slot.toNat || notHosts who a.parent.toNat then some .state
  else
    match keyJudge s a.parent.toNat with
    | some c => some c
    | none => if keyState s a.slot.toNat = 1 ∨ 6 < keyDepth s a.parent.toNat then some .state else none

/-- What a DERIVE or IMPORT of some material fills. -/
def fillAct (a : KeyArgs) (imported : Bool) (mat : List Byte) (s : State) : KeyRun :=
  ⟨.fill a.slot.toNat a.type.toNat a.usage.toNat a.parent.toNat (keyDepth s a.parent.toNat + 1) (keyGen s a.parent.toNat)
    imported mat, a.parent.toNat⟩

/-- DERIVE (R551, R552): of a parent that is not TYPE 0 with DERIVE, the child's material is any value. (log 144 DEDUCED) -/
def execDerive (who : KeyIssuer) (a : KeyArgs) (s : State) : Host.Outcome State Fault Refusal :=
  .next (keyCommand who (keyWord 2 a) 0 false (fun s =>
    match fillLegal who a s with
    | some c => (c, none, s)
    | none =>
      let p := a.parent.toNat
      if keyType s p = 0 ∧ keyUsage s p 0 = true then
        (.ok, some (fillAct a false (deriveMat (material s p) a.type.toNat a.usage.toNat (keyBytes s 0x40010 4)) s), s)
      else (.ok, some (fillAct a false (freeKey s) s), { s with free := s.free + 8 })) s)

/-- IMPORT (R553). -/
def execImportKey (who : KeyIssuer) (a : KeyArgs) (s : State) : Host.Outcome State Fault Refusal :=
  .next (keyCommand who (keyWord 3 a) 0 false (fun s =>
    match fillLegal who a s with
    | some c => (c, none, s)
    | none => (.ok, some (fillAct a true (keyBytes s 0x40020 8) s), s)) s)

/-- DESTROY (R556, R557): it runs beside an operation in progress. (log 139 DEDUCED) -/
def execDestroy (who : KeyIssuer) (a : KeyArgs) (s : State) : Host.Outcome State Fault Refusal :=
  let n := a.slot.toNat
  .next (keyAsk who (keyWord 4 a) 0 (fun s =>
    if notHosts who n then keyAnswer .state s
    else if keyState s n ≠ 1 then keyAnswer .nokey s
    else
      let s := setF ⟨keyW0 n, 0, 2⟩ 2 (setMaterial n (List.replicate 32 0) s)
      keyAnswer .ok (purgeKeys { s with key := { s.key with purge := s.key.purge ++ [n] } })) s)

/-- SIGN (R556): without SIGN in USAGE, or of a scalar outside 1 to n − 1, KEY_OUT is unpredictable. (log 144 DEDUCED) -/
def execSign (who : KeyIssuer) (a : KeyArgs) (s : State) : Host.Outcome State Fault Refusal :=
  let n := a.slot.toNat
  .next (keyCommand who (keyWord 5 a) 0 false (fun s =>
    if notHosts who n then (.state, none, s)
    else
      match keyJudge s n with
      | some c => (c, none, s)
      | none => (.ok, some ⟨.sign (if keyUsage s n 3 then ecdsaSign (material s n) (keyBytes s 0x40020 8) else none), n⟩, s)) s)

/-- PUBKEY (R556): of a slot that is not TYPE 3, or of a scalar outside 1 to n − 1, KEY_OUT is unpredictable.
(log 144 DEDUCED) -/
def execPubkey (who : KeyIssuer) (a : KeyArgs) (s : State) : Host.Outcome State Fault Refusal :=
  let n := a.slot.toNat
  .next (keyCommand who (keyWord 6 a) 0 false (fun s =>
    if notHosts who n then (.state, none, s)
    else
      match keyJudge s n with
      | some c => (c, none, s)
      | none => (.ok, some ⟨.out (if keyType s n = 3 then ecdsaPub (material s n) else none), n⟩, s)) s)

/-- The key that a LOAD places: the slot's own, a join key from it, or the link key from the entry's join key. -/
def loadKey (s : State) (n : Nat) : LoadDst → List Byte
  | .engine _ _ => material s n
  | .join e => joinKey (material s n) (leaseOf s e).eui
  | .link e g m => linkKey (match (leaseOf s e).join with | some k => k.key | none => []) (leaseOf s e).eui g m s.air.epoch

/-- R549: the USAGE that a destination needs, with the TYPE that its cipher uses. -/
def loadUsage (s : State) (n : Nat) : LoadDst → Bool
  | .engine .ccm _ => decide (keyType s n = 1) && keyUsage s n 1
  | .engine .gcm _ => decide (keyType s n = 2) && keyUsage s n 2
  | _ => keyUsage s n 4

/-- R437, R438: how a LOAD comes to its port: into a tile's key memory by the radio-frame route, which counts a word that differs or
comes alone and takes the read source's. (log 151 DESIGN CHOICE) -/
def loadRoute (who : KeyIssuer) (dst : LoadDst) (s : State) : KeyIssuer × State :=
  match who, dst with
  | .firmware _, .engine _ _ => (who, s)
  | .firmware c, _ =>
    if airOn s && bothInStep s && ctrlRun s then
      match c with
      | .equal => (who, s)
      | .differ => (.firmware .equal, routeDiff (airEvt 0 5 (bump (airCnt 0 12) s)))
      | .alone t => (.firmware .equal, routeMissing t.other (bump (airCnt 0 11) s))
    else (who, s)
  | _, _ => (who, s)

/-- LOAD (R438, R554, R556): the host's is answered STATE. (log 139 DEDUCED) -/
def execLoad (who : KeyIssuer) (a : KeyArgs) (dst : LoadDst) (s : State) : Host.Outcome State Fault Refusal :=
  let n := a.slot.toNat
  let r := loadRoute who dst s
  .next (keyCommand r.1 (keyWord 7 a) 0 false (fun s =>
    if fromHost who then (.state, none, s)
    else
      match keyJudge s n with
      | some c => (c, none, s)
      | none => if loadUsage s n dst then (.ok, some ⟨.load dst (loadKey s n dst), n⟩, s) else (.state, none, s)) r.2)

/-- DISARM (R556, R558). -/
def execDisarm (who : KeyIssuer) (s : State) : Host.Outcome State Fault Refusal :=
  .next (keyCommand who (keyWord 8 noKeyArgs) 0 true (fun s => if keyState s 0 = 1 then (.state, none, s) else (.ok, some ⟨.disarm, 128⟩, s)) s)

/-- DEBUG_CHAL (R556, R562). (log 139 DEDUCED) -/
def execDebugChal (who : KeyIssuer) (random : BitVec 128) (s : State) : Host.Outcome State Fault Refusal :=
  .next (keyCommand who (keyWord 9 noKeyArgs) random.toNat true (fun s =>
    if Config.dbgAllow then
      let b := leBytes 16 random.toNat
      (.ok, some ⟨.out (some b), 128⟩, { s with key := { s.key with chal := some b } })
    else (.state, none, s)) s)

/-- DEBUG_OPEN (R562): the challenge is consumed. -/
def execDebugOpen (who : KeyIssuer) (s : State) : Host.Outcome State Fault Refusal :=
  .next (keyCommand who (keyWord 10 noKeyArgs) 0 true (fun s =>
    match s.key.chal with
    | none => (.state, none, s)
    | some c =>
      let good := ecdsaVerify (Config.authorityKey 2) (sha256 (c ++ leBytes 8 Config.serial.toNat))
        (keyBytes s 0x40020 16)
      (.ok, some ⟨.debug good, 128⟩, { s with key := { s.key with chal := none } })) s)

/-- R562: the test root. -/
def testRoot : List Byte := sha256 ([0x53, 0x54, 0x52, 0x54] ++ leBytes 8 Config.serial.toNat)

/-- R562: debug opens: the store is zeroed, slot 0 holds the test root. (log 165 DESIGN CHOICE) -/
def openDebug (s : State) : State :=
  let s := recordZero 4 (zeroStore s)
  fillSlot 0 0 1 0 0 0 false testRoot (setB keyTest true (setB dbgOpen true s))

/-- A LOAD places its key; RX_FC is reset with a new join key (R443). -/
def placeKey (dst : LoadDst) (k : TileKey) (s : State) : State :=
  match dst with
  | .engine _ n => { s with key := { s.key with engines := tabSet (fun _ => none) s.key.engines n (some k) } }
  | .join e => if airOn s then setR (leaseReg e 3) 0 (setLease e { leaseOf s e with join := some k, mseq := none } s) else s
  | .link e _ m =>
    let src := match (leaseOf s e).join with | some j => j.slot | none => k.slot
    if airOn s then setLease e { leaseOf s e with staged := some ({ k with slot := src }, m) } s else s

/-- R527, R556: the two signatures are compared: where they differ, any value stands in KEY_OUT; where one comes alone, it is taken.
(log 144 DEDUCED) -/
def keySign (c : Copies) (b : Option (List Byte)) (s : State) : State :=
  match c with
  | .equal => keyOut b s
  | .differ => routeDiff (keyOut (if bothInStep s then none else b) s)
  | .alone t => routeMissing t.other (keyOut b s)

/-- What an operation does as it completes, and its answer. (log 140 DEDUCED) -/
def keyFinish (x : KeyRun) (c : Copies) (s : State) : Code × State :=
  match x.act with
  | .fill n t u p d g i m => (.ok, fillSlot n t u p d g i m s)
  | .out b => (.ok, keyOut b s)
  | .sign b => (.ok, keySign c b s)
  | .load dst k => (.ok, placeKey dst ⟨k, x.slot⟩ s)
  | .disarm => (.ok, showOpen (setF ⟨0x40100, 0, 2⟩ 0 s))
  | .debug good => if good then (.ok, openDebug s) else (.denied, s)

/-- KEY_OP_DONE (R556, R557). (log 10 DESIGN CHOICE) -/
def execKeyOpDone (c : Copies) (s : State) : Host.Outcome State Fault Refusal :=
  .next (match s.key.run with
    | none => s
    | some x =>
      let s := setB keyBusy false { s with key := { s.key with run := none } }
      let r := keyFinish x c s
      keyAnswer r.1 (purgeKeys r.2))

/-- TAMPER_TRIP (R558 to R560): a source's condition begins; it trips where the source counts, once at each onset. -/
def execTamperTrip (t : TamperSrc) (s : State) : Host.Outcome State Fault Refusal :=
  .next (if s.key.outside.contains t then s
    else
      let s := setF ⟨0x40104, tamperIdx t, 1⟩ 0 { s with key := { s.key with outside := t :: s.key.outside } }
      if tamperArmed s t then showOpen (tamperTrip t s) else s)

/-- TAMPER_SOURCE_CLOSE (R561). (log 141 DEDUCED) -/
def execTamperSourceClose (t : TamperSrc) (s : State) : Host.Outcome State Fault Refusal :=
  .next (showOpen (setF ⟨0x40104, tamperIdx t, 1⟩ 1 { s with key := { s.key with outside := s.key.outside.filter (· ≠ t) } }))

/-! ### KEY_CMD (R555, R565) -/

/-- The operands that KEY_CMD carries (R565). -/
def keyArgs (v : Word) : KeyArgs :=
  ⟨BitVec.ofNat 7 (getBits v 4 7), BitVec.ofNat 7 (getBits v 12 7), BitVec.ofNat 2 (getBits v 20 2),
    BitVec.ofNat 5 (getBits v 24 5)⟩

/-- The operation that a word of KEY_CMD names, on the present KEY_LABEL and KEY_DATA. -/
def keyOp (v : Word) (c : Copies) (random : Nat) (s : State) : Host.Outcome State Fault Refusal :=
  let a := keyArgs v
  match getBits v 0 4 with
  | 1 => execGenRoot (.host c) a (BitVec.ofNat 256 random) s
  | 2 => execDerive (.host c) a s
  | 3 => execImportKey (.host c) a s
  | 4 => execDestroy (.host c) a s
  | 5 => execSign (.host c) a s
  | 6 => execPubkey (.host c) a s
  | 7 => execLoad (.host c) a (.engine .ccm 0) s
  | 8 => execDisarm (.host c) s
  | 9 => execDebugChal (.host c) (BitVec.ofNat 128 random) s
  | 10 => execDebugOpen (.host c) s
  | _ => .next s

/-- R555: the twins issue a host key command on the labels and operands captured with it. -/
def takeKey (v : Word) (ws : List Word) (c : Copies) (random : Nat) (s : State) : State :=
  setKeyWords (keyWords s) (after (keyOp v c random (setKeyWords ws s)) s)

end Sys2Proof.Machine
end

