-- ==== Sys2Proof/Machine/StgOps.lean ====
section
/-! DEFINITION. The STAGED slots of the image store and of the firmware store: their operations, staging writes, and the
verification of an image (R114 to R118, R139 to R143, R153 to R155, R567, R575). -/

namespace Sys2Proof.Machine

/-- The slot state of a store. -/
def staging (s : State) : StoreId → Staging
  | .image => s.img.stg
  | .firmware => s.upd.stg
def setStaging (d : StoreId) (x : Staging) (s : State) : State :=
  match d with
  | .image => { s with img := { s.img with stg := x } }
  | .firmware => { s with upd := { s.upd with stg := x } }

/-- The size of a slot (R114, R567). -/
def stgLimit : StoreId → Nat
  | .image => 163840
  | .firmware => 90112

/-- The physical slot that is STAGED. -/
def stgIdx (s : State) : StoreId → Bool
  | .image => stagedIdx s
  | .firmware => !s.upd.slot

/-- The bytes and the committed length of a slot. -/
def fwSlot (s : State) (b : Bool) : Tab Byte := if b then s.upd.slot1 else s.upd.slot0
def imgLen (s : State) (b : Bool) : Nat := if b then s.img.len1 else s.img.len0
def fwLen (s : State) (b : Bool) : Nat := if b then s.upd.len1 else s.upd.len0

/-- The STAGED slot's bytes are replaced. -/
def setStaged (d : StoreId) (t : Tab Byte) (s : State) : State :=
  match d, stgIdx s d with
  | .image, false => { s with img := { s.img with slot0 := t } }
  | .image, true => { s with img := { s.img with slot1 := t } }
  | .firmware, false => { s with upd := { s.upd with slot0 := t } }
  | .firmware, true => { s with upd := { s.upd with slot1 := t } }
def stagedOf (s : State) : StoreId → Tab Byte
  | .image => imgSlot s (stagedIdx s)
  | .firmware => fwSlot s (!s.upd.slot)

/-- The STAGED slot's committed length. -/
def setStagedLen (d : StoreId) (n : Nat) (s : State) : State :=
  match d, stgIdx s d with
  | .image, false => { s with img := { s.img with len0 := n } }
  | .image, true => { s with img := { s.img with len1 := n } }
  | .firmware, false => { s with upd := { s.upd with len0 := n } }
  | .firmware, true => { s with upd := { s.upd with len1 := n } }

/-- BUSY, RESULT and ERR of IMG_STAT and UPD_STAT, and the registers of staging. -/
def stgBusy : StoreId → Fld
  | .image => ⟨0x10004, 1, 1⟩
  | .firmware => ⟨0x50004, 0, 1⟩
def stgResult : StoreId → Fld
  | .image => ⟨0x10004, 8, 8⟩
  | .firmware => ⟨0x50004, 16, 8⟩
def stgBase : StoreId → Nat
  | .image => 0x10000
  | .firmware => 0x50000
def stgOff (s : State) (d : StoreId) : Nat := (getR s (stgBase d + 8)).toNat
def stgLenReg (s : State) (d : StoreId) : Nat := (getR s (stgBase d + 0x10)).toNat

/-- The answer of an operation; IMG_DONE is raised at every one (R155). (log 33 DEDUCED, 160 DESIGN CHOICE) -/
def stgAnswer (d : StoreId) (c : Code) (s : State) : State :=
  let s := setF (stgResult d) c.num s
  match d with
  | .image => raise 14 s
  | .firmware => s

/-- R155, R567: the answer to BEGIN, COMMIT or ABORT from a party, by the slot's state. -/
def stgJudge (d : StoreId) (who : Party) (wantOpen : Bool) (s : State) : Code :=
  let x := staging s d
  if flag s (stgBusy d) then .busy
  else
    match x.st with
    | .opened => if x.owner ≠ who then .busy else if wantOpen then .ok else .state
    | .pending => .state
    | _ => if wantOpen || (decide (d = .firmware) && s.upd.trial) then .state else .ok

/-- BEGIN (R153, R575): the slot is OPEN and zeroing runs; of firmware, BACKUP is cleared. Answers the code. -/
def stgBegin (d : StoreId) (who : Party) (s : State) : Code × State :=
  let c := stgJudge d who false s
  if c = .ok then
    let s := setB (stgBusy d) true (setStaging d ⟨.opened, who, true, []⟩ s)
    let s := match d with
      | .firmware => { s with upd := { s.upd with backup := false } }
      | .image => s
    (c, stgAnswer d c s)
  else (c, stgAnswer d c s)

/-- COMMIT with a length (R142, R155, R575). (log 33 DEDUCED) -/
def stgCommit (d : StoreId) (who : Party) (len : Nat) (s : State) : Code × State :=
  let c := stgJudge d who true s
  if c = .ok then
    let s := setStagedLen d len (setStaging d { staging s d with st := .pending } s)
    (c, stgAnswer d c (match d with | .firmware => raise 15 s | .image => s))
  else (c, stgAnswer d c s)

/-- ABORT (R155, R575). (log 33 DEDUCED) -/
def stgAbort (d : StoreId) (who : Party) (s : State) : Code × State :=
  let c := stgJudge d who true s
  if c = .ok then
    let s := setStaging d { staging s d with st := .empty } s
    (c, stgAnswer d c (match d with | .firmware => raise 15 s | .image => s))
  else (c, stgAnswer d c s)

/-- DISCARD (R155, R575). -/
def stgDiscard (d : StoreId) (s : State) : State :=
  if flag s (stgBusy d) then stgAnswer d .busy s
  else
    match (staging s d).st with
    | .pending | .rejected => stgAnswer d .ok (setStaging d { staging s d with st := .empty } s)
    | _ => stgAnswer d .state s

/-- Bytes of a staging write into the STAGED slot; those beyond its end are ignored. -/
def stgStore (d : StoreId) (off : Nat) (bs : List Byte) (s : State) : State :=
  setStaged d (tabPut zeroByte (stagedOf s d) off (bs.take (stgLimit d - off))) s

/-- R153, R154: a staging write from a party; while zeroing runs it is held. Answers whether the slot takes it. -/
def stgWrite (d : StoreId) (who : Party) (off : Nat) (bs : List Byte) (s : State) : Bool × State :=
  let x := staging s d
  if x.st = .opened ∧ x.owner = who ∧ off < stgLimit d then
    (true, if x.zeroing then setStaging d { x with held := x.held ++ [(off, bs)] } s else stgStore d off bs s)
  else (false, s)

/-- R153: a host write of the data register: four bytes at the offset, which then advances. -/
def stgData (d : StoreId) (v : Word) (s : State) : State :=
  let off := stgOff s d
  let r := stgWrite d .host off (wordBytes v) s
  if r.1 then setR (stgBase d + 8) (w32 ((off + 4) % 2 ^ 18)) r.2 else r.2

/-- R153: zeroing is complete: the held writes are applied in order. -/
def stgZeroed (d : StoreId) (s : State) : State :=
  let x := staging s d
  if x.zeroing then
    let s := setStaged d [] (setStaging d { x with zeroing := false, held := [] } s)
    setB (stgBusy d) false (each x.held (fun e => stgStore d e.1 e.2) s)
  else s

/-- R28, R154, R575: an operation of one of the registers' issuers: the hierarchy's is a word of the twins at the control port. -/
def stgIssue (who : StgIssuer) (f : Party → State → Code × State) (s : State) : State :=
  if !ctrlOn s then s
  else
    match who with
    | .host => (f .host s).2
    | .recovery => (f .recovery s).2
    | .hier c => byPort false c (fun s => (f .hier s).2) s

/-! ### Verification (R139 to R142) -/

/-- The first failure in a list of checks; ERR 0 where all pass. An offset that no rule fixes is none.
(log 156 DESIGN CHOICE) -/
def firstErr : List (Bool × Nat × Option Nat) → Nat × Option Nat
  | [] => (0, some 0)
  | (bad, e) :: t => if bad then e else firstErr t

/-- UPD_VERSION: the running firmware's. -/
def fwVersion (s : State) : Nat := getF s ⟨0x50014, 0, 24⟩

/-- R140, R572: a certificate signed by an authority, or, while debug is open, by the test root. The label has 16 bytes. -/
def certGood (s : State) (authority : Nat) (label : List Byte) (cert sig : List Byte) : Bool :=
  ecdsaVerify (Config.authorityKey authority) (sha256 cert) sig ||
    (flag s keyTest && (match testKey s label with | some k => ecdsaVerify k (sha256 cert) sig | none => false))

/-- R140: it is the test root alone that accepts it. -/
def certTest (s : State) (authority : Nat) (label : List Byte) (cert sig : List Byte) : Bool :=
  !ecdsaVerify (Config.authorityKey authority) (sha256 cert) sig && certGood s authority label cert sig

/-- "IMAGE TEST CERT" and "FW TEST CERT", padded to 16 bytes (R563, R572). -/
def imageLabel : List Byte :=
  [0x49, 0x4D, 0x41, 0x47, 0x45, 0x20, 0x54, 0x45, 0x53, 0x54, 0x20, 0x43, 0x45, 0x52, 0x54, 0]
def fwLabel : List Byte := [0x46, 0x57, 0x20, 0x54, 0x45, 0x53, 0x54, 0x20, 0x43, 0x45, 0x52, 0x54, 0, 0, 0, 0]

/-- R139: the signature checks common to images and manifests: SIG block at b, the whole of n bytes. (log 32 DEDUCED) -/
def sigChecks (s : State) (t : Tab Byte) (n authority : Nat) (label : List Byte) : List (Bool × Nat × Option Nat) :=
  let b := n - 216
  [(!certGood s authority label (bytesAt t (b + 8) 80) (bytesAt t (b + 88) 64), 3, some (b + 88)),
   (!ecdsaVerify (bytesAt t (b + 24) 64) (sha256 (bytesAt t 0 (n - 64))) (bytesAt t (b + 152) 64), 4,
     some (b + 152))]

/-- R119, R120, R139: the marks of a signature block at b. -/
def sigMarks (t : Tab Byte) (b : Nat) : List (Bool × Nat × Option Nat) :=
  [(decide (leAt t b 4 ≠ 0x4E474953), 2, some b), (decide (leAt t (b + 4) 2 ≠ 216), 2, some (b + 4))]

/-- R1, R120, R570: HW_TYPE, VARIANTS and the unit's serial. (log 2 DESIGN CHOICE) -/
def unitChecks (s : State) (t : Tab Byte) : List (Bool × Nat × Option Nat) :=
  [(decide (leAt t 16 4 ≠ 0x6464), 6, some 16), (!(byteAt t 20).testBit (b2n s.fitS0), 6, some 20),
   ((byteAt t 14).testBit 0 && decide (leAt t 24 8 ≠ Config.serial.toNat), 7, some 24)]

/-- R121, R142 step 10: the directory entries in order; `prev`: the last TYPE and the end of what precedes.
(log 32 DEDUCED) -/
def dirChecks (sig : Nat) : Nat → Option Nat → Nat → List DirEntry → List (Bool × Nat × Option Nat)
  | _, _, _, [] => []
  | at', ty, fin, e :: es =>
    [(match ty with | some x => decide (e.type ≤ x) | none => false, 0xA, some at'),
     (decide (e.ver ≠ 1), 0xA, some (at' + 1)),
     (decide (e.off % 8 ≠ 0) || decide (e.off < fin), 0xA, some (at' + 4)),
     (decide (sig < e.off + e.len), 0xA, some (at' + 8))] ++
    dirChecks sig (at' + 16) (some e.type) (e.off + e.len) es

/-- R122: REC_LEN and the greatest COUNT of a defined panel type; the least is 1, of PORT 4. -/
def panelShape (type : Nat) : Option (Nat × Nat × Nat) :=
  match type with
  | 1 => some (24, 1, 64) | 2 => some (128, 1, 1) | 3 => some (16, 4, 4) | 4 => some (8, 1, 2048) | 5 => some (8, 1, 40)
  | 6 => some (24, 1, 1024) | 7 => some (16, 1, 128) | 8 => some (16, 1, 4) | 9 => some (0, 1, 32) | 10 => some (8, 1, 1024)
  | _ => none

/-- R137: the descriptors of a SLOT panel. (log 32 DEDUCED) -/
def slotChecks (t : Tab Byte) (e : DirEntry) : List (Bool × Nat × Option Nat) :=
  (decide (e.len < 16 * e.count), 0xC, none) ::
  (List.range e.count).map (fun j =>
    let d := e.off + 16 * j
    (decide (leAt t (d + 8) 4 < 16 * e.count) || decide (e.len < leAt t (d + 8) 4 + 8 * leAt t (d + 6) 2), 0xC, some (d + 8)))

/-- R142 step 12 for one entry at an offset. (log 32 DEDUCED) -/
def panelChecks (t : Tab Byte) (at' : Nat) (e : DirEntry) : List (Bool × Nat × Option Nat) :=
  if 0x80 ≤ e.type then []
  else
    match panelShape e.type with
    | none => [(true, 0xC, some at')]
    | some (r, lo, hi) =>
      [(decide (e.count < lo) || decide (hi < e.count), 0xC, some (at' + 12)), (decide (e.recLen ≠ r), 0xC, some (at' + 14)),
       (decide (e.type ≠ 9) && decide (e.len ≠ e.count * r), 0xC, some (at' + 8))] ++
      (if e.type = 9 then slotChecks t e else [])

/-- R142: the verification of an image with its committed length: ERR and the offset at fault.
(log 32 DEDUCED, 157 DESIGN CHOICE) -/
def imgVerify (s : State) (t : Tab Byte) (committed : Nat) : Nat × Option Nat :=
  let n := leAt t 8 4
  if n ≠ committed ∨ n % 8 ≠ 0 ∨ n < 344 ∨ 163840 < n then (1, some 8)
  else
    let b := n - 216
    let ds := directory t
    firstErr (
      [(decide (leAt t 0 4 ≠ 0x43525453), 2, some 0), (decide (leAt t 4 2 ≠ 1), 2, some 4),
       (decide (leAt t 6 2 ≠ 128), 2, some 6)] ++ sigMarks t b ++ sigChecks s t n 0 imageLabel ++
      [(decide (leAt t (b + 12) 4 ≠ 0) && decide (leAt t (b + 12) 4 ≠ leAt t 44 4), 5, some (b + 12)),
       (decide (leAt t 36 4 < leAt t (b + 16) 4), 5, none)] ++ unitChecks s t ++
      [(decide (fwVersion s < leAt t 32 4 % 2 ^ 24), 8, some 32), (decide (leAt t 36 4 < s.img.floor.toNat), 9, some 36),
       (decide (b < 128 + 16 * ds.length), 0xA, some 12)] ++ dirChecks b 128 none (128 + 16 * ds.length) ds ++
      [([1, 2, 3, 4, 10].any (fun k => !ds.any (fun e => decide (e.type = k))), 0xB, none)] ++
      (ds.zipIdx.flatMap (fun e => panelChecks t (128 + 16 * e.2) e.1)))

/-- R142: the report of a verification. (log 32 DEDUCED, 156 DESIGN CHOICE, 160 DESIGN CHOICE) -/
def imgReport (r : Nat × Option Nat) (s : State) : State :=
  let off := match r.2 with | some o => o | none => freeBelow 0x3FFFF s
  let s := if r.2.isNone then drawn s else s
  setF (stgResult .image) (if r.1 = 0 then Code.ok.num else Code.denied.num)
    (setF ⟨0x10004, 16, 8⟩ r.1 (setR 0x10040 (w32 off) s))

end Sys2Proof.Machine
end

