-- ==== Sys2Proof/Machine/RegWrite.lean ====
section
/-! DEFINITION. What a host write does to the fields of a register by their access codes (R6 to R8, R10). -/

namespace Sys2Proof.Machine

/-- The block of an offset is sealed (R145). -/
def sealedAt (s : State) (off : Nat) : Bool := match blockOf off with | some b => isSealed s b | none => false

/-- The bits a host write stores: RW, and RWL until sealing (R6). -/
def rwMask (s : State) (off : Nat) : Nat :=
  accMask (fun a => decide (a = .rw) || (decide (a = .rwl) && !sealedAt s off)) off

/-- The value of a register after a host write of v; `setNow`: the W1C bits that the module asserts in the same cycle
(R10). -/
def writtenValue (s : State) (off : Nat) (v setNow : Word) : Word :=
  let d := v &&& w32 (definedMask off)
  let old := getR s (regHome off)
  let rw := w32 (rwMask s off)
  let s1 := w32 (accMask (fun a => decide (a = .w1s)) off)
  let c1 := w32 (accMask (fun a => decide (a = .w1c)) off)
  ((((old &&& ~~~rw) ||| (d &&& rw)) ||| (d &&& s1)) &&& ~~~(d &&& c1)) ||| (setNow &&& c1)

/-- R452: the cell entry that a register of the cell window shows: the page that PAGE names. -/
def cellIndex (s : State) (off : Nat) : Nat := getF s ⟨0x304010, 0, 2⟩ * 2048 + (off - 0x30C000) / 8

/-- Where the unpredictable bits of the register at `off` are kept; for the cell window, beside the entry that it shows. -/
def spoilKey (s : State) (off : Nat) : Nat :=
  if 0x30C000 ≤ off ∧ off < 0x310000 then 0x1000000 + 8 * cellIndex s off + off % 8 else regHome off

/-- R8, R21: a write of a register ends what is unpredictable in it, or makes all of it so where it writes 1 to a reserved field. -/
def writeScope (off : Nat) (v : Word) (s : State) : State :=
  if v &&& ~~~(w32 (definedMask off)) = 0 then unspoil (spoilKey s off) s else spoil (spoilKey s off) (readMask off) s

/-- R6 to R8, R10, R21: a host write of a register, without what the write commands. -/
def writeReg (off : Nat) (v setNow : Word) (s : State) : State :=
  writeScope off v (setR (regHome off) (writtenValue s off v setNow) s)

end Sys2Proof.Machine
end

