-- ==== Sys2Proof/Machine/Drv.lean ====
section
/-! DEFINITION. The commands of the channel drive (R220 to R252). -/

namespace Sys2Proof.Machine

/-- The channel's slice is powered. (log 61 DEDUCED) -/
def chPowered (s : State) (n : Nat) : Bool := driveOn s && !s.drv.lost.contains (n / 8)

/-- Ends the ramp or soft-start of a channel at its end value (R230, R237). -/
def finishRamp (x : Slice) : Slice :=
  match x.ramp with
  | none => x
  | some r =>
    let y := { x with work := r.c1, ramp := none, leftSoft := x.leftSoft || r.soft, blank := x.blank || r.soft }
    if r.c1 = 0 then { (stageOff .bias y) with biased := true, fresh := false } else { y with st := .run }

/-- DRV_CH_SET (R227): the write is stored, and captured with DRV_CH_RAMP for both twins. -/
def execDrvChSet (ch : Fin 64) (v : Word) (s : State) : Host.Outcome State Fault Refusal :=
  .next (if driveOn s then
    captureReq (.drvReq ch.val (v.setWidth 16) ((getR s (chReg ch.val 4)).setWidth 16) (bitOf (getR s (chReg ch.val 4)) 16))
      (writeReg (chReg ch.val 0) v 0 s)
  else s)

/-- Removes the oldest reference on the bus for a channel. -/
def takeBus (n : Nat) : List (Nat × Ref) → Option (Ref × List (Nat × Ref))
  | [] => none
  | e :: es => if e.1 = n then some (e.2, es) else (takeBus n es).map (fun r => (r.1, e :: r.2))

/-- REFERENCE_ARRIVAL (R223 to R226, R233): the oldest reference on its way to the channel reaches the slices. -/
def execReferenceArrival (ch : Fin 64) (us : List Nat) (s : State) : Host.Outcome State Fault Refusal :=
  .next (match takeBus ch.val s.drv.bus with
    | some (r, bus) =>
      let s := { s with drv := { s.drv with bus := bus } }
      if chPowered s ch.val then arrive ch.val us r s else s
    | none => s)

/-- RAMP_END (R230, R237). -/
def execRampEnd (ch : Fin 64) (s : State) : Host.Outcome State Fault Refusal :=
  let x := slice s ch.val
  .next (match x.ramp with
    | some r => if r.soft && decide (r.c1 ≠ 0) then s else noteBlank ch.val (setSlice ch.val (finishRamp x) s)
    | none => s)

/-- SOFT_START_END (R237): the soft-start reaches its end. -/
def execSoftStartEnd (ch : Fin 64) (s : State) : Host.Outcome State Fault Refusal :=
  .next (if (slice s ch.val).st = .soft then noteBlank ch.val (setSlice ch.val (finishRamp (slice s ch.val)) s) else s)

/-- BIAS_ESTABLISHED (R237): a held non-zero reference begins; in a probe, once the probe ends. -/
def execBiasEstablished (ch : Fin 64) (s : State) : Host.Outcome State Fault Refusal :=
  .next (match (slice s ch.val).st with
    | .bias => noteBlank ch.val (setSlice ch.val (fromBias { slice s ch.val with biased := true }) s)
    | .probe => setSlice ch.val { slice s ch.val with biased := true } s
    | _ => s)

/-- R240: the verdict on a window: some true Open, some false Short, none Good. -/
def windowVerdict (vsh vop loop vMv iCode : Nat) : Option Bool :=
  if loop = 0 then none
  else if vop ≠ 0 ∧ vop ≤ vMv ∧ 2 * iCode < loop then some true
  else if vsh ≠ 0 ∧ vMv < vsh ∧ loop ≤ 2 * iCode then some false
  else none

/-- R242, R237: a fault is qualified: its bit and count; an open, or a short with stop action, stops the channel. -/
def qualified (n : Nat) (opened : Bool) (s : State) : State :=
  let s := addF ⟨chReg n 0x30, if opened then 0 else 8, 8⟩ 1 (setFault n (if opened then 0 else 1) s)
  if (opened || flag s ⟨chReg n 0x24, 4, 1⟩) && decide ((slice s n).st = .run) then
    setSlice n (stageOff .stopped (slice s n)) s
  else s

/-- R240 to R242: the end of a window with loop reference `loop`. (log 180 DESIGN CHOICE) -/
def judgeWindow (n loop vMv iCode : Nat) (s : State) : State :=
  let x := slice s n
  let blanked := x.blank || departed x loop s.sys.k || decide (x.st = .soft)
  let next := { x with blank := x.leftSoft || decide (x.st = .soft), leftSoft := false, winLoop := loop, winK := s.sys.k }
  if blanked then setSlice n next s
  else
    match windowVerdict (vShort s n) (vOpen s n) loop vMv iCode with
    | none => setSlice n { next with verdict := none, qcount := 0 } s
    | some v =>
      let q := if x.verdict = some v then x.qcount + 1 else 1
      if getF s ⟨chReg n 0x24, 0, 4⟩ ≤ q then
        qualified n v (setSlice n { next with verdict := some v, qcount := 0 } s)
      else setSlice n { next with verdict := some v, qcount := q } s

/-- MEAS_WINDOW_END (R240 to R244): the window's means are reported and judged.
(log 8 DESIGN CHOICE, 10 DESIGN CHOICE, 178 DESIGN CHOICE) -/
def execMeasWindowEnd (ch : Fin 64) (vMv iCode : Nat) (s : State) : Host.Outcome State Fault Refusal :=
  .next (if !chPowered s ch.val then s else
    let n := ch.val
    let s := capture (.chMeas n vMv iCode) (setR (chReg n 0x2C) (w32 (min 65535 vMv + min 65535 iCode * 2 ^ 16)) s)
    let loop := loopRef s n (workFree s n)
    let draws := (slice s n).ramp.isSome || (slice s n).clamp
    judgeWindow n loop vMv iCode (if draws then drawn (drawn s) else s))

/-- R245: a channel in BIAS starts a probe. -/
def startProbe (n : Nat) (s : State) : State := detectLatent n (setSlice n { slice s n with st := .probe } s)

/-- PROBE_DUE (R239, R245, R246, R248): PROBE_S has passed with PROBE 1, or 1 s after a failed probe. A channel that runs from
the safe-level record has no probes. -/
def execProbeDue (ch : Fin 64) (s : State) : Host.Outcome State Fault Refusal :=
  let x := slice s ch.val
  let periodic := flag s ⟨chReg ch.val 8, 1, 1⟩ && decide (getF s ⟨chReg ch.val 0x24, 16, 8⟩ ≠ 0)
  .next (if decide (x.st = .bias) && !fromSafe s ch.val && (x.failRun || periodic) then startProbe ch.val s else s)

/-- PROBE_NOW (R245): whatever PROBE holds, but not on a channel that runs from the safe-level record. -/
def execProbeNow (ch : Fin 64) (s : State) : Host.Outcome State Fault Refusal :=
  let x := slice s ch.val
  .next (if decide (x.st = .bias) && !fromSafe s ch.val then startProbe ch.val s else s)

/-- R245: the judgement of a probe: none passes, some true fails Open, some false fails Short. -/
def probeVerdict (vsh vop vMv iUa : Nat) : Option Bool :=
  if vsh ≠ 0 ∧ vMv < vsh then some false
  else if 1600 ≤ iUa ∧ (vop = 0 ∨ vMv < vop) then none
  else some true

/-- PROBE_END (R245, R246): the second of two consecutive failures is reported. -/
def execProbeEnd (ch : Fin 64) (vMv iUa : Nat) (s : State) : Host.Outcome State Fault Refusal :=
  let n := ch.val
  let x := slice s n
  .next (if x.st = .probe then
    let y := fromBias { x with st := .bias }
    match probeVerdict (vShort s n) (vOpen s n) vMv iUa with
    | none => noteBlank n (setSlice n { y with failRun := false } s)
    | some opened =>
      if x.failRun then
        addF ⟨chReg n 0x30, 24, 8⟩ 1 (setFault n (if opened then 2 else 3)
          (noteBlank n (setSlice n { y with failRun := false } s)))
      else noteBlank n (setSlice n { y with failRun := true } s)
  else s)

/-- RETRY_DUE (R237, R247): the retry probe in STOPPED; one pass returns the channel to BIAS. -/
def execRetryDue (ch : Fin 64) (vMv iUa : Nat) (s : State) : Host.Outcome State Fault Refusal :=
  let n := ch.val
  .next (if decide ((slice s n).st = .stopped) && decide (getF s ⟨chReg n 0x24, 8, 8⟩ ≠ 0) then
    let s := detectLatent n (setSlice n { slice s n with retry := true } s)
    let s := setSlice n { slice s n with retry := false } s
    if probeVerdict (vShort s n) (vOpen s n) vMv iUa = none then biasOrWait n true false s else s
  else s)

/-- CLEAR (R237, R244): DRV_CH_CTL.CLEAR restarts the channel from STOPPED or DEAD. -/
def execClear (ch : Fin 64) (s : State) : Host.Outcome State Fault Refusal :=
  .next (match (slice s ch.val).st with
    | .stopped => biasOrWait ch.val true false s
    | .dead => biasOrWait ch.val false true s
    | _ => s)

/-- PHASE_RETRY (R251, R237): failed phases return to service; from DEAD the channel returns to BIAS. -/
def execPhaseRetry (ch : Fin 64) (s : State) : Host.Outcome State Fault Refusal :=
  .next (if !chPowered s ch.val then s
    else if (slice s ch.val).st = .dead then biasOrWait ch.val false true s
    else setSlice ch.val { slice s ch.val with phaseA := true, phaseB := true } s)

/-- PHASE_FAULT (R249, R250): detected while the stage switches, else when it next does. -/
def execPhaseFault (ch : Fin 64) (phaseB : Bool) (s : State) : Host.Outcome State Fault Refusal :=
  let x := slice s ch.val
  .next (if chPowered s ch.val && switching x then openPhase ch.val phaseB s
    else setSlice ch.val (if phaseB then { x with latentB := true } else { x with latentA := true }) s)

/-- PWR_CLAMP (R220): the power clamp begins, or ceases, to reduce the loop reference. (log 66 DESIGN CHOICE) -/
def execPwrClamp (ch : Fin 64) (engaged : Bool) (s : State) : Host.Outcome State Fault Refusal :=
  let x := slice s ch.val
  .next (if engaged then
      (if (decide (x.st = .soft) || decide (x.st = .run)) && !x.clamp then
        setFault ch.val 7 (noteBlank ch.val (setSlice ch.val { x with clamp := true } s)) else s)
    else noteBlank ch.val (setSlice ch.val { x with clamp := false } s))

/-- KYOVI_LOSS (R252): the die's eight channels stop, and its chain port with them. (log 61 DEDUCED) -/
def execKyoviLoss (die : Fin 8) (s : State) : Host.Outcome State Fault Refusal :=
  .next (if driveOn s && !s.drv.lost.contains die.val then
    let s := { s with drv := { s.drv with lost := die.val :: s.drv.lost } }
    rewriteReport (each (List.range 8) (fun i s => setSlice (8 * die.val + i) (stageOff .off (slice s (8 * die.val + i))) s) s)
  else s)

end Sys2Proof.Machine
end

