-- ==== Sys2Proof/Machine/Chn.lean ====
section
/-! DEFINITION. The chain ports (R257 to R274): words, frames, the return check and the length measurement. -/

namespace Sys2Proof.Machine

/-- The register at offset `o` of chain port `k` (R273). -/
def chnReg (k o : Nat) : Nat := 0x110000 + 0x1000 * k + o

/-- A chain port's state. -/
def chain (s : State) (k : Nat) : ChainSt := tabGet (fun _ => {}) s.chain k

/-- Sets a chain port's state. -/
def setChain (k : Nat) (x : ChainSt) (s : State) : State := { s with chain := tabSet (fun _ => {}) s.chain k x }

/-- Fields of CHN_PORT_CFG and CHN_PORT_STAT. -/
def chnEnable (s : State) (k : Nat) : Bool := flag s ⟨chnReg k 0, 0, 1⟩
def chnDrivers (s : State) (k : Nat) : Nat := getF s ⟨chnReg k 0, 8, 8⟩
def chnFields (s : State) (k : Nat) : Nat := getF s ⟨chnReg k 0, 16, 3⟩
def chnActive (k : Nat) : Fld := ⟨chnReg k 0x14, 0, 1⟩
def chnMeasuring (k : Nat) : Fld := ⟨chnReg k 0x14, 1, 1⟩
def chnChecked (k : Nat) : Fld := ⟨chnReg k 0x14, 2, 1⟩
def chnReady (k : Nat) : Fld := ⟨chnReg k 0x14, 3, 1⟩

/-- R274: the port's configuration gives unpredictable words. A port that nothing has configured holds no error (R603), whose
fields are all 0. (log 168 DEDUCED) -/
def chnBad (s : State) (k : Nat) : Bool :=
  (decide (getR s (chnReg k 0) ≠ 0) || decide (getR s (chnReg k 4) ≠ 0)) && (decide (chnFields s k < 2) || decide (4 < chnFields s k) || decide (chnDrivers s k = 0) ||
    decide (128 < chnDrivers s k) || decide (getF s ⟨chnReg k 4, 0, 16⟩ = 0))

/-- The port is powered: DRIVE is not OFF and its die, 2k, is not lost (R25, R252). -/
def chnUp (s : State) (k : Nat) : Bool := driveOn s && !s.drv.lost.contains (2 * k)

/-- The word of a position. -/
def chainWord (x : ChainSt) (d : Nat) : BitVec 48 := tabGet (fun _ => 0) x.words d

/-- CHN_FAULTk is raised while the faults meet their enables (R272). -/
def chnFaultIrq (k : Nat) (s : State) : State := if levelCond s (96 + k) then raise (96 + k) s else s

/-- Sets CHN_PORT_FAULT bit i. -/
def setChnFault (k i : Nat) (s : State) : State := chnFaultIrq k (setF ⟨chnReg k 0x18, i, 1⟩ 1 s)

/-- R266: READY is set once the mitre has passed a word for every position since ENABLE rose. -/
def judgeReady (k : Nat) (s : State) : State :=
  if chnEnable s k && (List.range (chnDrivers s k)).all (fun d => (chain s k).passed.contains d) then setB (chnReady k) true s
  else s

/-- R258, R264: the mitre passes a word to a position. -/
def passWord (k d : Nat) (w : BitVec 48) (s : State) : State :=
  let x := chain s k
  let passed := if x.passed.contains d then x.passed else d :: x.passed
  judgeReady k (setChain k { x with words := tabSet (fun _ => 0) x.words d w, newWord := true, passed := passed } s)

/-- R266, R269: ENABLE rises. (log 67 DEDUCED) -/
def chnEnableRise (k : Nat) (s : State) : State :=
  let x := { chain s k with
    passed := [], newWord := false, refresh := false, reshift := false, skip := true, owed := true }
  setB (chnReady k) false (setChain k x s)

/-- R268: DRIVE goes to OFF: a frame or a measurement stops without a latch pulse. (log 183 DESIGN CHOICE) -/
def chnFall (k : Nat) (s : State) : State :=
  let skip := (chain s k).skip || flag s (chnActive k) || flag s (chnMeasuring k)
  let s := setChain k { chain s k with shifting := [], measReq := false, skip := skip } s
  setB (chnActive k) false (setB (chnMeasuring k) false s)

/-- The words of a frame in shift order, position DRIVERS − 1 first (R261). -/
def frameWords (s : State) (k : Nat) : List (BitVec 48) :=
  (List.range (chnDrivers s k)).reverse.map (chainWord (chain s k))

/-- R274: free words in place of those of a bad configuration. -/
def freeWords (n : Nat) (s : State) : List (BitVec 48) :=
  (List.range n).map (fun i => Config.freeWord (s.free + 2 * i + 1) ++ (Config.freeWord (s.free + 2 * i)).setWidth 16)

/-- The bits of a word in shift order (R261). -/
def wordBits (msb : Bool) (w : BitVec 48) : List Bool :=
  (List.range 48).map (fun i => w.getLsbD (if msb then 47 - i else i))

/-- R262: the divider D. -/
def chnDiv (khz : Nat) : Nat := max 8 ((200000 + khz - 1) / khz)

/-- R262: CHN_PORT_STAT.DIV shows the divider in use; with CLK_KHZ 0 there is none, and it shows anything (R274).
(log 168 DEDUCED, 181 DESIGN CHOICE) -/
def showDiv (k : Nat) (s : State) : State :=
  let khz := getF s ⟨chnReg k 4, 0, 16⟩
  if khz = 0 then drawn (setF ⟨chnReg k 0x14, 16, 11⟩ (freeOf s).toNat s) else setF ⟨chnReg k 0x14, 16, 11⟩ (chnDiv khz) s

/-- R264: a frame starts. -/
def startFrame (k : Nat) (s : State) : State :=
  let ws := if chnBad s k then freeWords (frameWords s k).length s else frameWords s k
  let s := if chnBad s k then { s with free := s.free + 2 * (frameWords s k).length } else s
  let s := setChain k { chain s k with
    newWord := false, refresh := false, reshift := false, shifting := ws
    msb := flag s ⟨chnReg k 0, 2, 1⟩, skip := false, skipNow := (chain s k).skip } s
  showDiv k (setB (chnActive k) true s)

/-- R264: the conditions of a frame. -/
def frameDue (s : State) (k : Nat) : Bool :=
  chnEnable s k && chnUp s k && !flag s (chnActive k) && !flag s (chnMeasuring k) && flag s (chnReady k) &&
    ((chain s k).newWord || (chain s k).refresh || (chain s k).reshift)

/-- The first index at which two bit sequences differ. -/
def firstDiff : List Bool → List Bool → Nat → Option Nat
  | a :: as, b :: bs, i => if a = b then firstDiff as bs (i + 1) else some i
  | _, _, _ => none

/-- Whether a bit sequence holds one level throughout. (log 68 DESIGN CHOICE) -/
def oneLevel : List Bool → Bool
  | [] => true
  | b :: bs => bs.all (fun c => c == b)

/-- R269, R270: the return check of the frame that ends. (log 68 DESIGN CHOICE) -/
def returnCheck (k : Nat) (ret : List Bool) (s : State) : State :=
  let x := chain s k
  let want := x.prev.flatMap (wordBits x.prevMsb)
  if flag s ⟨chnReg k 0, 1, 1⟩ && !x.skipNow then
    let s := setB (chnChecked k) true s
    if oneLevel ret && !oneLevel want then addF ⟨chnReg k 0x28, 8, 8⟩ 1 (setChnFault k 1 s)
    else
      match firstDiff want ret 0 with
      | none => s
      | some i =>
        let s := setF ⟨chnReg k 0x20, 0, 13⟩ i (setF ⟨chnReg k 0x20, 16, 8⟩ (chnDrivers s k - 1 - i / 48) s)
        addF ⟨chnReg k 0x28, 0, 8⟩ 1 (setChnFault k 0 s)
  else setB (chnChecked k) false s

/-- The words last latched, as CHN_DRV_WORD reports them; `ws` in shift order. -/
def latchWords (k : Nat) (ws : List (BitVec 48)) (s : State) : State :=
  each ws.reverse.zipIdx (fun e s =>
    setR (chnReg k (0x404 + 8 * e.2)) ((e.1 >>> 32).setWidth 32) (setR (chnReg k (0x400 + 8 * e.2)) (e.1.setWidth 32) s)) s

/-- R271: a measurement starts once no frame runs. -/
def startMeasure (k : Nat) (s : State) : State :=
  if (chain s k).measReq && !flag s (chnActive k) then
    showDiv k (setB (chnMeasuring k) true (setChain k { chain s k with measReq := false } s))
  else s

/-- CHN_DRV_SET (R260): a write of CHN_DRV_SET_HI captures the pair. -/
def execChnDrvSet (k : Fin 4) (d : Fin 128) (v : Word) (s : State) : Host.Outcome State Fault Refusal :=
  .next (if driveOn s then
    let s := writeReg (chnReg k.val (0x804 + 8 * d.val)) v 0 s
    captureReq (.chnReq k.val d.val (v.setWidth 16 ++ getR s (chnReg k.val (0x800 + 8 * d.val)))) s
  else s)

/-- CHAIN_FRAME_START (R261 to R264). -/
def execChainFrameStart (k : Fin 4) (s : State) : Host.Outcome State Fault Refusal :=
  .next (if frameDue s k.val then startFrame k.val s else s)

/-- CHAIN_LATCH (R262, R269, R270): the drivers latch, the return is checked, CHN_DONE is raised.
(log 68 DESIGN CHOICE, 182 DESIGN CHOICE) -/
def execChainLatch (k : Fin 4) (ret : List Bool) (s : State) : Host.Outcome State Fault Refusal :=
  .next (if flag s (chnActive k.val) && chnUp s k.val then
    let ws := (chain s k.val).shifting
    let msb := (chain s k.val).msb
    let s := returnCheck k.val ret (latchWords k.val ws (setB (chnActive k.val) false s))
    let s := setChain k.val { chain s k.val with shifting := [], prev := ws, prevMsb := msb } s
    startMeasure k.val (raise (100 + k.val) (bump (chnReg k.val 0x24) (emit (.chain k.val (ws.flatMap (wordBits msb))) s)))
  else s)

/-- CHAIN_REFRESH_DUE (R264, R265): during a frame it is an overrun. -/
def execChainRefreshDue (k : Fin 4) (s : State) : Host.Outcome State Fault Refusal :=
  .next (if chnEnable s k.val && chnUp s k.val && decide (getF s ⟨chnReg k.val 8, 0, 16⟩ ≠ 0) then
    let s := setChain k.val { chain s k.val with refresh := true } s
    if flag s (chnActive k.val) then addF ⟨chnReg k.val 0x28, 16, 8⟩ 1 (setChnFault k.val 4 s) else s
  else s)

/-- RESHIFT (R264, R266): ignored until READY. -/
def execReshift (k : Fin 4) (s : State) : Host.Outcome State Fault Refusal :=
  .next (if chnUp s k.val && flag s (chnReady k.val) then setChain k.val { chain s k.val with reshift := true } s else s)

/-- MEASURE (R271): ignored while a measurement runs. -/
def execMeasure (k : Fin 4) (s : State) : Host.Outcome State Fault Refusal :=
  .next (if chnUp s k.val && !flag s (chnMeasuring k.val) then
    startMeasure k.val (setChain k.val { chain s k.val with measReq := true } s)
  else s)

/-- The end of a measurement: one frame follows, and is not compared (R269, R271). -/
def endMeasure (k : Nat) (s : State) : State :=
  setB (chnMeasuring k) false (setChain k { chain s k with reshift := true, skip := true } s)

/-- MEASURE_DONE (R271): RET shows the marker after E rising edges. -/
def execMeasureDone (k : Fin 4) (edges : Nat) (s : State) : Host.Outcome State Fault Refusal :=
  .next (if flag s (chnMeasuring k.val) then
    let s := setF ⟨chnReg k.val 0x14, 8, 8⟩ (edges / 48) (endMeasure k.val s)
    if decide (edges % 48 ≠ 0) || decide (edges / 48 ≠ chnDrivers s k.val) then setChnFault k.val 3 s else s
  else s)

/-- MEASURE_NORET (R271): 8,192 edges pass without the marker. (log 67 DEDUCED) -/
def execMeasureNoret (k : Fin 4) (s : State) : Host.Outcome State Fault Refusal :=
  .next (if flag s (chnMeasuring k.val) then setChnFault k.val 2 (endMeasure k.val s) else s)

end Sys2Proof.Machine
end

