-- ==== Sys2Proof/Machine/Img.lean ====
section
/-! DEFINITION. The commands of the image store (R153 to R155). -/

namespace Sys2Proof.Machine

/-- IMG_BEGIN (R153 to R155). -/
def execImgBegin (who : StgIssuer) (s : State) : Host.Outcome State Fault Refusal :=
  .next (stgIssue who (fun p s => stgBegin .image p s) s)

/-- IMG_BEGIN_DONE (R153). -/
def execImgBeginDone (s : State) : Host.Outcome State Fault Refusal := .next (stgZeroed .image s)

/-- IMG_COMMIT (R155). -/
def execImgCommit (who : StgIssuer) (s : State) : Host.Outcome State Fault Refusal :=
  .next (stgIssue who (fun p s => stgCommit .image p (stgLenReg s .image) s) s)

/-- IMG_ABORT (R155). -/
def execImgAbort (who : StgIssuer) (s : State) : Host.Outcome State Fault Refusal :=
  .next (stgIssue who (fun p s => stgAbort .image p s) s)

/-- IMG_VERIFY (R155). -/
def execImgVerify (s : State) : Host.Outcome State Fault Refusal :=
  .next (if !ctrlOn s then s
    else if flag s (stgBusy .image) then stgAnswer .image .busy s
    else if s.img.stg.st = .pending then
      setB (stgBusy .image) true { s with img := { s.img with verifying := true } }
    else stgAnswer .image .state s)

/-- IMG_VERIFY_DONE (R142, R155). -/
def execImgVerifyDone (s : State) : Host.Outcome State Fault Refusal :=
  .next (if s.img.verifying then
    let r := imgVerify s (stagedImg s) (imgLen s (stagedIdx s))
    raise 14 (imgReport r (setB (stgBusy .image) false { s with img := { s.img with verifying := false } }))
  else s)

/-- IMG_DISCARD (R155). -/
def execImgDiscard (s : State) : Host.Outcome State Fault Refusal := .next (if ctrlOn s then stgDiscard .image s else s)

/-- IMG_STG_DATA (R153, R154). -/
def execImgStgData (v : Word) (s : State) : Host.Outcome State Fault Refusal :=
  .next (if ctrlOn s then stgData .image v s else s)

end Sys2Proof.Machine
end

