-- ==== Sys2Proof/Machine/Inflate.lean ====
section
/-! DEFINITION. DEFLATE expansion (RFC 1951), which R571 names. -/

namespace Sys2Proof.Machine

/-- The bits of a byte string, each byte's lowest first. -/
def bitsOf (b : List Byte) : List Bool := b.flatMap (fun x => (List.range 8).map x.getLsbD)

/-- A number from bits, the lowest first. -/
def bitsNat : List Bool → Nat
  | [] => 0
  | b :: t => (if b then 1 else 0) + 2 * bitsNat t

/-- The next n bits as a number, and what follows; none where they are missing. -/
def takeBits (n : Nat) (bs : List Bool) : Option (Nat × List Bool) :=
  if bs.length < n then none else some (bitsNat (bs.take n), bs.drop n)

/-- A prefix code: each used symbol with its length and code. -/
abbrev Prefix := List (Nat × Nat × Nat)

/-- The first code of each length, from the code and count of the length before. -/
def firstCode (lens : List Nat) : Nat → Nat
  | 0 => 0
  | n + 1 => 2 * (firstCode lens n + (if n = 0 then 0 else (lens.filter (· = n)).length))

/-- The code that symbol lengths give. -/
def prefixOf (lens : List Nat) : Prefix :=
  (List.range 16).flatMap (fun n =>
    if n = 0 then []
    else (((lens.zipIdx.filter (fun e => decide (e.1 = n))).map (·.2)).zipIdx).map (fun e => (e.1, n, firstCode lens n + e.2)))

/-- The next symbol of a code: the bits so far as a number, the highest first, and their count. -/
def readSym (p : Prefix) : Nat → Nat → Nat → List Bool → Option (Nat × List Bool)
  | 0, _, _, _ => none
  | _ + 1, _, _, [] => none
  | k + 1, n, c, b :: bs =>
    let c := 2 * c + (if b then 1 else 0)
    match p.find? (fun e => decide (e.2.1 = n + 1) && decide (e.2.2 = c)) with
    | some e => some (e.1, bs)
    | none => readSym p k (n + 1) c bs

/-- Lengths and distances: the base and the extra bits of a symbol. -/
def lenBase : List (Nat × Nat) :=
  [(3, 0), (4, 0), (5, 0), (6, 0), (7, 0), (8, 0), (9, 0), (10, 0), (11, 1), (13, 1), (15, 1), (17, 1), (19, 2), (23, 2), (27, 2),
   (31, 2), (35, 3), (43, 3), (51, 3), (59, 3), (67, 4), (83, 4), (99, 4), (115, 4), (131, 5), (163, 5), (195, 5), (227, 5), (258, 0)]
def distBase : List (Nat × Nat) :=
  [(1, 0), (2, 0), (3, 0), (4, 0), (5, 1), (7, 1), (9, 2), (13, 2), (17, 3), (25, 3), (33, 4), (49, 4), (65, 5), (97, 5), (129, 6),
   (193, 6), (257, 7), (385, 7), (513, 8), (769, 8), (1025, 9), (1537, 9), (2049, 10), (3073, 10), (4097, 11), (6145, 11),
   (8193, 12), (12289, 12), (16385, 13), (24577, 13)]

/-- A base with its extra bits. -/
def readBase (t : List (Nat × Nat)) (i : Nat) (bs : List Bool) : Option (Nat × List Bool) :=
  match t[i]? with
  | none => none
  | some (b, n) =>
    match takeBits n bs with
    | some (x, r) => some (b + x, r)
    | none => none

/-- n bytes from `dist` back; `out` has the latest byte first. -/
def copyBack : Nat → Nat → List Byte → List Byte
  | 0, _, out => out
  | n + 1, dist, out => copyBack n dist (out.getD (dist - 1) 0 :: out)

/-- The symbols of a compressed block up to its end. -/
def readBlock (lit dist : Prefix) : Nat → List Bool → List Byte → Option (List Bool × List Byte)
  | 0, _, _ => none
  | k + 1, bs, out =>
    match readSym lit 15 0 0 bs with
    | none => none
    | some (v, bs) =>
      if v < 256 then readBlock lit dist k bs (BitVec.ofNat 8 v :: out)
      else if v = 256 then some (bs, out)
      else
        match readBase lenBase (v - 257) bs with
        | none => none
        | some (n, bs) =>
          match readSym dist 15 0 0 bs with
          | none => none
          | some (d, bs) =>
            match readBase distBase d bs with
            | none => none
            | some (d, bs) => if out.length < d then none else readBlock lit dist k bs (copyBack n d out)

/-- The fixed codes. -/
def fixedLit : Prefix :=
  prefixOf (List.replicate 144 8 ++ List.replicate 112 9 ++ List.replicate 24 7 ++ List.replicate 8 8)
def fixedDist : Prefix := prefixOf (List.replicate 30 5)

/-- The order of the lengths of the code of lengths. -/
def clenOrder : List Nat := [16, 17, 18, 0, 8, 7, 9, 6, 10, 5, 11, 4, 12, 3, 13, 2, 14, 1, 15]

/-- k numbers of three bits. -/
def threes : Nat → List Bool → Option (List Nat × List Bool)
  | 0, bs => some ([], bs)
  | k + 1, bs =>
    match takeBits 3 bs with
    | none => none
    | some (x, bs) => match threes k bs with | some (xs, r) => some (x :: xs, r) | none => none

/-- `want` code lengths, coded by the code of lengths; `acc` has those read. -/
def readLens (p : Prefix) (want : Nat) : Nat → List Nat → List Bool → Option (List Nat × List Bool)
  | 0, _, _ => none
  | k + 1, acc, bs =>
    if acc.length = want then some (acc, bs)
    else if want < acc.length then none
    else
      match readSym p 7 0 0 bs with
      | none => none
      | some (v, bs) =>
        if v < 16 then readLens p want k (acc ++ [v]) bs
        else
          let n := if v = 16 then 2 else if v = 17 then 3 else 7
          match takeBits n bs with
          | none => none
          | some (x, bs) =>
            if v = 16 ∧ acc = [] then none
            else readLens p want k (acc ++ List.replicate (x + (if v = 18 then 11 else 3)) (if v = 16 then acc.getLastD 0 else 0)) bs

/-- A block with codes of its own. -/
def dynBlock (fuel : Nat) (bs : List Bool) (out : List Byte) : Option (List Bool × List Byte) :=
  match takeBits 14 bs with
  | none => none
  | some (h, bs) =>
    let nl := h % 32 + 257
    let nd := h / 32 % 32 + 1
    match threes (h / 1024 + 4) bs with
    | none => none
    | some (cl, bs) =>
      let lens := (List.range 19).map (fun i => match (clenOrder.zip cl).find? (fun e => decide (e.1 = i)) with | some e => e.2 | none => 0)
      match readLens (prefixOf lens) (nl + nd) 400 [] bs with
      | none => none
      | some (ls, bs) => readBlock (prefixOf (ls.take nl)) (prefixOf (ls.drop nl)) fuel bs out

/-- A stored block, whose bytes begin at a byte boundary. -/
def storedBlock (bs : List Bool) (out : List Byte) : Option (List Bool × List Byte) :=
  match takeBits 32 (bs.drop (bs.length - bs.length / 8 * 8)) with
  | none => none
  | some (h, bs) =>
    let n := h % 65536
    if n + h / 65536 ≠ 65535 ∨ bs.length < 8 * n then none
    else some (bs.drop (8 * n), ((List.range n).map (fun i => BitVec.ofNat 8 (bitsNat ((bs.drop (8 * i)).take 8)))).reverse ++ out)

/-- Blocks up to the final one. -/
def inflateBlocks (total : Nat) : Nat → List Bool → List Byte → Option (List Byte)
  | 0, _, _ => none
  | k + 1, bs, out =>
    match takeBits 3 bs with
    | none => none
    | some (h, bs) =>
      let r := match h / 2 with
        | 0 => storedBlock bs out
        | 1 => readBlock fixedLit fixedDist (total + 1) bs out
        | 2 => dynBlock (total + 1) bs out
        | _ => none
      match r with
      | none => none
      | some (bs, out) => if h % 2 = 1 then some out.reverse else inflateBlocks total k bs out

/-- The expansion of a compressed byte string; none where it is malformed. (log 142 PRESUMED) -/
def inflate (b : List Byte) : Option (List Byte) :=
  let bs := bitsOf b
  inflateBlocks bs.length (bs.length + 1) bs []

end Sys2Proof.Machine
end

