-- ==== Sys2Proof/Machine/UpdOps.lean ====
section
/-! DEFINITION. The firmware store: manifests, the choice of the firmware to run, trials, entry to recovery, and the
settings records (R567 to R588). -/

namespace Sys2Proof.Machine

/-! ### Manifests (R569 to R573) -/

/-- A component's directory entry (R571). -/
structure FwComp where
  type : Nat
  defl : Bool
  off  : Nat
  len  : Nat
  load : Nat
  deriving DecidableEq, Repr

/-- The directory of a manifest. -/
def fwDir (t : Tab Byte) : List FwComp :=
  (List.range (leAt t 12 2)).map (fun i =>
    let o := 64 + 16 * i
    ⟨byteAt t o, (byteAt t (o + 1)).testBit 0, leAt t (o + 4) 4, leAt t (o + 8) 4, leAt t (o + 12) 4⟩)

/-- LOAD_LEN limits; 0 for a type that is not listed. -/
def compLimit (type : Nat) : Nat :=
  match type with | 1 => 1048576 | 2 => 1048576 | 3 => 1048576 | 4 => 4096 | 5 => 16384 | _ => 0

/-- The bytes of a component as loaded. -/
def compBytes (t : Tab Byte) (c : FwComp) : Option (List Byte) :=
  if c.defl then inflate (bytesAt t c.off c.len) else some (bytesAt t c.off c.len)

/-- Step 9 for the components in order. -/
def compChecks (t : Tab Byte) (sig : Nat) : Nat → Nat → Nat → List FwComp → List (Bool × Nat × Option Nat)
  | _, _, _, [] => []
  | at', ty, fin, c :: cs =>
    [(decide (c.type ≤ ty) || decide (compLimit c.type = 0), 0xA, some at'),
     (decide (c.off % 8 ≠ 0) || decide (c.off < fin), 0xA, some (at' + 4)), (decide (sig < c.off + c.len), 0xA, some (at' + 8)),
     (decide (compLimit c.type < c.load) || (c.defl && decide ((compBytes t c).map List.length ≠ some c.load)), 0xA, some (at' + 12))] ++
    compChecks t sig (at' + 16) c.type (c.off + c.len) cs

/-- R573: the verification of a manifest with its committed length. -/
def fwVerify (s : State) (t : Tab Byte) (committed : Nat) : Nat × Option Nat :=
  let n := leAt t 8 4
  if n ≠ committed ∨ n % 8 ≠ 0 ∨ n < 280 ∨ 90112 < n then (1, some 8)
  else
    let b := n - 216
    let cs := fwDir t
    firstErr (
      [(decide (leAt t 0 4 ≠ 0x46525453), 2, some 0), (decide (leAt t 4 2 ≠ 1), 2, some 4),
       (decide (leAt t 6 2 ≠ 64), 2, some 6)] ++ sigMarks t b ++ sigChecks s t n 1 fwLabel ++
      [(decide (leAt t (b + 12) 4 ≠ 0), 5, some (b + 12)), (decide (leAt t 36 4 < leAt t (b + 16) 4), 5, none)] ++
      unitChecks s t ++
      [(decide (leAt t 36 4 < s.upd.floor.toNat), 9, some 36),
       (decide (cs.length < 3) || decide (5 < cs.length) || decide (b < 64 + 16 * cs.length), 0xA, some 12)] ++
      compChecks t b 64 0 (64 + 16 * cs.length) cs ++
      [([1, 2, 3].any (fun k => !cs.any (fun c => decide (c.type = k))), 0xA, none)])

/-- The verification of a slot. -/
def fwCheck (s : State) (b : Bool) : Nat × Option Nat := fwVerify s (fwSlot s b) (fwLen s b)

/-! ### The choice of the firmware (R577 to R580) -/

/-- R573: a failure is recorded. -/
def fwRecord (e : Nat × Option Nat) (s : State) : State :=
  let off := match e.2 with | some o => o | none => freeBelow 0x1FFFF s
  let s := if e.2.isNone then drawn s else s
  setF ⟨0x50004, 24, 8⟩ e.1 (setR 0x50020 (w32 off) s)

/-- R577: the staged firmware is rejected. -/
def fwReject (e : Nat × Option Nat) (s : State) : State :=
  raise 15 (setF ⟨0x50004, 6, 1⟩ 1 (fwRecord e (setStaging .firmware { s.upd.stg with st := .rejected } s)))

/-- Stage ROM loads the values of the firmware that runs (R589). -/
def fwRun (s : State) : State :=
  let t := fwSlot s s.upd.slot
  let b := leAt t 8 4 - 216
  let s := setF ⟨0x50014, 0, 24⟩ (leAt t 32 4) (setR 0x50018 (wordAt t 36) (setR 0x5001C s.upd.floor s))
  let s := setF ⟨0x50028, 0, 16⟩ (leAt t 44 2) s
  let s := setB ⟨0x50004, 10, 1⟩ (certTest s 1 fwLabel (bytesAt t (b + 8) 80) (bytesAt t (b + 88) 64)) s
  setB ⟨0x50004, 5, 1⟩ s.upd.trial s

/-- R589: no firmware runs: the registers of the running firmware show none. -/
def fwNone (s : State) : State :=
  let s := setF ⟨0x50014, 0, 24⟩ 0 (setR 0x50018 0 (setF ⟨0x50028, 0, 16⟩ 0 s))
  setB ⟨0x50004, 5, 1⟩ false (setB ⟨0x50004, 10, 1⟩ false s)

/-- R580: stage RECOVERY: the image is not sealed, NET is switched ON, and P0 is the one port, an edge port.
(log 19 DEDUCED) -/
def enterRecovery (reason : Nat) (s : State) : State :=
  let s := setF stageFld (stageNum .recovery) (fwNone { s with sys := { s.sys with start := none } })
  let s := setF ⟨0x50024, 0, 4⟩ reason (setR 0x5001C s.upd.floor s)
  let s := each ports (fun p => setR (portReg p 0) (if p = 0 then 3 else 0)) s
  pwrIssue 8 0xEE false 0 0 (setF ⟨0x204000, 0, 12⟩ 0 s)

/-- R573, R577: the ACTIVE slot runs, or the backup, or recovery is entered; every failure is recorded. -/
def fwSettle (s : State) : State :=
  let e := fwCheck s s.upd.slot
  if e.1 = 0 then fwRun s
  else
    let s := fwRecord e s
    let b := fwCheck s (!s.upd.slot)
    if s.upd.backup = false then enterRecovery 1 s
    else if b.1 = 0 then
      fwRun (setF ⟨0x50004, 7, 1⟩ 1 { s with upd := { s.upd with slot := !s.upd.slot, backup := false } })
    else enterRecovery 1 (fwRecord b s)

/-- R577: the boot ROM chooses the firmware; `full`: after a power-on, brown-out or module reset. -/
def chooseFw (full : Bool) (s : State) : State :=
  if s.upd.recFlag then enterRecovery 2 { s with upd := { s.upd with recFlag := false } }
  else if s.upd.trial then
    let e := fwCheck s s.upd.slot
    if s.upd.attempts < 2 ∧ e.1 = 0 then
      fwRun { s with upd := { s.upd with attempts := s.upd.attempts + 1 } }
    else fwSettle (fwReject (0xD, none) { s with upd := { s.upd with trial := false, attempts := 0, slot := s.upd.prev } })
  else if full ∧ s.upd.stg.st = .pending then
    let e := fwCheck s (!s.upd.slot)
    if e.1 = 0 then
      fwRun { s with upd := { s.upd with trial := true, attempts := 1, prev := s.upd.slot, slot := !s.upd.slot } }
    else fwSettle (fwReject e s)
  else fwSettle s

/-- A start that is full (R577). -/
def StartKind.full : StartKind → Bool
  | .powerOn | .brownOut | .module => true
  | _ => false

/-- R585: the bytes 0x53 0x54 0x52 0x53. -/
def setMagic : Nat := 0x53525453

/-- R585: the items of a record, each padded to a multiple of 4 bytes. -/
def parseItems : Nat → List Byte → List (Nat × List Word)
  | 0, _ => []
  | n + 1, b =>
    if b.length < 4 then []
    else
      let k := leNat ((b.drop 2).take 2)
      let m := (k + 3) / 4
      (leNat (b.take 2), (List.range m).map (fun i => leWord (b.drop (4 + 4 * i)))) :: parseItems n (b.drop (4 + 4 * m))

/-- R585: what a copy's bytes hold. -/
def readCopy (t : Tab Byte) : SetCopy :=
  let n := leAt t 10 2
  let crc := fun (_ : Unit) => (crc32 (bytesAt t 0 12 ++ [0, 0, 0, 0] ++ bytesAt t 16 (n - 16))).toNat
  if leAt t 0 4 = setMagic ∧ 16 ≤ n ∧ n ≤ 2048 ∧ leAt t 12 4 = crc () then
    ⟨true, wordAt t 4, leAt t 8 2, parseItems n (bytesAt t 16 (n - 16))⟩
  else {}

/-- R585: the bytes of a record. -/
def copyBytes (wseq : Word) (sver : Nat) (items : List (Nat × List Word)) : List Byte :=
  let body := items.flatMap (fun x => leBytes 2 x.1 ++ leBytes 2 (4 * x.2.length) ++ x.2.flatMap wordBytes)
  let head := leBytes 4 setMagic ++ wordBytes wseq ++ leBytes 2 sver ++ leBytes 2 (16 + body.length)
  head ++ wordBytes (crc32 (head ++ [0, 0, 0, 0] ++ body)) ++ body

/-- The good copies of the settings record, the highest WSEQ first (R585). -/
def goodCopies (s : State) : List SetCopy :=
  let a := readCopy s.upd.setA
  let b := readCopy s.upd.setB
  (if a.wseq.toNat < b.wseq.toNat then [b, a] else [a, b]).filter (·.good)

/-- R539: HIST_MAX as stored, for the firmware that runs. -/
def histMax (s : State) : Nat :=
  match (goodCopies s).find? (fun c => decide (c.sver ≤ getF s ⟨0x50028, 0, 16⟩)) with
  | some c =>
    match c.items.find? (fun x => decide (x.1 = 0xB)) with
    | some x => getBits (x.2.headD 0x30) 4 4
    | none => 3
  | none => 3

/-- R539: a twin with too long a history starts held out, with cause HOLDOUT; both, and neither is. (log 147 DEDUCED) -/
def holdOut (s : State) : State :=
  let m := histMax s
  let a := decide (m ≠ 0) && decide (m ≤ s.twn.histA)
  let b := decide (m ≠ 0) && decide (m ≤ s.twn.histB)
  let s := if a && !b then setF ⟨failReg .a, 0, 4⟩ 8 (setTwin .a .heldOut { s with twn := { s.twn with readSrc := .b } })
    else if b && !a then setF ⟨failReg .b, 0, 4⟩ 8 (setTwin .b .heldOut s) else s
  rewriteReport s

/-- The twins leave reset into the boot ROM. -/
def freshTwins (s : State) : State :=
  setB ⟨0x500000, 7, 1⟩ false { s with twn := { s.twn with
    a := .inStep, b := .inStep, readSrc := .a, digests := [], copies := [], late := [], strikesA := [], strikesB := [], equal := 0 } }

/-- Stage ROM (R102, R539, R577): the firmware is chosen, and a twin may be held out. (log 19 DEDUCED) -/
def romStage (full : Bool) (s : State) : State := holdOut (chooseFw full (freshTwins (setF stageFld (stageNum .rom) s)))

/-- The seal of the image is gone (R109). -/
def breakSeals (s : State) : State := { (setB ⟨0x1C, 6, 1⟩ false (setB ⟨0x10004, 0, 1⟩ false s)) with sealed := [] }

/-- R578: a trial fails: stage ROM again, and the choice. (log 34 DEDUCED, 147 DEDUCED) -/
def trialFail (s : State) : State :=
  romStage (match s.sys.start with | some k => k.full | none => false) (breakSeals s)

/-- R578: the conditions of a pass. (log 34 DEDUCED) -/
def trialGood (s : State) : Bool :=
  (decide (s.twn.a = .inStep) || decide (s.twn.b = .inStep)) && (imgSealed s || s.img.active.isNone)

/-- R578: a trial passes. (log 34 DEDUCED) -/
def trialPass (s : State) : State :=
  let m := wordAt (fwSlot s s.upd.slot) 40
  let f := if s.upd.floor.toNat < m.toNat then m else s.upd.floor
  raise 15 (setR 0x5001C f (setB ⟨0x50004, 5, 1⟩ false { s with upd := { s.upd with
    trial := false, attempts := 0, backup := true, floor := f, stg := { s.upd.stg with st := .empty } } }))

/-! ### Settings (R584 to R588) -/

/-- The register offsets of n instances. -/
def inst (base step n : Nat) : List Nat := (List.range n).map (fun i => base + step * i)

/-- R584, R585: the items and their registers in order. -/
def settingItems : List (Nat × List Nat) :=
  [(1, inst 0x100004 0x100 64), (2, inst 0x100024 0x100 64), (3, inst 0x11000C 0x1000 4),
   (4, inst 0x200014 0x1000 4 ++ inst 0x200018 0x1000 4),
   (5, (List.range 4).flatMap (fun p => inst (0x200200 + 0x1000 * p) 4 8)), (6, inst 0x210104 0x10 4),
   (7, [0x304000, 0x304004] ++ inst 0x300000 0x1000 4 ++ inst 0x300004 0x1000 4), (8, [0x400008, 0x40000C, 0x400010]),
   (9, [0x410000, 0x410004, 0x410008]), (10, inst 0x12100C 0x80 128 ++ inst 0x120200 0x10 4), (11, [0x500008])]

/-- The speed of the down ring is 10 Gb/s (R458, R489). -/
def downFast (s : State) : Bool := ports.any (fun p => decide (portRole s p = 2) && decide (portSpeed s p = 2))

/-- A register's reset value as its chapter gives it; those of HIER depend on the role and the down ring (R489). -/
def regDefault (s : State) (off : Nat) : Word :=
  if off = 0x400008 then
    (if hierRole s = 0 then w32 (100 + 3 * 2 ^ 8 + 2 * 2 ^ 12 + 4500 * 2 ^ 16) else regReset off)
  else if off = 0x40000C then (if downFast s then w32 2048 else regReset off)
  else if off = 0x400010 then (if downFast s then w32 1024 else regReset off)
  else regReset off

/-- The values of every item now, and at their defaults. (log 145 DEDUCED) -/
def itemsNow (s : State) : List (Nat × List Word) := settingItems.map (fun e => (e.1, e.2.map (getR s)))
def itemsDefault (s : State) : List (Nat × List Word) := settingItems.map (fun e => (e.1, e.2.map (regDefault s)))

/-- A value is written to a register's RW bits. -/
def putRw (off : Nat) (v : Word) (s : State) : State :=
  let m := w32 (accMask (fun a => decide (a = .rw)) off)
  setR off ((getR s off &&& ~~~m) ||| (v &&& m)) s

/-- Items are written to those of their registers that `p` selects. (log 145 DEDUCED) -/
def applyItems (p : Nat → Bool) (xs : List (Nat × List Word)) (s : State) : State :=
  each settingItems (fun e s =>
    match xs.find? (fun x => decide (x.1 = e.1)) with
    | some x => each (e.2.zip x.2) (fun r s => if p r.1 then putRw r.1 r.2 s else s) s
    | none => s) s

/-- R585: a record's bytes over a copy; the bytes after them stay. -/
def overCopy (b : List Byte) (t : Tab Byte) : Tab Byte := tabOf b ++ t.filter (fun e => decide (b.length ≤ e.1))

/-- R585: a copy is written over the one with the lower WSEQ: whether that is the second. -/
def overSecond (s : State) : Bool :=
  let a := readCopy s.upd.setA
  let b := readCopy s.upd.setB
  if a.good && !b.good then true else if !a.good then false else decide (b.wseq.toNat < a.wseq.toNat)

/-- R585: a copy is being written, its MAGIC last: until then it is no good copy. (log 145 DEDUCED) -/
def openCopy (s : State) : State :=
  let z : List Byte := [0, 0, 0, 0]
  if overSecond s then { s with upd := { s.upd with setB := tabPut zeroByte s.upd.setB 0 z } }
  else { s with upd := { s.upd with setA := tabPut zeroByte s.upd.setA 0 z } }

/-- R585: a copy is written over the one with the lower WSEQ. -/
def putCopy (sver : Nat) (items : List (Nat × List Word)) (s : State) : State :=
  let a := readCopy s.upd.setA
  let b := readCopy s.upd.setB
  if overSecond s then { s with upd := { s.upd with setB := overCopy (copyBytes (a.wseq + 1) sver items) s.upd.setB } }
  else { s with upd := { s.upd with setA := overCopy (copyBytes ((if b.good then b.wseq else 0) + 1) sver items) s.upd.setA } }

/-- R587: the MIGRATE table of the running firmware: OLD_ID, NEW_ID, OP. -/
def migrateTable (s : State) : List (Nat × Nat × Nat) :=
  let t := fwSlot s s.upd.slot
  match (fwDir t).find? (fun c => decide (c.type = 4)) with
  | none => []
  | some c =>
    match compBytes t c with
    | none => []
    | some b => (List.range (b.length / 8)).map (fun i =>
        (leNat ((b.drop (8 * i)).take 2), leNat ((b.drop (8 * i + 2)).take 2), ((b.drop (8 * i + 4)).headD 0).toNat))

/-- R587: one item of an older copy under its new ID: copied, dropped, or none for its default. (log 145 DEDUCED) -/
def migrateItem (tab : List (Nat × Nat × Nat)) (x : Nat × List Word) : Option (Nat × List Word) :=
  match tab.find? (fun e => decide (e.1 = x.1)) with
  | some (_, n, 0) => some (n, x.2)
  | some _ => none
  | none => some x

/-- R587: the items of the new record: a copied value fills the leading words; what is missing takes its default.
(log 145 DEDUCED) -/
def migrate (s : State) (xs : List (Nat × List Word)) : List (Nat × List Word) :=
  let ys := xs.filterMap (migrateItem (migrateTable s))
  settingItems.map (fun e =>
    match ys.find? (fun y => decide (y.1 = e.1)) with
    | some y => (e.1, (y.2 ++ List.replicate e.2.length 0).take e.2.length)
    | none => (e.1, e.2.map (regDefault s)))

/-- R586: in stage FW firmware chooses a copy and writes its items to the registers that `p` selects. -/
def loadSettings (p : Nat → Bool) (s : State) : State :=
  let own := getF s ⟨0x50028, 0, 16⟩
  let cs := goodCopies s
  let src := fun n s => setF ⟨0x50004, 8, 2⟩ n s
  let rec' := fun n s => setF ⟨0x50028, 16, 16⟩ n s
  match cs.find? (fun c => decide (c.sver = own)) with
  | some c => applyItems p c.items (src 0 (rec' own s))
  | none =>
    match cs.find? (fun c => decide (c.sver < own)) with
    | some c =>
      let xs := migrate s c.items
      raise 15 (applyItems p xs (putCopy own xs (src 1 (rec' c.sver s))))
    | none =>
      let xs := itemsDefault s
      applyItems p xs (putCopy own xs (src (if cs = [] then 2 else 3) (rec' 0 s)))

/-- R588: SAVE_SETTINGS and DEFAULTS: legal at READY with CTRL RUN; they act at the next step boundary. -/
def settingsCommand (defaults : Bool) (s : State) : State :=
  if flag s (stgBusy .firmware) then stgAnswer .firmware .busy s
  else if atReady s && ctrlRun s then
    setB (stgBusy .firmware) true { s with upd := { s.upd with setAsk := some defaults } }
  else stgAnswer .firmware .state s

/-! ### The recovery protocol (R582, R583) -/

/-- The module is in stage RECOVERY with NET ON. -/
def inRecovery (s : State) : Bool := decide (getF s stageFld = 14) && netOn s

/-- R583: the data of HELLO. -/
def helloData (s : State) : List Byte :=
  leBytes 8 Config.serial.toNat ++ leBytes 4 0x6464 ++ [BitVec.ofNat 8 (b2n s.fitS0), BitVec.ofNat 8 (getF s ⟨0x50024, 0, 4⟩), 0, 0] ++
    wordBytes s.upd.floor ++ wordBytes s.img.floor

/-- R582: the body of a recovery frame: VER, OP, SEQ, TARGET, STATUS, LEN, OFFSET, TOTAL and the data. -/
def recoveryBody (op : Nat) (seq : BitVec 16) (target : Byte) (status : Nat) (off total : Word) (data : List Byte) : List Byte :=
  [1, BitVec.ofNat 8 op] ++ leBytes 2 seq.toNat ++ [target, BitVec.ofNat 8 status] ++ leBytes 2 data.length ++ wordBytes off ++
    wordBytes total ++ data

/-- R582: VER is 1, and LEN is a multiple of 4, at most 1,024, of which the frame holds that many bytes; what is not so is no
request. (log 146 DEDUCED) -/
def rcvShape (q : RcvReq) : Bool :=
  decide (q.ver = 1) && decide (q.len ≤ 1024) && decide (q.len % 4 = 0) && decide (q.len ≤ q.data.length)

/-- The data bytes of a request. -/
def rcvBytes (q : RcvReq) : List Byte := q.data.take q.len

/-- R582: a reply: the request's SEQ, TARGET, OFFSET and TOTAL come back. (log 146 DEDUCED) -/
def rcvReply (op : Nat) (q : RcvReq) (c : Code) (data : List Byte) : Output :=
  .recovery q.src (recoveryBody (op + 0x80) q.seq (match q.target with | .image => 1 | .firmware => 2) c.num (w32 q.offset)
    (w32 q.total) data)

/-- R583: a request is answered; one whose SEQ was the last answered is answered again without being applied; while a
session is open, another's request is answered BUSY. (log 146 DEDUCED) -/
def rcvAnswer (op : Nat) (q : RcvReq) (data : State → List Byte) (f : State → Code × State) (s : State) : State :=
  let other := match s.upd.sess with | some x => decide (x.owner ≠ q.src) | none => false
  let reply := fun o (c : Code) s => emit (rcvReply o q c (data s)) s
  if !inRecovery s || !rcvShape q then s
  else if other then reply op .busy s
  else
    match s.upd.last with
    | some (n, o, c) =>
      if n = q.seq then reply o c s
      else
        let r := f s
        reply op r.1 { r.2 with upd := { r.2.upd with last := some (q.seq, op, r.1) } }
    | none =>
      let r := f s
      reply op r.1 { r.2 with upd := { r.2.upd with last := some (q.seq, op, r.1) } }

/-- The store a target names. -/
def targetStore : XferTarget → StoreId
  | .image => .image
  | .firmware => .firmware

/-- The session ends. (log 146 DEDUCED) -/
def endSession (s : State) : State := { s with upd := { s.upd with sess := none } }

end Sys2Proof.Machine
end

