-- ==== Sys2Proof/Machine/Rec.lean ====
section
/-! DEFINITION. The place of the module in the tree, the endpoint records that firmware keeps, the quantities of the plane
and the 8-byte summaries (R11, R454, R455, R488, R501, R507 to R511). -/

namespace Sys2Proof.Machine

/-! ### The tree (R454) -/

/-- A module's ORIGIN as R380 writes it: role, AREA, WORKER. -/
def mkOrigin (role area worker : Nat) : BitVec 16 := BitVec.ofNat 16 (role * 2 ^ 14 + area * 2 ^ 7 + worker)

/-- The fields of an ORIGIN. -/
def orgRole (o : BitVec 16) : Nat := o.toNat / 2 ^ 14
def orgArea (o : BitVec 16) : Nat := o.toNat / 2 ^ 7 % 128
def orgWorker (o : BitVec 16) : Nat := o.toNat % 128

/-- The ORIGIN of this module. -/
def ownOrigin (s : State) : BitVec 16 := swOrigin s

/-- The ORIGIN of its parent; none of a root or of a module without a role. -/
def parentOrigin (s : State) : Option (BitVec 16) :=
  if hierRole s = 1 then some (mkOrigin 0 0 0) else if hierRole s = 2 then some (mkOrigin 1 (hierArea s) 0) else none

/-- The child index that an ORIGIN has under this module. -/
def childIndex (s : State) (o : BitVec 16) : Option Nat :=
  if hierRole s = 0 ∧ orgRole o = 1 then some (orgArea o)
  else if hierRole s = 1 ∧ orgRole o = 2 ∧ orgArea o = hierArea s then some (orgWorker o) else none

/-- The ORIGIN of child i. -/
def childOrigin (s : State) (i : Nat) : BitVec 16 :=
  if hierRole s = 0 then mkOrigin 1 i 0 else mkOrigin 2 (hierArea s) i

/-- OWN of the module's own records (R13, R455). -/
def ownKind (s : State) : Nat := if hierRole s = 0 then 2 else if hierRole s = 1 then 1 else 0

/-- The EPA of own record r (R11, R14). -/
def ownEpa (s : State) (r : Nat) : Word :=
  let area := if hierRole s = 0 then 0 else hierArea s
  let worker := if hierRole s = 2 then hierWorker s else 0
  w32 (area * 2 ^ 18 + worker * 2 ^ 11 + r)

/-- R455: the module owns an EPA. (log 164 DEDUCED) -/
def ownsEpa (s : State) (epa : Word) (own : Nat) : Bool :=
  decide (own = ownKind s) && decide (hierRole s ≠ 3) &&
  (if hierRole s = 2 then decide (epaArea epa = hierArea s) && decide (epaWorker epa = hierWorker s)
   else if hierRole s = 1 then decide (epaArea epa = hierArea s) && decide (epaWorker epa = 0)
   else decide (epaArea epa = 0) && decide (epaWorker epa = 0))

/-- PTP is not traceable (R482, R407, R317). -/
def notrace (s : State) : Bool := !(netOn s && anchorValid s && decide (getF s ⟨0x30044, 1, 1⟩ = 1))

/-! ### The record map and the records (R129, R488, R489) -/

/-- Word w of the map entry of record r, and its fields. -/
def recReg (r w : Nat) : Nat := 0x401000 + 8 * r + 4 * w
def recAssigned (s : State) (r : Nat) : Bool := flag s ⟨recReg r 0, 7, 1⟩
def recKind (s : State) (r : Nat) : Nat := getF s ⟨recReg r 0, 0, 3⟩
def recProfile (s : State) (r : Nat) : Nat := getF s ⟨recReg r 0, 8, 8⟩
def recSource (s : State) (r : Nat) : Nat := getF s ⟨recReg r 0, 16, 16⟩
def recGroup (s : State) (r : Nat) : Nat := getF s ⟨recReg r 1, 0, 16⟩

/-- The assigned records, in ascending order. -/
def assigned (s : State) : List Nat :=
  s.regs.filterMap (fun e =>
    if 0x401000 ≤ e.1 ∧ e.1 < 0x405000 ∧ e.1 % 8 = 0 ∧ bitOf e.2 7 = true then some ((e.1 - 0x401000) / 8) else none)

/-- A record's contents. -/
def recOf (s : State) (r : Nat) : EpRec := tabGet (fun _ => {}) s.hier.recs r
def setRec (r : Nat) (x : EpRec) (s : State) : State :=
  { s with hier := { s.hier with recs := tabSet (fun _ => {}) s.hier.recs r x } }

/-- The KIND 1 meter point on a string. -/
def stringPoint (s : State) (string : Nat) : Option Nat :=
  points.find? (fun p => ptValid s p && decide (ptKind s p = 1) && decide (ptSource s p = string))

/-- R259: the driver word of a level code. (log 64 DEDUCED) -/
def levelWord (fields : Nat) (code : Nat) : BitVec 48 :=
  let fb := 48 / fields
  BitVec.ofNat 48 ((List.range fields).foldl (fun w i => w + code * (2 ^ fb - 1) / 65535 * 2 ^ (fb * i)) 0)

/-- The word of a chain position (R258). -/
def posWord (s : State) (src : Nat) : BitVec 48 := chainWord (chain s (src / 256 % 4)) (src % 128)

/-- A quotient whose rounding no rule gives: rounded down or up. (log 64 DEDUCED) -/
def roundFree (s : State) (num den : Nat) : Nat := num / den + (if num % den = 0 then 0 else freeBelow 1 s)

/-- R134: the record of a meter point that shares an input or an output. -/
def ptRecBad (s : State) (r : Nat) : Bool := decide (recKind s r = 4) && ptBad s (recSource s r % 128)

/-- What such a record reports: anything. (log 185 DESIGN CHOICE) -/
def freeRec (s : State) (x : EpRec) : EpRec :=
  let w := fun i => Config.freeWord (s.free + i)
  { x with q0 := w 0, q1 := w 1, q2 := w 2, q3 := w 3, imp := (w 4).toNat, exp := (w 5).toNat }

/-- R488: what a record's KIND gives at a step boundary, from the module's state and what firmware has kept.
(log 64 DEDUCED, 131 DESIGN CHOICE) -/
def recLive (s : State) (r : Nat) : EpRec :=
  let x := recOf s r
  let src := recSource s r
  match recKind s r with
  | 0 =>
    match stringLead s src with
    | none => x
    | some l =>
      let cs := stringChans s src
      let tot : PointTot := match stringPoint s src with | some p => ptReported s p | none => {}
      { x with
        inforce := (slice s l).ref.code.toNat
        fault := w32 (cs.foldl (fun m n => m ||| (getR s (chReg n 0x20)).toNat) 0)
        q0 := w32 (getF s ⟨chReg l 0x2C, 0, 16⟩)
        q1 := w32 (roundFree s (cs.foldl (fun m n => m + getF s ⟨chReg n 0x2C, 16, 16⟩) 0 * 15625) 1024)
        q2 := w32 (cs.filter (fun n => decide ((slice s n).st = .run))).length
        q3 := w32 (getF s ⟨lockReg l, 8, 8⟩)
        imp := tot.imp / 2 ^ 32
        exp := tot.exp / 2 ^ 32 }
  | 1 =>
    let w := posWord s src
    { x with
      fault := getR s (chnReg (src / 256 % 4) 0x18)
      q0 := w.setWidth 32
      q1 := (w >>> 32).setWidth 32 }
  | 2 =>
    { x with q0 := w32 (leaseState s (src % 1024)), q2 := w32 (getF s (leaseRemain (src % 1024))) }
  | 4 =>
    let p := src % 128
    let t := ptReported s p
    if ptRecBad s r then freeRec s { x with fault := getR s (ptReg p 0x44) }
    else { x with
      fault := getR s (ptReg p 0x44)
      q0 := getR s (ptReg p 0x38)
      q1 := w32 (getF s ⟨ptReg p 0x3C, 0, 16⟩)
      q2 := getR s (ptReg p 0x40)
      q3 := w32 (getF s ⟨ptReg p 0x3C, 16, 16⟩)
      imp := t.imp / 2 ^ 32
      exp := t.exp / 2 ^ 32 }
  | _ => x

/-- The lease slot of a glowworm's record: of KIND 2, and of a KIND 3 radio sensor (R129). -/
def recSlot (s : State) (r : Nat) : Option Nat :=
  let src := recSource s r
  if recKind s r = 2 then some (src % 1024)
  else if recKind s r = 3 ∧ 0x100 ≤ src ∧ src < 0x500 then some (src - 0x100) else none

/-- STATUS beside ONLINE (R488): FAULT, LOCKED and SILENT. -/
def recStatus (s : State) (r : Nat) (x : EpRec) : Nat :=
  let locked := match recKind s r, stringLead s (recSource s r) with
    | 0, some l => flag s ⟨lockReg l, 0, 1⟩
    | _, _ => false
  let silent := match recSlot s r with | some e => decide (leaseState s e = 4) | none => false
  2 * b2n (decide (x.fault ≠ 0)) + 4 * b2n locked + 8 * b2n silent

/-- R488: a record changes: STEP is set; what counts as an event, and when a record is ONLINE, no rule states: free values. -/
def changeRec (r : Nat) (y : EpRec) (s : State) : State :=
  if y = recOf s r then s
  else
    let y := { y with status := y.status / 2 * 2 + freeBelow 1 s, events := freeOf (drawn s), step := s.twn.step.setWidth 32 }
    setRec r y (drawn (drawn s))

/-- R488: the record at a step boundary. A change sets STEP; what counts as an event, when a record is ONLINE, and the code of
a driver word that no level gave, no rule states: each is then a free value. (log 64 DEDUCED) -/
def recUpdate (r : Nat) (s : State) : State :=
  let x := recOf s r
  let y := recLive s r
  let y := if recKind s r ≠ 1 ∨ (y.q0 = x.q0 ∧ y.q1 = x.q1) then y
    else if posWord s (recSource s r) = levelWord (chnFields s (recSource s r / 256 % 4)) x.target then
      { y with inforce := x.target }
    else { y with inforce := (freeOf s).toNat % 65536 }
  changeRec r { y with status := x.status % 2 + recStatus s r y } (if ptRecBad s r then { s with free := s.free + 6 } else s)

/-! ### What inputs do to the records -/

/-- The assigned records that `p` selects. -/
def recsWhere (s : State) (p : Nat → Bool) : List Nat := (assigned s).filter p

/-- R466: a level is commanded of the record. -/
def recTarget (code : Nat) (r : Nat) (s : State) : State := changeRec r { recOf s r with target := code } s

/-- R488: items of a DATA body reach the records of glowworm slot e. -/
def recItem (e : Nat) (i : DataItem) (s : State) : State :=
  let lum := recsWhere s (fun r => decide (recKind s r = 2) && decide (recSource s r = e))
  let sen := recsWhere s (fun r => decide (recKind s r = 3) && decide (recSource s r = 0x100 + e))
  match i with
  | .level _ _ _ => s
  | .state code fault =>
    each lum (fun r s => changeRec r { recOf s r with inforce := code.toNat, fault := fault.setWidth 32 } s) s
  | .presence level edges =>
    each sen (fun r s => changeRec r { recOf s r with q0 := level.setWidth 32, q1 := (recOf s r).q1 + edges.setWidth 32 } s) s
  | .lux v => each sen (fun r s => changeRec r { recOf s r with q2 := v.setWidth 32 } s) s
  | .energy mwh => each lum (fun r s => changeRec r { recOf s r with imp := mwh.toNat } s) s
  | .other _ _ => s

/-- The items of a DATA body as the tile passes it on, in the layout of R449. -/
def itemsOf : Nat → List Byte → List DataItem
  | 0, _ => []
  | n + 1, t :: l :: rest =>
    let v := rest.take l.toNat
    let h := fun i => BitVec.ofNat 16 (leNat ((v.drop i).take 2))
    let item : DataItem :=
      if t = 2 ∧ l = 4 then .state (h 0) (h 2)
      else if t = 3 ∧ l = 2 then .presence (v.getD 0 0) (v.getD 1 0)
      else if t = 4 ∧ l = 2 then .lux (h 0)
      else if t = 5 ∧ l = 4 then .energy (leWord v)
      else .other t v
    item :: itemsOf n (rest.drop l.toNat)
  | _, _ => []

/-- The SENSOR record of an input of J11 in the active image (R131). -/
def sensorRec (s : State) (i : Nat) : Option Nat := recordFor (activeImg s) 5 0 1 i

/-- R131: FILTER_US of a presence input, 0 without a record. (log 172 DESIGN CHOICE) -/
def filterUs (s : State) (i : Nat) : Nat :=
  match sensorRec s i with | some o => leAt (activeImg s) (o + 2) 2 | none => 0

/-- R278, R131: the engineering value of an analogue input at `mv` mV. No rule gives one to an input without a SENSOR record, nor
the rounding. (log 64 DEDUCED) -/
def engValue (s : State) (i mv : Nat) : Word :=
  match sensorRec s i with
  | none => freeOf s
  | some o =>
    let scale : Int := leAt (activeImg s) (o + 4) 2
    let off := signed 16 (leAt (activeImg s) (o + 6) 2)
    let num := (scale - off) * mv
    w32 (unsigned 32 (off + num / 10000 + (if num % 10000 = 0 then 0 else (freeBelow 1 s : Int))))

/-- The presence records of input i show a level; `edge`: it counts as an edge. -/
def showPresence (i : Nat) (level edge : Bool) (s : State) : State :=
  each (recsWhere s (fun r => decide (recKind s r = 3) && decide (recSource s r = i)))
    (fun r s => changeRec r { recOf s r with q0 := w32 (b2n level), q1 := (recOf s r).q1 + w32 (b2n edge) } s) s

/-- R131, R277: an edge on the supervised path: it counts once its level has lasted FILTER_US, in whole steps; the opposite edge
within that time takes it back. (log 80 DESIGN CHOICE) -/
def filterEdge (i : Nat) (level : Bool) (s : State) : State :=
  let others := s.hier.filt.filter (fun e => decide (e.1 ≠ i))
  if s.hier.filt.any (fun e => decide (e.1 = i)) then { s with hier := { s.hier with filt := others } }
  else if filterUs s i = 0 then showPresence i level true s
  else
    let due := s.twn.step + BitVec.ofNat 64 ((filterUs s i + 124) / 125)
    { s with hier := { s.hier with filt := others ++ [(i, level, due)] } }

/-- R131: the levels that have lasted long enough. (log 80 DESIGN CHOICE) -/
def filterDue (s : State) : State :=
  let due := fun (e : Nat × Bool × BitVec 64) => decide (e.2.2.toNat ≤ s.twn.step.toNat)
  each (s.hier.filt.filter due) (fun e => showPresence e.1 e.2.1 true)
    { s with hier := { s.hier with filt := s.hier.filt.filter (fun e => !due e) } }

/-- R278: the records of the analogue inputs take a strobe's means. -/
def showAin (means : List Nat) (s : State) : State :=
  each (recsWhere s (fun r => decide (recKind s r = 3) && decide (32 ≤ recSource s r) && decide (recSource s r < 32 + means.length)))
    (fun r s =>
      let mv := means.getD (recSource s r - 32) 0
      changeRec r { recOf s r with q0 := engValue s (recSource s r) mv, q1 := w32 mv } (drawn s)) s

/-- An input presented to the twins, as the records take it (R96, R277, R278, R444, R488). (log 80 DESIGN CHOICE) -/
def recInput (x : SplitIn) (s : State) : State :=
  match x with
  | .edge i level => filterEdge i level s
  | .snapshot levels ain _ =>
    showAin ain (each (List.range 32) (fun i => showPresence i (bitOf levels i) false)
      { s with hier := { s.hier with filt := [] } })
  | .ain means => showAin means s
  | .radio rx body =>
    match rx.src with
    | .eui _ => s
    | .slot e =>
      let s := each (recsWhere s (fun r => decide (recKind s r = 2) && decide (recSource s r = e)))
        (fun r s => changeRec r { recOf s r with q1 := w32 (unsigned 32 rx.rssi), q3 := rx.asn.setWidth 32 } s) s
      if body.head? = some 0x10 then each (itemsOf body.length (body.drop 2)) (recItem e) s else s
  | _ => s

end Sys2Proof.Machine
end

