-- ==== Sys2Proof/Machine/PlnOps.lean ====
section
/-! DEFINITION. The telemetry plane's codec: the quantities, the Class B quantiser, the Class S summaries, the blocks of each
class and where they go (R493 to R518). -/

namespace Sys2Proof.Machine

/-! ### Quantities (R501) -/

/-- How a summary value is formed (R509), and how its slot is coded (R508). -/
inductive SumMode where
  | mean | last | min | or | incr
  deriving DecidableEq, Repr

inductive SlotCode where
  | raw | f16u | f16s
  deriving DecidableEq, Repr

/-- A quantity: its KINDs, its width in bytes, whether it is signed, its summary value and slot coding. -/
structure Qty where
  kinds  : List Nat
  bytes  : Nat
  signed : Bool
  mode   : SumMode
  code   : SlotCode
  deriving DecidableEq, Repr

/-- A KIND 3 record of an analogue input. -/
def isAin (s : State) (r : Nat) : Bool := decide (32 ≤ recSource s r) && decide (recSource s r ≤ 39)

/-- The quantity of a code, for record r; none where it is undefined or not defined for the record's KIND (R500). -/
def qtyOf (s : State) (r code : Nat) : Option Qty :=
  let q : Option Qty := match code with
    | 0x01 => some ⟨[0, 1, 2], 2, false, .last, .raw⟩
    | 0x02 => some ⟨[0, 1, 2], 2, false, .mean, .f16u⟩
    | 0x03 => some ⟨[0], 4, false, .mean, .f16u⟩
    | 0x04 => some ⟨[0], 4, false, .mean, .f16u⟩
    | 0x05 => some ⟨[0], 4, false, .min, .raw⟩
    | 0x06 => some ⟨[0], 4, false, .last, .raw⟩
    | 0x07 => some ⟨[0, 1, 2, 4], 4, false, .or, .raw⟩
    | 0x08 => some ⟨[0, 1, 2, 3, 4], 4, false, .incr, .f16u⟩
    | 0x09 => some ⟨[0, 2, 4], 8, false, .incr, .f16u⟩
    | 0x0A => some ⟨[0, 4], 8, false, .incr, .f16u⟩
    | 0x0B => some ⟨[4], 4, true, .mean, .f16s⟩
    | 0x0C => some ⟨[4], 4, false, .mean, .f16u⟩
    | 0x0D => some ⟨[4], 4, false, .mean, .f16u⟩
    | 0x0E => some ⟨[4], 4, false, .mean, .f16u⟩
    | 0x0F => some ⟨[1], 6, false, .last, .raw⟩
    | 0x10 => some ⟨[2], 4, false, .last, .raw⟩
    | 0x11 => some ⟨[2], 4, true, .mean, .f16s⟩
    | 0x12 => some ⟨[3], 4, true, .mean, .f16s⟩
    | 0x13 => some ⟨[3], 4, false, if isAin s r then .mean else .incr, .f16u⟩
    | 0x14 => some ⟨[3], 4, false, .mean, .f16u⟩
    | _ => none
  match q with
  | some q => if q.kinds.contains (recKind s r) then some q else none
  | none => none

/-- The field that a quantity names. -/
def qtyRaw (x : EpRec) (code : Nat) : Nat :=
  match code with
  | 0x01 => x.target % 65536 | 0x02 => x.inforce % 65536
  | 0x03 => x.q0.toNat | 0x04 => x.q1.toNat | 0x05 => x.q2.toNat | 0x06 => x.q3.toNat | 0x07 => x.fault.toNat
  | 0x08 => x.events.toNat | 0x09 => x.imp % 2 ^ 64 | 0x0A => x.exp % 2 ^ 64
  | 0x0B => x.q0.toNat | 0x0C => x.q1.toNat | 0x0D => x.q2.toNat | 0x0E => x.q3.toNat
  | 0x0F => x.q0.toNat + x.q1.toNat % 65536 * 2 ^ 32
  | 0x10 => x.q0.toNat | 0x11 => x.q1.toNat | 0x12 => x.q0.toNat | 0x13 => x.q1.toNat | 0x14 => x.q2.toNat
  | _ => 0

/-- The value of a quantity's field as a number. -/
def qtyVal (q : Qty) (raw : Nat) : Int := if q.signed then signed (8 * q.bytes) raw else raw

/-- R501: the quantity admits Class B for the record. -/
def admitsB (s : State) (r code : Nat) : Bool :=
  decide (code ∈ [0x02, 0x03, 0x04, 0x0B, 0x0C, 0x0D, 0x0E, 0x11, 0x14]) ||
    (decide (code ∈ [0x12, 0x13]) && isAin s r)

/-! ### The profile table (R138, R519) -/

/-- Word w of entry e, and its fields. -/
def telReg (e w : Nat) : Nat := 0x411000 + 8 * e + 4 * w
def telProfile (s : State) (e : Nat) : Nat := getF s ⟨telReg e 0, 0, 8⟩
def telQty (s : State) (e : Nat) : Nat := getF s ⟨telReg e 0, 8, 8⟩
def telClass (s : State) (e : Nat) : Nat := getF s ⟨telReg e 0, 16, 2⟩
def telSum (s : State) (e : Nat) : Bool := flag s ⟨telReg e 0, 18, 1⟩
def telPeriod (s : State) (e : Nat) : Nat := getF s ⟨telReg e 0, 19, 5⟩
def telQ (s : State) (e : Nat) : Nat := (getR s (telReg e 1)).toNat

/-- The loaded entries, in TELEM order. -/
def telEntries (s : State) : List Nat :=
  s.regs.filterMap (fun e =>
    if 0x411000 ≤ e.1 ∧ e.1 < 0x413000 ∧ e.1 % 8 = 0 ∧ bitOf e.2 31 = true then some ((e.1 - 0x411000) / 8) else none)

/-- The entries of a record's profile. -/
def recEntries (s : State) (r : Nat) : List Nat := (telEntries s).filter (fun e => decide (telProfile s e = recProfile s r))

/-- R499: the profile holds an entry of CLASS 2 or 3 or of a PERIOD above 23. -/
def profileBad (s : State) (r : Nat) : Bool :=
  (recEntries s r).any (fun e => decide (2 ≤ telClass s e) || decide (23 < telPeriod s e))

/-- The key of a record and entry. -/
def entKey (r e : Nat) : Nat := 1024 * r + e

/-- R493, R499: the entry is coded as Class B for the record. -/
def codedB (s : State) (r e : Nat) : Bool :=
  decide (telClass s e = 1) && decide (telQ s e ≠ 0) && admitsB s r (telQty s e)

/-! ### Rounding and F16 (R502, R508) -/

/-- The nearest integer to a quotient, ties away from zero. -/
def roundDiv (n : Int) (d : Nat) : Int :=
  if d = 0 then 0 else if 0 ≤ n then (2 * n + d) / (2 * d) else -((2 * (-n) + d) / (2 * d))

/-- R508: the code of magnitude num / den with m of mb bits, for e up from `e`: e and m. -/
def f16Find (mb num den : Nat) : Nat → Nat → Nat × Nat
  | 0, _ => (31, 2 ^ mb - 1)
  | n + 1, e =>
    let m := (2 * (16 * num) + den * 2 ^ e) / (2 * (den * 2 ^ e))
    if m < 2 ^ mb then (e, m) else f16Find mb num den n (e + 1)

/-- R508: the code of num / den, and sixteen times the value that it represents. -/
def f16 (c : SlotCode) (num : Int) (den : Nat) : Nat × Int :=
  match c with
  | .raw => (unsigned 16 num, 16 * num)
  | .f16u =>
    let r := f16Find 11 num.toNat den 32 0
    (r.1 * 2 ^ 11 + r.2, ((r.2 * 2 ^ r.1 : Nat) : Int))
  | .f16s =>
    let r := f16Find 10 num.natAbs den 32 0
    let v : Int := ((r.2 * 2 ^ r.1 : Nat) : Int)
    ((if num < 0 then 2 ^ 15 else 0) + r.1 * 2 ^ 10 + r.2, if num < 0 then -v else v)

/-- The eight bytes of a summary (R507). -/
def mkSum (head events : Nat) (slots : List Nat) : BitVec 64 :=
  BitVec.ofNat 64 (head + events * 2 ^ 8 + slots.getD 0 0 * 2 ^ 16 + slots.getD 1 0 * 2 ^ 32 + slots.getD 2 0 * 2 ^ 48)

/-- R507: the summary entries of a record: the first three of its profile. -/
def sumEntries (s : State) (r : Nat) : List Nat := ((recEntries s r).filter (telSum s)).take 3

/-- HEAD at one step: KIND + 1, ONLINE, FAULT non-zero, LOCKED, SILENT. -/
def headNow (s : State) (r : Nat) : Nat :=
  let x := recOf s r
  recKind s r + 1 + 8 * (x.status % 2) + 16 * b2n (decide (x.fault ≠ 0)) + 32 * (x.status / 4 % 2) + 64 * (x.status / 8 % 2)

/-- R511: the snapshot summary of an assigned record. -/
def snapSum (s : State) (r : Nat) : BitVec 64 :=
  let x := recOf s r
  mkSum (headNow s r) (x.events.toNat % 256) ((sumEntries s r).map (fun e =>
    match qtyOf s r (telQty s e) with
    | none => 0
    | some q => (f16 q.code (qtyVal q (qtyRaw x (telQty s e))) 1).1))

/-! ### Running, limits and destinations -/

/-- PLN_CFG and its neighbours. -/
def plnEn (s : State) : Bool := flag s ⟨0x410000, 0, 1⟩
def plnRunning : Fld := ⟨0x410010, 0, 1⟩
def sPeriod (s : State) : Nat := getF s ⟨0x410000, 8, 8⟩
def bSamples (s : State) : Nat := getF s ⟨0x410004, 0, 7⟩
def lRefresh (s : State) : Nat := getF s ⟨0x410004, 16, 16⟩
def localLen (s : State) : Nat := getF s ⟨0x410008, 0, 14⟩
def upMtu (s : State) : Nat := getF s ⟨0x400010, 16, 14⟩
def plnCnt (i : Nat) : Nat := 0x410040 + 4 * i

/-- R519: a register of the plane is outside its range. -/
def plnBad (s : State) : Bool :=
  let close := getF s ⟨0x410000, 16, 16⟩
  decide (close = 0) || decide (1000 < close) || decide (bSamples s = 0) || decide (64 < bSamples s) ||
    decide (localLen s < 64) || decide (8192 < localLen s)

/-- The plane runs: it is started and enabled, the twins run, and not both have failed. -/
def plnUp (s : State) : Bool :=
  flag s plnRunning && plnEn s && ctrlRun s && atReady s && !(twinDead s .a && twinDead s .b)

/-- R494: a class goes up rather than to the TLM ring. -/
def goesUp (s : State) (cls : Nat) : Bool :=
  decide (hierRole s = 2) || (decide (hierRole s = 1) && decide (cls = 2))

/-- R515: a block's length limit. (log 132 DEDUCED) -/
def blkLimit (s : State) (cls : Nat) : Nat := if goesUp s cls then upMtu s - 74 else localLen s

/-- R478: the cells of an upward frame. -/
def upCells (len : Nat) : Nat := (len + 255) / 256

/-- The cells in use of the up queue (R480). -/
def upUsed (s : State) : Nat := (s.hier.upq.map (fun e => upCells e.len)).sum

/-- R480, R516: the up queue takes a frame where it has free cells. -/
def upRoom (s : State) (len : Nat) : Bool := decide (upUsed s + upCells len ≤ 16384)

/-- A frame joins the up queue. -/
def upPush (e : UpEnt) (s : State) : State := { s with hier := { s.hier with upq := s.hier.upq ++ [e] } }

/-- R512: a block: FIRST, BSEQ and BASE_STEP, its entries and their number; one that R499 or R519 makes unpredictable holds
free bytes. `nt`: PTP was not traceable at BASE_STEP. -/
def mkBlock (s : State) (cls : Nat) (first merged nt : Bool) (base : Nat) (bseq : BitVec 16) (count : Nat) (body : List Byte)
    (bad : Bool) : List Byte :=
  let len := 16 + body.length
  let hd := [BitVec.ofNat 8 (1 + 16 * cls + 64 * b2n first), BitVec.ofNat 8 (b2n merged + 2 * b2n nt)] ++
    leBytes 2 (ownOrigin s).toNat ++ leBytes 4 base ++ leBytes 2 bseq.toNat ++ leBytes 2 len ++ leBytes 2 count
  if bad then (List.range len).map (fun i => (Config.freeWord (s.free + i)).setWidth 8)
  else hd ++ leBytes 2 (crc16 (hd ++ [0, 0] ++ body)).toNat ++ body

/-- The free values a bad block has taken. -/
def badDrawn (bad : Bool) (len : Nat) (s : State) : State := if bad then { s with free := s.free + len } else s

/-- R494: a block for the module's own TLM ring, of an enabled class. -/
def toTlm (cls : Nat) (b : List Byte) (s : State) : State :=
  if bitOf (getR s 0x410008) (16 + cls) then emit (.tlm b) s else bump (plnCnt 10) s

/-- R495: a block goes up or to the TLM ring. Answers whether it went. (log 132 DEDUCED) -/
def sendBlock (cls : Nat) (b : List Byte) (s : State) : Bool × State :=
  if goesUp s cls then
    if upRoom s (74 + b.length) then (true, upPush { mtype := 0x20, len := 74 + b.length, pre := [], post := b } s)
    else (false, s)
  else (true, toTlm cls b s)

/-- A close is counted and raised (R515, R519). -/
def countClose (cls : Nat) (s : State) : State := raise 152 (bump (plnCnt cls) s)

/-! ### Class L (R498, R513, R516) -/

/-- What the plane keeps of a record and entry. -/
def lEnt (s : State) (k : Nat) : LEnt := tabGet (fun _ => {}) s.pln.lents k
def setLEnt (k : Nat) (x : LEnt) (s : State) : State :=
  { s with pln := { s.pln with lents := tabSet (fun _ => {}) s.pln.lents k x } }

/-- The value bytes of a quantity code (R501). -/
def qtyBytes (code : Nat) : Nat := if code ≤ 2 then 2 else if code = 9 ∨ code = 10 then 8 else if code = 0x0F then 6 else 4

/-- The bytes of a Class L entry in a block of base step `base`. -/
def lBytes (base : Nat) (i : LItem) : List Byte :=
  let n := qtyBytes i.qty
  leBytes 2 i.rec' ++ [BitVec.ofNat 8 i.qty, BitVec.ofNat 8 (n + 16 * b2n i.refresh + 32 * b2n i.coal)] ++
    leBytes 2 (i.step.toNat - base) ++ leBytes n i.value

/-- The length of a Class L block of these entries. -/
def lLen (xs : List LItem) : Nat := 16 + (xs.map (fun i => 6 + qtyBytes i.qty)).sum

/-- The first and last steps of a block's entries. -/
def lBase (xs : List LItem) : Nat := xs.foldl (fun m i => min m i.step.toNat) (2 ^ 64)
/-- R512: whether PTP was not traceable at the first of them. (log 132 DEDUCED) -/
def lNoTrace (xs : List LItem) : Bool := xs.any (fun i => decide (i.step.toNat = lBase xs) && i.notrace)
def lTop (xs : List LItem) : Nat := xs.foldl (fun m i => max m i.step.toNat) 0

/-- R513, R515: one more entry fits in the block. -/
def lFits (s : State) (xs : List LItem) (i : LItem) : Bool :=
  decide (lLen (xs ++ [i]) ≤ blkLimit s 0) && decide (lTop (xs ++ [i]) ≤ lBase (xs ++ [i]) + 65535)

/-- R516: an entry of a block that was not queued becomes pending, or a newer sample meets a pending one: it is replaced, or
ORed into it for FAULT. -/
def lPend (i : LItem) (s : State) : State :=
  let k := entKey i.rec' i.ent
  let x := lEnt s k
  match x.pend with
  | none => setLEnt k { x with pend := some i } s
  | some j =>
    bump (plnCnt 4) (setLEnt k { x with pend := some (if i.qty = 7 then { i with value := j.value ||| i.value } else i) } s)

/-- The entries that are pending, in order of record and entry. -/
def pendItems (s : State) : List LItem :=
  s.pln.lents.filterMap (fun e => e.2.pend.map (fun i => { i with coal := true }))

/-- R516: pending entries join the block that closes, as far as they fit. (log 132 DEDUCED) -/
def takePend (items : List LItem) (s : State) : List LItem × State :=
  (pendItems s).foldl (fun a i =>
    if lFits a.2 a.1 i then
      (a.1 ++ [i], setLEnt (entKey i.rec' i.ent) { lEnt a.2 (entKey i.rec' i.ent) with pend := none } a.2)
    else a) (items, s)

/-- R512, R515, R516: the open Class L block closes. -/
def closeL (s : State) : State :=
  match s.pln.blkL with
  | none => s
  | some b =>
    let r := takePend b.items { s with pln := { s.pln with blkL := none } }
    let s := r.2
    let bad := b.bad || plnBad s || r.1.any (fun i => profileBad s i.rec')
    let blk := mkBlock s 0 s.pln.firstL (r.1.any (·.coal)) (lNoTrace r.1) (lBase r.1) s.pln.bseqL r.1.length
      (r.1.flatMap (lBytes (lBase r.1))) bad
    let t := sendBlock 0 blk (badDrawn bad blk.length (countClose 0 s))
    if t.1 then { t.2 with pln := { t.2.pln with firstL := false, bseqL := t.2.pln.bseqL + 1 } }
    else each r.1 lPend t.2

/-- R513, R516: an entry is placed in the open Class L block; where the block that had to close could not be queued, and holds an older
value of it, that value is replaced. (log 132 DEDUCED) -/
def placeL (i : LItem) (bad : Bool) (s : State) : State :=
  let s := match s.pln.blkL with
    | some b => if lFits s b.items i then s else closeL s
    | none => s
  if (lEnt s (entKey i.rec' i.ent)).pend.isSome then lPend i s
  else
    match s.pln.blkL with
    | some b => { s with pln := { s.pln with blkL := some ⟨b.items ++ [i], b.bad || bad⟩ } }
    | none => { s with pln := { s.pln with blkL := some ⟨[i], bad⟩ } }

/-- R498, R516: a value is sent for record r and entry e. -/
def sendL (r e v : Nat) (refresh : Bool) (s : State) : State :=
  let k := entKey r e
  let i : LItem := ⟨r, e, telQty s e, v, s.twn.step, refresh, false, notrace s⟩
  let s := setLEnt k { lEnt s k with last := some v, at' := s.twn.step } s
  if (lEnt s k).pend.isSome then lPend i s else placeL i (profileBad s r) s

/-- R498: a Class L sample: it is sent where it differs from the last value sent, and the first always. -/
def sampleL (r e : Nat) (raw : Nat) (s : State) : State :=
  let k := entKey r e
  let x := lEnt s k
  let v := if telQty s e = 7 then raw ||| x.acc.toNat else raw
  let s := setLEnt k { x with acc := 0 } s
  if x.last = some v then s else sendL r e v false s

/-- R516: pending entries open a block of their own once the up queue has room for it. -/
def refillL (s : State) : State :=
  if s.pln.blkL.isSome || !upRoom s (74 + blkLimit s 0) then s
  else
    match pendItems s with
    | [] => s
    | i :: _ =>
      let k := entKey i.rec' i.ent
      placeL i (profileBad s i.rec') (setLEnt k { lEnt s k with pend := none } s)

/-! ### Class B (R502 to R505, R513) -/

/-- R502: the indices and Y of the samples after those seen, with residue R and the last two Y. -/
def encStep (pred : Bool) (q : Nat) : Int → Int → Int → Bool → List Int → List Int × Int
  | r, _, _, _, [] => ([], r)
  | r, y1, y2, third, x :: xs =>
    let p := if pred && third then 2 * y1 - y2 else y1
    let k := roundDiv (x + r - p) q
    let y := p + k * q
    let t := encStep pred q (x + r - y) y y1 true xs
    (k :: t.1, t.2)

/-- R502: a series: FIRST, the indices, and the residue after it. -/
def encSeries (pred : Bool) (q : Nat) (r0 : Int) : List Int → Int × List Int × Int
  | [] => (0, [], r0)
  | x :: xs =>
    let t := encStep pred q 0 (x + r0) 0 false xs
    (x + r0, t.1, t.2)

/-- The least width of an index in two's complement, up to 33. -/
def idxWidth (k : Int) : Nat :=
  if k = 0 then 0
  else ((List.range 33).find? (fun w => decide (-(2 ^ w : Int) ≤ k) && decide (k < (2 ^ w : Int)))).getD 33 + 1

/-- W of a list of indices. -/
def serWidth (ks : List Int) : Nat := ks.foldl (fun w k => max w (idxWidth k)) 0

/-- R503: PRED is 1 where the linear predictor gives a smaller W. -/
def serPred (q : Nat) (b : BSer) : Bool :=
  decide (serWidth (encSeries true q b.r0 b.xs).2.1 < serWidth (encSeries false q b.r0 b.xs).2.1)

/-- Bits packed from bit 0 of byte 0 upward. -/
def packIdx (w : Nat) (ks : List Int) : List Byte :=
  let n := ks.foldl (fun (a : Nat × Nat) k => (a.1 + unsigned w k * 2 ^ a.2, a.2 + w)) (0, 0)
  leBytes ((n.2 + 7) / 8) n.1

/-- W and the length of a series' entry. -/
def serW (q : Nat) (b : BSer) : Nat := serWidth (encSeries (serPred q b) q b.r0 b.xs).2.1
def serLen (q : Nat) (b : BSer) : Nat := 18 + ((b.xs.length - 1) * serW q b + 7) / 8

/-- The open series: its key and contents. -/
def openSeries (s : State) : List (Nat × BSer) := s.pln.series.filterMap (fun e => e.2.map (fun b => (e.1, b)))
def seriesOf (s : State) (k : Nat) : Option BSer := tabGet (fun _ => none) s.pln.series k
def setSeries (k : Nat) (x : Option BSer) (s : State) : State :=
  { s with pln := { s.pln with series := tabSet (fun _ => none) s.pln.series k x } }

/-- The residue carried for a record and entry. -/
def bRes (s : State) (k : Nat) : Int := tabGet (fun _ => 0) s.pln.bres k

/-- R504: a series closes: its entry joins the block, and R carries over. -/
def closeSeries (k : Nat) (s : State) : State :=
  match seriesOf s k, s.pln.blkB with
  | some b, some blk =>
    let e := k % 1024
    let q := telQ s e
    let pred := serPred q b
    let enc := encSeries pred q b.r0 b.xs
    let w := serWidth enc.2.1
    let bytes := leBytes 2 (k / 1024) ++ [BitVec.ofNat 8 (telQty s e), BitVec.ofNat 8 b.xs.length] ++
      leBytes 2 (b.start.toNat - blk.base.toNat) ++
      [BitVec.ofNat 8 (b2n pred + 2 * telPeriod s e), BitVec.ofNat 8 w] ++ leBytes 4 q ++
      leBytes 6 (unsigned 48 enc.1) ++ packIdx w enc.2.1
    let s := setSeries k none s
    { s with pln := { s.pln with
      bres := tabSet (fun _ => 0) s.pln.bres k enc.2.2
      blkB := some { blk with bytes := blk.bytes ++ bytes, count := blk.count + 1, bad := blk.bad || profileBad s (k / 1024) } } }
  | _, _ => s

/-- The length of the open Class B block with its open series as they stand, one of them replaced by `x`. -/
def bLen (s : State) (k : Nat) (x : Option BSer) : Nat :=
  16 + (match s.pln.blkB with | some b => b.bytes.length | none => 0) +
    (((openSeries s).filter (fun e => decide (e.1 ≠ k))).map (fun e => serLen (telQ s (e.1 % 1024)) e.2)).sum +
    (match x with | some b => serLen (telQ s (k % 1024)) b | none => 0)

/-- R504, R515, R516: the open Class B block closes, and every open series with it. -/
def closeB (s : State) : State :=
  if s.pln.blkB.isNone then s
  else
    let s := each ((openSeries s).map (·.1)) closeSeries s
    match s.pln.blkB with
    | none => s
    | some b =>
      let bad := b.bad || plnBad s
      let blk := mkBlock s 1 s.pln.firstB false b.notrace b.base.toNat s.pln.bseqB b.count b.bytes bad
      let t := sendBlock 1 blk (badDrawn bad blk.length (countClose 1 s))
      let s := { t.2 with pln := { t.2.pln with blkB := none, firstB := false, bseqB := t.2.pln.bseqB + 1 } }
      if t.1 then s else bump (plnCnt 3) s

/-- A new series opens with a sample, in the open block or a new one. -/
def startSeries (k : Nat) (x : Int) (s : State) : State :=
  let b : BSer := ⟨s.twn.step, bRes s k, [x]⟩
  let s := match s.pln.blkB with
    | some blk =>
      if blkLimit s 1 < bLen s k (some b) ∨ blk.base.toNat + 65535 < s.twn.step.toNat then closeB s else s
    | none => s
  let s := if s.pln.blkB.isSome then s else { s with pln := { s.pln with blkB := some ⟨s.twn.step, notrace s, [], 0, false⟩ } }
  setSeries k (some { b with r0 := bRes s k }) s

/-- R504: one more sample of a series: it closes first where an index would need more than 32 bits or its entry would pass
the block's limit, and after it where COUNT reaches B_SAMPLES. -/
def sampleB (r e : Nat) (x : Int) (s : State) : State :=
  let k := entKey r e
  let s := match seriesOf s k with
    | none => startSeries k x s
    | some b =>
      let c : BSer := { b with xs := b.xs ++ [x] }
      if 32 < serW (telQ s e) c ∨ blkLimit s 1 < 16 + serLen (telQ s e) c then startSeries k x (closeSeries k s)
      else if blkLimit s 1 < bLen s k (some c) then startSeries k x (closeB s)
      else setSeries k (some c) s
  match seriesOf s k with
  | some b => if bSamples s ≤ b.xs.length then closeSeries k s else s
  | none => s

/-! ### Sampling (R496 to R498) -/

/-- R496: the sample of an entry is due at this step. -/
def telDue (s : State) (e : Nat) : Bool := decide (s.twn.step.toNat % 2 ^ telPeriod s e = 0)

/-- A sample is taken at this step. -/
def takeSample (r e : Nat) (s : State) : State :=
  match qtyOf s r (telQty s e) with
  | none => s
  | some q =>
    let raw := qtyRaw (recOf s r) (telQty s e)
    if codedB s r e then sampleB r e (2 * qtyVal q raw) s else sampleL r e raw s

/-- The records and entries that produce samples (R500), in order. -/
def sampled (s : State) : List (Nat × Nat) :=
  (assigned s).flatMap (fun r =>
    ((recEntries s r).filter (fun e => (qtyOf s r (telQty s e)).isSome)).map (fun e => (r, e)))

/-- R498: FAULT of every Class L record and entry is gathered at every step. -/
def gatherFault (x : Nat × Nat) (s : State) : State :=
  if telQty s x.2 = 7 then
    let k := entKey x.1 x.2
    setLEnt k { lEnt s k with acc := (lEnt s k).acc ||| (recOf s x.1).fault } s
  else s

/-- R498: the refresh of a Class L value has fallen due. -/
def refreshDue (s : State) (x : Nat × Nat) : Bool :=
  !codedB s x.1 x.2 && decide (lRefresh s ≠ 0) && (lEnt s (entKey x.1 x.2)).last.isSome &&
    (lEnt s (entKey x.1 x.2)).pend.isNone &&
    decide ((lEnt s (entKey x.1 x.2)).at'.toNat + 8000 * lRefresh s ≤ s.twn.step.toNat)

/-- R497: a sample is deferred; its series closes (R504). (log 133 DEDUCED) -/
def deferSample (x : Nat × Nat) (s : State) : State :=
  let s := bump (plnCnt 6) (if codedB s x.1 x.2 then closeSeries (entKey x.1 x.2) s else s)
  { s with pln := { s.pln with deferred := s.pln.deferred ++ [x] } }

/-- R497: a deferred sample whose next instance falls due is skipped. (log 133 DEDUCED) -/
def skipDeferred (due : List (Nat × Nat)) (s : State) : State :=
  let gone := s.pln.deferred.filter due.contains
  bumpBy (plnCnt 7) gone.length { s with pln := { s.pln with deferred := s.pln.deferred.filter (fun x => !due.contains x) } }

/-- R496 to R498: the samples of one step: those due, then deferred ones, then refreshes, in the spare capacity of 512.
(log 133 DEDUCED) -/
def sampleStep (s : State) : State :=
  let all := sampled s
  let due := all.filter (fun x => telDue s x.2)
  let s := each all gatherFault (skipDeferred due s)
  let old := s.pln.deferred.take (512 - due.length)
  let s := each (due.take 512) (fun x => takeSample x.1 x.2) s
  let s := each old (fun x => takeSample x.1 x.2) { s with pln := { s.pln with deferred := s.pln.deferred.drop old.length } }
  let late := due.drop 512
  let s := each late deferSample s
  let s := if late = [] then s else raise 153 s
  let spare := 512 - due.length - old.length
  each ((all.filter (refreshDue s)).take spare)
    (fun x s => match (lEnt s (entKey x.1 x.2)).last with | some v => sendL x.1 x.2 v true s | none => s) s

/-! ### Class S (R507 to R510, R514) -/

/-- A record's accumulator. -/
def sAcc (s : State) (r : Nat) : SAcc := tabGet (fun _ => {}) s.pln.accs r
def setAcc (r : Nat) (x : SAcc) (s : State) : State :=
  { s with pln := { s.pln with accs := tabSet (fun _ => {}) s.pln.accs r x } }

/-- One step of a summary slot. -/
def slotStep (v : Int) (x : SSlot) : SSlot :=
  { x with
    sum := x.sum + v
    min := some (match x.min with | some m => if m < v then m else v | none => v)
    or := x.or ||| v.toNat
    last := v
    prev := some (x.prev.getD v) }

/-- R497, R509: the accumulators read a record at every step. -/
def accStep (r : Nat) (s : State) : State :=
  let a := sAcc s r
  let x := recOf s r
  let h := headNow s r
  let es := sumEntries s r
  let slots := (List.range 3).map (fun i =>
    let sl := a.slots.getD i {}
    match es[i]? with
    | none => sl
    | some e => match qtyOf s r (telQty s e) with
      | none => sl
      | some q => slotStep (qtyVal q (qtyRaw x (telQty s e))) sl)
  setAcc r { a with
    n := a.n + 1
    flags := a.flags ||| h / 16
    online := bitOf (w32 h) 3
    ev0 := some (a.ev0.getD x.events)
    ev := x.events
    step0 := some (a.step0.getD x.step)
    step := x.step
    slots := slots } s

/-- R509, R510: the code of a slot over n steps, and the slot at the start of the next round. -/
def slotClose (q : Qty) (n : Nat) (x : SSlot) : Nat × SSlot :=
  let next : SSlot := { last := x.last, prev := some x.last, res := x.res }
  match q.mode with
  | .last => ((f16 q.code x.last 1).1, next)
  | .min => ((f16 q.code (x.min.getD 0) 1).1, next)
  | .or => (x.or % 65536, next)
  | .mean =>
    let w := 16 * x.sum + x.res
    let c := f16 q.code w (16 * n)
    (c.1, { next with res := w - n * c.2 })
  | .incr =>
    let d := x.last - x.prev.getD x.last
    let v : Int := if q.bytes = 4 then d % 2 ^ 32 else d
    let w := 16 * v + x.res
    let c := f16 q.code w 16
    (c.1, { next with res := w - c.2 })

/-- R507, R509: the summary of a record's round from its accumulator, and the accumulator for the next. -/
def accClose (s : State) (r : Nat) (a : SAcc) : BitVec 64 × SAcc :=
  let es := sumEntries s r
  let cs := (List.range 3).map (fun i =>
    let sl := a.slots.getD i {}
    match es[i]? with
    | none => (0, sl)
    | some e => match qtyOf s r (telQty s e) with
      | none => (0, sl)
      | some q => slotClose q a.n sl)
  let flags := (b2n a.online + 2 * (a.flags % 8) + 16 * b2n (decide (a.step0 = some a.step))) ||| a.head
  let head := recKind s r + 1 + 8 * flags
  let ev := min 255 ((a.ev - a.ev0.getD a.ev).toNat)
  (mkSum head ev (cs.map (·.1)), { ev0 := some a.ev, ev := a.ev, step0 := some a.step, step := a.step, slots := cs.map (·.2) })

/-- R516: a slot's round is merged with one that was not queued. -/
def mergeSlot (old new : SSlot) : SSlot :=
  { new with
    sum := old.sum + new.sum
    min := match old.min, new.min with | some x, some y => some (if x < y then x else y) | none, m => m | m, none => m
    or := old.or ||| new.or
    prev := old.prev
    res := old.res }

/-- R516: a round is merged with the rounds of a summary that was not queued. -/
def mergeAcc (i : SItem) (old new : SAcc) : SAcc :=
  { new with
    n := old.n + new.n
    rounds := old.rounds + 1
    head := old.head ||| (i.sum.toNat % 256 / 8)
    ev0 := old.ev0
    slots := (List.range 3).map (fun k => mergeSlot (old.slots.getD k {}) (new.slots.getD k {})) }

/-- Runs of consecutive EPAs: OWN, the first EPA and the summaries. -/
def sRuns : List SItem → List (Nat × Word × List (BitVec 64))
  | [] => []
  | i :: rest =>
    match sRuns rest with
    | (own, epa, xs) :: more =>
      if own = i.own ∧ epa = i.epa + 1 then (own, i.epa, i.sum :: xs) :: more else (i.own, i.epa, [i.sum]) :: (own, epa, xs) :: more
    | [] => [(i.own, i.epa, [i.sum])]

/-- The length of a Class S block, and its bytes (R513). -/
def sLen (xs : List SItem) : Nat := 16 + 8 * (sRuns xs).length + 8 * xs.length
def sBytes (rounds : Nat) (xs : List SItem) : List Byte :=
  (sRuns xs).flatMap (fun r => leBytes 4 r.2.1.toNat ++ leBytes 2 r.2.2.length ++
    [BitVec.ofNat 8 r.1, BitVec.ofNat 8 rounds] ++ r.2.2.flatMap (fun v => leBytes 8 v.toNat))

/-- R479, R516: a summary of a block that was not queued: the module's own waits for room or the next round; a child's stays in
the forward buffer. (log 132 DEDUCED) -/
def sBack (b : SBlk) (i : SItem) (s : State) : State :=
  match i.mine with
  | some _ => { s with pln := { s.pln with unsent := s.pln.unsent ++ [(b.base, b.rounds, i)] } }
  | none => { s with hier := { s.hier with stuck := s.hier.stuck ++ [(b.base, b.rounds, i.epa, i.own, i.sum, i.notrace)] } }

/-- R512, R515, R516: the open Class S block closes. -/
def closeS (s : State) : State :=
  match s.pln.blkS with
  | none => s
  | some b =>
    let s := { s with pln := { s.pln with blkS := none } }
    let bad := plnBad s
    let blk := mkBlock s 2 s.pln.firstS (decide (1 < b.rounds)) (b.items.any (·.notrace)) b.base.toNat s.pln.bseqS (sRuns b.items).length
      (sBytes b.rounds b.items) bad
    let t := sendBlock 2 blk (badDrawn bad blk.length (countClose 2 s))
    if t.1 then { t.2 with pln := { t.2.pln with firstS := false, bseqS := t.2.pln.bseqS + 1 } }
    else each b.items (sBack b) t.2

/-- A summary is placed in the open Class S block of its round. (log 132 DEDUCED) -/
def placeS (base : Word) (rounds : Nat) (i : SItem) (s : State) : State :=
  let s := match s.pln.blkS with
    | some b => if b.base = base ∧ b.rounds = rounds ∧ sLen (b.items ++ [i]) ≤ blkLimit s 2 then s else closeS s
    | none => s
  match s.pln.blkS with
  | some b => { s with pln := { s.pln with blkS := some { b with items := b.items ++ [i] } } }
  | none => { s with pln := { s.pln with blkS := some ⟨base, rounds, [i]⟩ } }

/-- Of record r. -/
def ofRec (r : Nat) (e : Word × Nat × SItem) : Bool := decide (e.2.2.mine.map (·.1) = some r)

/-- R509, R516: the summary of own record r for the round that ends; rounds not queued are merged into it. -/
def roundRec (r : Nat) (s : State) : State :=
  let now := sAcc s r
  if now.n = 0 then s
  else
    let a := match s.pln.unsent.find? (ofRec r) with
      | some (_, _, i) => match i.mine with | some (_, old) => mergeAcc i old now | none => now
      | none => now
    let s := { s with pln := { s.pln with unsent := s.pln.unsent.filter (fun e => !ofRec r e) } }
    let c := accClose s r a
    let s := if a.rounds = 0 then s else bump (plnCnt 5) s
    placeS (s.twn.step.setWidth 32) (a.rounds + 1) ⟨ownEpa s r, ownKind s, c.1, notrace s, some (r, a)⟩ (setAcc r c.2 s)

/-- R518: PLN_SUMMARY fires once the last of the module's own summaries of a round is queued or written; `formed`: there are some. A
block of a class that PLN_LOCAL does not enable is neither. -/
def summaryDone (formed : Bool) (s : State) : State :=
  if formed && decide (s.pln.unsent = []) && (goesUp s 2 || bitOf (getR s 0x410008) 18) then raise 154 s else s

/-- R516: own summaries that were not queued go once the up queue has room. -/
def retryOwn (s : State) : State :=
  if s.pln.unsent = [] ∨ upRoom s (74 + blkLimit s 2) = false then s
  else
    let xs := s.pln.unsent
    summaryDone true (closeS (each xs (fun e s => placeS e.1 e.2.1 e.2.2 s)
      { s with pln := { s.pln with unsent := [] } }))

/-- R506: the plane starts. -/
def planeStarts (s : State) : State := setB plnRunning true { s with pln := {} }

end Sys2Proof.Machine
end

