-- ==== Sys2Proof/Machine/HierOps.lean ====
section
/-! DEFINITION. Managers and workers: presence, epochs, the effect of commands, acknowledgement, barriers, credit, snapshots
and transfers (R454 to R490). -/

namespace Sys2Proof.Machine

/-! ### Registers and frames -/

/-- Counter i of R489. -/
def hierCnt (i : Nat) : Nat := 0x400100 + 4 * i
def declared (s : State) : Nat := getF s ⟨0x400014, 0, 8⟩
def ringWin (s : State) : Nat := getF s ⟨0x40000C, 0, 16⟩
def downMtu (s : State) : Nat := getF s ⟨0x400010, 0, 14⟩

/-- The hierarchy's twins work: CTRL in RUN at READY, NET ON, and not both twins failed. -/
def hierOn (s : State) : Bool := ctrlRun s && atReady s && netOn s && !(twinDead s .a && twinDead s .b)

/-- R460: they have taken their first step after READY, which sends HELLO before any other frame. (log 122 DEDUCED) -/
def hierUp (s : State) : Bool := hierOn s && !s.hier.owed

/-- The group addresses of R456, first octet in [7:0]. -/
def groupAddr : BitVec 48 := 0x000052545303
def wakeAddr : BitVec 48 := 0x010052545303

/-- A header that this module builds. -/
def ownHdr (s : State) : HierHdr :=
  { ackReq := false, down := false, scope := 0, own := 0, sched := false, fine := false, issuer := ownOrigin s,
    sender := ownOrigin s, epoch := s.hier.epoch, result := 0, cmdId := 0, epa := 0, tSec := 0, grace := 0, tNs := 0 }

/-- R457: the first 30 bytes of a frame's header. -/
def hdrBytes (mtype : Nat) (h : HierHdr) (len : Nat) : List Byte :=
  let flags := b2n h.ackReq + 2 * b2n h.down + 4 * h.scope.toNat + 16 * h.own.toNat + 64 * b2n h.sched + 128 * b2n h.fine
  [1, BitVec.ofNat 8 mtype] ++ leBytes 2 flags ++ leBytes 2 h.issuer.toNat ++ leBytes 2 h.sender.toNat ++ [h.epoch, h.result] ++
    leBytes 2 h.cmdId.toNat ++ wordBytes h.epa ++ leBytes 6 h.tSec.toNat ++ leBytes 2 h.grace.toNat ++ wordBytes h.tNs ++ leBytes 2 len

/-- R457: a frame after its EtherType: the header, its HCRC, the body. -/
def hierBytes (mtype : Nat) (h : HierHdr) (body : List Byte) : List Byte :=
  let b := hdrBytes mtype h body.length
  b ++ leBytes 2 (crc16 b).toNat ++ body

/-- R456: an upward frame goes to the parent's address, once it is known. -/
def sendUp (mtype queue : Nat) (h : HierHdr) (body : List Byte) (s : State) : State :=
  match s.hier.parentMac with
  | some m => emit (.hier queue m (hierBytes mtype h body)) s
  | none => s

/-- A frame to the down ring. -/
def sendDown (mtype queue : Nat) (h : HierHdr) (body : List Byte) (s : State) : State :=
  emit (.hier queue groupAddr (hierBytes mtype { h with down := true } body)) s

/-! ### Children (R461, R478) -/

/-- Child i. -/
def childOf (s : State) (i : Nat) : ChildSt := tabGet (fun _ => {}) s.hier.children i
def setChild (i : Nat) (x : ChildSt) (s : State) : State :=
  { s with hier := { s.hier with children := tabSet (fun _ => {}) s.hier.children i x } }

/-- The present children, and the declared ones that are not. -/
def presentKids (s : State) : List Nat :=
  s.hier.children.filterMap (fun e => if e.2.state = 1 then some e.1 else none)
def lostKids (s : State) : List Nat := (List.range (min 128 (declared s))).filter (fun i => decide ((childOf s i).state ≠ 1))

/-- The children of a manager: declared, or seen. -/
def allKids (s : State) : List Nat := (List.range 128).filter (fun i => decide (i < declared s) || decide ((childOf s i).state ≠ 0))

/-- A map of child numbers as word k. -/
def mapWord (xs : List Nat) (k : Nat) : Word := xs.foldl (fun m i => if i / 32 = k then m ||| w32 (2 ^ (i % 32)) else m) 0

/-- R461, R478: the registers that report the children, and WINDOW. -/
def childRegs (s : State) : State :=
  let ps := presentKids s
  let ls := lostKids s
  let s := each (List.range 4) (fun k s => setR (0x400020 + 4 * k) (mapWord ps k) (setR (0x400030 + 4 * k) (mapWord ls k) s)) s
  setF ⟨0x40000C, 16, 16⟩ (ringWin s / max 1 (declared s))
    (setF ⟨0x400014, 8, 8⟩ ps.length (setF ⟨0x400014, 16, 8⟩ ls.length s))

/-- R461: a frame from child i: it is present. -/
def seen (i : Nat) (s : State) : State :=
  if (childOf s i).state = 1 then s else childRegs (setChild i { childOf s i with state := 1 } s)

/-- A frame whose SENDER names a child. -/
def seenFrom (h : HierHdr) (s : State) : State :=
  match childIndex s h.sender with | some i => seen i s | none => s

/-- WINDOW (R478). -/
def window (s : State) : Nat := ringWin s / max 1 (declared s)

/-- R459: CREDIT frames for a list of children, at most 36 in each. -/
def creditFrames : Nat → List Nat → State → State
  | 0, _, s => s
  | n + 1, is, s =>
    if is = [] then s
    else
      let now := is.take 36
      creditFrames n (is.drop 36) (sendDown 0x03 6 (ownHdr s)
        ([BitVec.ofNat 8 now.length, 0] ++ now.flatMap (fun i => BitVec.ofNat 8 i :: wordBytes (childOf s i).limit)) s)

/-- R478, R479: LIMIT of a child follows RELEASED unless credit is withheld; a change is sent. (log 126 DEDUCED) -/
def giveCredit (i : Nat) (s : State) : State :=
  let c := childOf s i
  let l := c.released + w32 (window s)
  if s.hier.frozen || decide (c.limit = l) then s else creditFrames 1 [i] (setChild i { c with limit := l } s)

/-- R478: LIMIT of every child of a manager. -/
def giveCredits (s : State) : State := if hierRole s ≤ 1 then each (allKids s) giveCredit s else s

/-- R479: the cells in use of the forward buffer. (log 126 DEDUCED) -/
def fwdUsed (s : State) : Nat :=
  (s.hier.fwd.map (·.2)).sum + (8 * s.hier.stuck.length + 255) / 256 +
    (8 * (s.hier.packs.map (fun p => p.sums.length)).sum + 255) / 256

/-- R479: credit is withheld above 75 % of 4,096 cells, and resumes below 50 %. (log 126 DEDUCED) -/
def judgeCredit (s : State) : State :=
  if s.hier.frozen then
    if fwdUsed s < 2048 then each (allKids s) giveCredit { s with hier := { s.hier with frozen := false } } else s
  else if 3072 < fwdUsed s then raise 146 { s with hier := { s.hier with frozen := true } }
  else s

/-- R478: a TELEM or SNAPDATA frame of child i with its SENT: cells found lost, and its own, are released.
(log 126 DEDUCED) -/
def chargeCells (i : Nat) (sent : Word) (len : Nat) (s : State) : State :=
  let c := childOf s i
  let cells := upCells len
  let gap := (sent - w32 cells - c.sent).toNat
  let lost := if gap < 2 ^ 31 then gap else 0
  giveCredit i (bumpBy (hierCnt 5) lost (setChild i { c with sent := sent, released := c.released + w32 (cells + lost) } s))

/-- R478: a child starts a frame while its credit allows. -/
def creditFor (s : State) (cells : Nat) : Bool := decide ((s.hier.limit - s.hier.sent - w32 cells).toNat < 2 ^ 31)

/-- R478, R480: frames leave the up queue in order while credit allows. -/
def upDrain : Nat → State → State
  | 0, s => s
  | n + 1, s =>
    match s.hier.upq with
    | [] => s
    | e :: es =>
      if creditFor s (upCells e.len) && s.hier.parentMac.isSome then
        let sent := s.hier.sent + w32 (upCells e.len)
        let s := { s with hier := { s.hier with upq := es, sent := sent } }
        upDrain n (sendUp e.mtype 1 { ownHdr s with own := BitVec.ofNat 2 e.own } (e.pre ++ wordBytes sent ++ e.post) s)
      else s

/-- R479, R516: own summaries that found no room go, and children's are repacked, once the up queue has some.
(log 132 DEDUCED) -/
def retryStuck (s : State) : State :=
  let s := retryOwn s
  if s.hier.stuck = [] ∨ upRoom s (74 + blkLimit s 2) = false then s
  else each s.hier.stuck (fun x s => placeS x.1 x.2.1 ⟨x.2.2.1, x.2.2.2.1, x.2.2.2.2.1, x.2.2.2.2.2, none⟩ s)
    { s with hier := { s.hier with stuck := [] } }

/-! ### Presence (R460, R461) -/

/-- R462: each start adds 1 to the epoch in FRAM. -/
def newEpochAtStart (s : State) : State := { s with hier := { s.hier with epoch := s.hier.epoch + 1 } }

/-- HIER_STAT as the held epochs give it. -/
def hierStat (s : State) : State :=
  setF ⟨0x400004, 8, 8⟩ s.hier.epoch.toNat (setF ⟨0x400004, 16, 8⟩ ((s.hier.heldParent.getD 0).toNat)
    (setF ⟨0x400004, 24, 8⟩ ((s.hier.heldRoot.getD 0).toNat) s))

/-- R460: a manager's HELLO. -/
def sendHello (s : State) : State :=
  let root := if hierRole s = 0 then s.hier.epoch else s.hier.heldRoot.getD 0
  sendDown 0x01 6 (ownHdr s) ([s.hier.epoch, root] ++ leBytes 2 (window s) ++ leBytes 2 (downMtu s) ++
    leBytes 2 (getF s ⟨0x400008, 0, 8⟩)) s

/-- R461: a child's ANNOUNCE, which goes to the group address. -/
def sendAnnounce (s : State) : State :=
  let flags := b2n s.hier.first + 2 * b2n (imgSealed s) + 4 * b2n (ctrlRun s)
  emit (.hier 5 groupAddr (hierBytes 0x02 (ownHdr s) (wordBytes (getR s 0x10014) ++ wordBytes s.hier.sent ++ leBytes 2 flags)))
    { s with hier := { s.hier with first := false } }

/-- A module with children, and one with a parent. -/
def isManager (s : State) : Bool := decide (hierRole s ≤ 1)
def isChild (s : State) : Bool := decide (hierRole s = 1) || decide (hierRole s = 2)

/-- R460, R461: what a module sends at its first step after READY. -/
def sendOwed (s : State) : State :=
  if s.hier.owed then
    let s := { s with hier := { s.hier with owed := false } }
    when (isChild s) sendAnnounce (when (isManager s) sendHello s)
  else s

/-! ### Epochs and scope (R463, R465) -/

/-- The epoch held for an issuer; none where none is held. (log 130 DEDUCED) -/
def heldEpoch (s : State) (o : BitVec 16) : Option (BitVec 8) :=
  if o = ownOrigin s then some s.hier.epoch
  else if orgRole o = 0 then s.hier.heldRoot
  else if parentOrigin s = some o then s.hier.heldParent
  else none

/-- An issuer's epoch is adopted. (log 130 DEDUCED) -/
def adoptEpoch (o : BitVec 16) (e : BitVec 8) (s : State) : State :=
  if o = ownOrigin s then s
  else
    let s := if parentOrigin s = some o then { s with hier := { s.hier with heldParent := some e } } else s
    hierStat (if orgRole o = 0 then { s with hier := { s.hier with heldRoot := some e } } else s)

/-- R463: whether a frame's epoch is accepted; an accepted one is adopted, a stale one counted and raised.
(log 130 DEDUCED) -/
def judgeEpoch (h : HierHdr) (s : State) : Bool × State :=
  match heldEpoch s h.issuer with
  | none => (true, adoptEpoch h.issuer h.epoch s)
  | some e =>
    if (h.epoch - e).toNat < 128 then (true, adoptEpoch h.issuer h.epoch s)
    else (false, raise 150 (bump (hierCnt 2) s))

/-- The module lies in an issuer's subtree, or is the issuer. -/
def inSubtree (s : State) (o : BitVec 16) : Bool :=
  decide (o = ownOrigin s) || (decide (orgRole o = 0) && decide (hierRole s ≠ 3)) ||
    (decide (orgRole o = 1) && decide (hierRole s = 2) && decide (orgArea o = hierArea s))

/-- R465: the module is selected. (log 164 DEDUCED) -/
def selected (s : State) (h : HierHdr) : Bool :=
  inSubtree s h.issuer &&
    (if h.scope.toNat ≤ 1 then ownsEpa s h.epa h.own.toNat
     else decide (h.scope = 3) || decide (h.issuer ≠ ownOrigin s))

/-- The declared or present children through which a command reaches modules below (R465, R474). -/
def childrenFor (s : State) (h : HierHdr) : List Nat :=
  if !isManager s || !inSubtree s h.issuer then []
  else if 2 ≤ h.scope.toNat then
    (List.range 128).filter (fun i => decide (i < declared s) || decide ((childOf s i).state = 1))
  else if hierRole s = 0 then (if h.own.toNat ≤ 1 then [epaArea h.epa] else [])
  else if h.own = 0 ∧ epaArea h.epa = hierArea s then [epaWorker h.epa] else []

/-! ### What commands do (R464 to R468) -/

/-- A luminaire's KIND (R466). -/
def luminaire (s : State) (r : Nat) : Bool := recAssigned s r && decide (recKind s r ≤ 2)

/-- The luminaire records that a LEVEL selects (R465). -/
def levelRecs (s : State) (h : HierHdr) : List Nat :=
  if h.scope = 0 then [epaRecord h.epa].filter (luminaire s)
  else if h.scope = 2 then
    (assigned s).filter (fun r => luminaire s r && decide (recGroup s r = getBits h.epa 0 16))
  else (assigned s).filter (luminaire s)

/-- R227 to R229: the twins take a request for a string's lead as their reference; in LIVE they issue it. -/
def twinRequest (ch : Nat) (r : Ref) (s : State) : State :=
  if leadOf s ch = ch ∧ chOn s ch = true then
    let s := { s with drv := { s.drv with held := tabSet (fun _ => none) s.drv.held ch (some r) } }
    emit (.issue (.ref ch r)) s
  else s

/-- R229, R260, R468: the twins issue a chain word, and hold it for entry to LIVE. -/
def twinWord (port pos : Nat) (w : BitVec 48) (s : State) : State :=
  let s := if driveLive s then s else setChain port { chain s port with held := tabSet (fun _ => none) (chain s port).held pos (some w) } s
  emit (.issue (.word port pos w)) s

/-- R466: a level acts on one record. (log 65 DESIGN CHOICE) -/
def levelRec (code ramp : BitVec 16) (log : Bool) (r : Nat) (s : State) : State :=
  let src := recSource s r
  let s := recTarget code.toNat r s
  match recKind s r with
  | 0 => match stringLead s src with
    | some l => twinRequest l ⟨code, ramp, true, log, 1⟩ s
    | none => s
  | 1 => twinWord (src / 256 % 4) (src % 128) (levelWord (chnFields s (src / 256 % 4)) code.toNat) s
  | _ =>
    let e := src % 1024
    issueQuerad (getF s (leaseRadio e)) 0x10 (.short (BitVec.ofNat 16 (e + 1))) (itemBytes (.level code ramp log)) s

/-- R481: the state as it stood at the release of the snapshot that entry e held. (log 129 DEDUCED) -/
def asOf (e : Nat) (s : State) : State :=
  match s.hier.atT.find? (fun x => decide (x.1 = e)) with
  | some x => { s with regs := x.2.regs, drv := x.2.drv, chain := x.2.chain, mtr := x.2.mtr, air := x.2.air }
  | none => s

/-- R481, R511: the snapshot of every assigned record at the release of entry e, with the inputs captured before it.
(log 129 DEDUCED) -/
def takeSnapshot (e : Nat) (h : HierHdr) (id : BitVec 16) (before : List SplitIn) (s : State) : State :=
  let t := asOf e s
  let t := each (assigned t) recUpdate (each before recInput t)
  let sums := (assigned t).foldl (fun (m : Tab (BitVec 64)) r => tabSet (fun _ => 0) m r (snapSum t r)) []
  { s with
    hier := { s.hier with snap := some ⟨id, h.tSec, h.tNs, notrace (asOf e s), sums⟩, atT := s.hier.atT.filter (fun x => decide (x.1 ≠ e)) }
    free := t.free }

/-- Commands armed and not yet released, or released and not yet presented. -/
def liveArmed (s : State) : List ArmedCmd :=
  s.hier.armed.filter (fun a => decide (schState s a.entry = 1) ||
    (match a.op with | .level _ _ _ => true | .snapshot _ => true | _ => false))

/-- A free firmware entry (R467). -/
def freeEntry (s : State) : Option Nat :=
  ((List.range 32).map (· + 32)).find? (fun e =>
    decide (schState s e ≠ 1) && !(liveArmed s).any (fun a => decide (a.entry = e)))

/-- R467: the entry's fields. (log 88 DEDUCED, 90 DEDUCED) -/
def armFields (e : Nat) (h : HierHdr) (action arg sec ns : Nat) (s : State) : State :=
  let s := setR (schReg e 0) (w32 sec) (setR (schReg e 4) (w32 (sec / 2 ^ 32 % 2 ^ 16 + h.grace.toNat * 2 ^ 16)) s)
  let s := setR (schReg e 8) (w32 (ns % 2 ^ 30)) (setR (schReg e 0x10) 0 (setR (schReg e 0x14) (w32 arg) s))
  setR (schReg e 0xC) (w32 (action + 16 * b2n h.fine + 256 * (h.cmdId.toNat % 256))) s

/-- R467: a scheduled command is armed; the answer reports the arming. (log 88 DEDUCED) -/
def armCommand (h : HierHdr) (op : HierOp) (s : State) : Code × State :=
  match freeEntry s with
  | none => (.busy, s)
  | some e =>
    let t := h.tSec.toNat * 1000000000 + h.tNs.toNat
    let soon := nowUnits s / 32768 + 2000000
    let missed := decide ((t + h.grace.toNat * 1000000000) * 32768 < nowUnits s)
    let x : Nat × Nat × Nat × Nat := match op with
      | .power w => (3, w.toNat, h.tSec.toNat, h.tNs.toNat)
      | .reset k => if t < soon ∧ missed = false then (4, k, soon / 1000000000, soon % 1000000000) else (4, k, h.tSec.toNat, h.tNs.toNat)
      | _ => (2, (freeOf s).toNat, h.tSec.toNat, h.tNs.toNat)
    let s := armFields e h x.1 x.2.1 x.2.2.1 x.2.2.2 { (drawn s) with hier := { s.hier with armed := liveArmed s ++ [⟨e, h, op⟩] } }
    let s := if schDue s e then schTick [e] schJudge schInGrace s else setSch e 1 s
    if schState s e = 3 then (.late, { s with hier := { s.hier with armed := s.hier.armed.filter (fun a => decide (a.entry ≠ e)) } })
    else (.ok, s)

/-- The summaries of own records from r on, `n` of them. -/
def ownSums (sn : SnapSt) (r n : Nat) : List (BitVec 64) := (List.range n).map (fun i => tabGet (fun _ => 0) sn.sums (r + i))

/-- R483: the greatest COUNT of a SNAPDATA frame on the up ring. -/
def snapCount (s : State) : Nat := (upMtu s - 84) / 8

/-- R483: a SNAPDATA frame joins the up queue. (log 127 DEDUCED) -/
def pushSnap (id : BitVec 16) (epa : Word) (own : Nat) (nt : Bool) (xs : List (BitVec 64)) (s : State) : State :=
  upPush ⟨0x21, 70 + 14 + 8 * xs.length,
    leBytes 2 id.toNat ++ wordBytes epa ++ leBytes 2 xs.length ++ [BitVec.ofNat 8 (b2n nt), 0],
    xs.flatMap (fun v => leBytes 8 v.toNat), own⟩ s

/-- R483: the module's own records go up while the up queue has room. -/
def pumpOwn : Nat → State → State
  | 0, s => s
  | n + 1, s =>
    match s.hier.sendNext, s.hier.snap with
    | some r, some sn =>
      let k := min (snapCount s) (2048 - r)
      if k = 0 ∨ upRoom s (84 + 8 * k) = false then s
      else
        let s := pushSnap sn.id (ownEpa s r) (ownKind s) sn.notrace (ownSums sn r k) s
        pumpOwn n { s with hier := { s.hier with sendNext := if r + k < 2048 then some (r + k) else none } }
    | _, _ => s

/-- R483: children's records go up, repacked, while the up queue has room. `all`: the last short frame too. -/
def pumpPacks (id : BitVec 16) (all : Bool) : Nat → State → State
  | 0, s => s
  | n + 1, s =>
    match s.hier.packs with
    | [] => s
    | p :: ps =>
      let k := min (snapCount s) p.sums.length
      if k = 0 ∨ upRoom s (84 + 8 * k) = false ∨ (ps = [] ∧ k < snapCount s ∧ all = false) then s
      else
        let s := pushSnap id p.epa p.own p.notrace (p.sums.take k) s
        let rest := p.sums.drop k
        pumpPacks id all n { s with hier := { s.hier with
          packs := if rest = [] then ps else { p with epa := p.epa + w32 k, sums := rest } :: ps } }

/-- Children's records join those that wait, in runs of consecutive EPAs. -/
def addPack (p : SnapPack) (xs : List SnapPack) : List SnapPack :=
  match xs.reverse with
  | q :: more =>
    if q.own = p.own ∧ q.notrace = p.notrace ∧ p.epa = q.epa + w32 q.sums.length then
      more.reverse ++ [{ q with sums := q.sums ++ p.sums }]
    else xs ++ [p]
  | [] => [p]

/-- R483: a summary's place in REGION 3, by eighths of its offset. -/
def regionAt (own : Nat) (epa : Word) : Nat :=
  if own = 0 then epa.toNat % 2 ^ 25
  else if own = 1 then 0x2000000 + epaArea epa * 2048 + epaRecord epa
  else 0x2040000 + epaRecord epa

/-- R483: summaries from an EPA on are placed in REGION 3, and counted. -/
def placeRegion (own : Nat) (epa : Word) (xs : List (BitVec 64)) (s : State) : State :=
  bumpBy 0x4000B4 xs.length { s with hier := { s.hier with region3 := tabPut (fun _ => 0) s.hier.region3 (regionAt own epa) xs } }

/-- HIER_COLL. -/
def collRunning : Fld := ⟨0x4000B0, 16, 1⟩
def collDone : Fld := ⟨0x4000B0, 17, 1⟩

/-- R483, R490: a collection ends. (log 127 DEDUCED) -/
def endCollect (s : State) : State :=
  match s.hier.coll with
  | none => s
  | some c =>
    let s := if hierRole s = 1 then pumpPacks c.id true 4096 s else s
    let s := setB collDone true (setB collRunning false { s with hier := { s.hier with coll := none } })
    if c.mine then raise 148 s else s

/-- R483: COLLECT is carried out, or passed through where the module is not in scope or holds no such snapshot. `mine`: it was
issued here. (log 123 DEDUCED, 127 DEDUCED) -/
def startCollect (h : HierHdr) (id : BitVec 16) (mine : Bool) (s : State) : State :=
  let sel := selected s h && decide (s.hier.snap.map (·.id) = some id)
  let kids := (childrenFor s h).filter (fun i => decide ((childOf s i).state = 1))
  let s := if sel && isChild s then pumpOwn 2048 { s with hier := { s.hier with sendNext := some 0 } } else s
  if !isManager s then s
  else
    let s := setB collDone false (setB collRunning true (setF ⟨0x4000B0, 0, 16⟩ id.toNat (setR 0x4000B4 0
      { s with hier := { s.hier with coll := some ⟨id, kids, mine⟩, region3 := [] } })))
    let s := match sel, hierRole s, s.hier.snap with
      | true, 0, some sn => placeRegion 2 (ownEpa s 0) (ownSums sn 0 2048) s
      | _, _, _ => s
    if kids = [] then endCollect s else s

/-- R468, R483: the collection of a snapshot still runs. -/
def collecting (s : State) (id : BitVec 16) : Bool :=
  decide (s.hier.coll.map (·.id) = some id) || (s.hier.sendNext.isSome && decide (s.hier.snap.map (·.id) = some id))

/-- R483: a manager with modules in scope below it lets their collection through. (log 127 DEDUCED) -/
def passCollect (h : HierHdr) (op : HierOp) (mine : Bool) (s : State) : State :=
  match op with
  | .collect id => if !imgSealed s || (childrenFor s h).isEmpty || collecting s id then s else startCollect h id mine s
  | _ => s

/-- R464, R468: CANCEL. (log 123 DEDUCED) -/
def cancelCommand (h : HierHdr) (id : BitVec 16) (s : State) : Code × State :=
  match (liveArmed s).find? (fun a => decide (a.hdr.cmdId = id) && decide (a.hdr.issuer = h.issuer) &&
      decide (a.hdr.epoch = h.epoch) && decide (schState s a.entry = 1)) with
  | some a => (.ok, setSch a.entry 0 (unhand a.entry
      { s with hier := { s.hier with armed := (liveArmed s).filter (fun b => decide (b.entry ≠ a.entry)) } }))
  | none => (.state, s)

/-- R106: the reset that KIND names; 0 and 3 have no effect. (log 29 DEDUCED) -/
def resetKind (k : Nat) : Option StartKind := if k = 1 then some .controller else if k = 2 then some .module else none

/-- R455, R464 to R468: a command acts on this module, which it selects. (log 29 DEDUCED) -/
def doCommand (h : HierHdr) (op : HierOp) (s : State) : Code × State :=
  if !imgSealed s ∨ (h.scope = 0 ∧ recAssigned s (epaRecord h.epa) = false) then (.state, s)
  else if h.scope = 2 ∧ ∀ r ∈ assigned s, recGroup s r ≠ getBits h.epa 0 16 then (.ok, s)
  else
    match op with
    | .level code ramp log =>
      if h.scope = 0 ∧ levelRecs s h = [] then (.state, s)
      else if h.sched then armCommand h op s
      else (.ok, each (levelRecs s h) (levelRec code ramp log) s)
    | .power w =>
      if h.sched then armCommand h op s
      else
        let v := w.setWidth 32
        let c := if flag s pwrBusy then Code.busy else if pwrRefused s v then Code.state else Code.ok
        (c, byPort false .equal (pwrIssue v (h.cmdId.toNat % 256) false h.cmdId.toNat h.issuer.toNat) s)
    | .reset k =>
      if h.sched then armCommand h op s
      else match resetKind k with
        | some kind => (resetAnswer s kind, byPort false .equal (resetRequest kind false) s)
        | none => (.ok, s)
    | .snapshot _ =>
      if !h.sched || (liveArmed s).any (fun a => match a.op with | .snapshot _ => true | _ => false) then (.state, s)
      else armCommand h op s
    | .collect id =>
      if decide (s.hier.snap.map (·.id) ≠ some id) || collecting s id then (.state, s)
      else (.ok, startCollect h id (decide (h.issuer = ownOrigin s)) s)
    | .cancel id => cancelCommand h id s

/-- A command at this module: what it does where it is selected, and a collection that goes through it. Answers the code. -/
def actCommand (h : HierHdr) (op : HierOp) (sel mine : Bool) (s : State) : Code × State :=
  let r := if sel then doCommand h op s else (Code.ok, s)
  (r.1, if sel && decide (r.1 = .ok) then r.2 else passCollect h op mine r.2)

/-- R467, R490: the command is applied as it is taken, and not armed. -/
def appliesNow (h : HierHdr) (op : HierOp) : Bool :=
  !h.sched || (match op with | .collect _ => true | .cancel _ => true | _ => false)

/-! ### Acknowledgement (R470, R471, R473) -/

/-- The eight counts with one at a code. -/
def oneCount (c : Code) : List Nat := (List.range 8).map (fun i => b2n (decide (i = c.num)))

/-- Sums of counts. (log 124 DEDUCED) -/
def addCounts (a b : List Nat) : List Nat := (List.range 8).map (fun i => a.getD i 0 + b.getD i 0)

/-- R471: the highest code with a non-zero count; with none, no rule states it. (log 124 DEDUCED) -/
def ackResult (s : State) (counts : List Nat) : Nat :=
  ((List.range 8).reverse.find? (fun i => decide (counts.getD i 0 ≠ 0))).getD (freeBelow 7 s)

/-- The registers of a result slot. -/
def slotReg (i w : Nat) : Nat := 0x400400 + 0x40 * i + 4 * w
def slotState (s : State) (i : Nat) : Nat := getF s ⟨slotReg i 0, 0, 2⟩
def slotCmd (s : State) (i : Nat) : Nat := getF s ⟨slotReg i 0, 16, 16⟩

/-- R473, R489: a result slot reaches DONE. -/
def slotDone (i : Nat) (result expected missing : Nat) (counts : List Nat) (map : BitVec 128) (s : State) : State :=
  let s := setF ⟨slotReg i 0, 0, 2⟩ 2 (setF ⟨slotReg i 0, 8, 8⟩ result s)
  let s := setR (slotReg i 1) (w32 (expected % 65536 + missing % 65536 * 65536)) s
  let s := each (List.range 4) (fun k s => setR (slotReg i (2 + k))
    (w32 (counts.getD (2 * k) 0 % 65536 + counts.getD (2 * k + 1) 0 % 65536 * 65536)) s) s
  raise 144 (each (List.range 4) (fun k s => setR (slotReg i (6 + k)) ((map >>> (32 * k)).setWidth 32) s) s)

/-- R470: an ACK to the parent. (log 123 DEDUCED) -/
def hierAck (issuer : BitVec 16) (epoch : BitVec 8) (cmdId : BitVec 16) (result expected missing : Nat) (counts : List Nat)
    (map : BitVec 128) (s : State) : State :=
  sendUp 0x11 5 { ownHdr s with issuer := issuer, epoch := epoch, cmdId := cmdId, result := BitVec.ofNat 8 result }
    (counts.flatMap (leBytes 2) ++ leBytes 2 expected ++ leBytes 2 missing ++ leBytes 16 map.toNat) s

/-- Bits of a map for a list of children. -/
def mapOf (xs : List Nat) : BitVec 128 := xs.foldl (fun m i => m ||| (1#128 <<< i)) 0

/-- R471: an entry closes. -/
def closeAck (a : AckEnt) (s : State) : State :=
  let n := a.waiting.length
  let missing := a.missing + n
  let map := a.map ||| mapOf a.waiting
  let r := ackResult s a.counts
  let s := if missing = 0 then drawn s else raise 145 (drawn s)
  match a.slot with
  | some i => slotDone i r (a.expected + n) missing a.counts map s
  | none => hierAck a.issuer a.epoch a.cmdId r (a.expected + n) missing a.counts map s

/-- The entry of a command. -/
def ackIs (issuer : BitVec 16) (epoch : BitVec 8) (cmdId : BitVec 16) (a : AckEnt) : Bool :=
  decide (a.issuer = issuer) && decide (a.epoch = epoch) && decide (a.cmdId = cmdId)

/-- R470, R471: the acknowledgement of a command: a worker's own code; a manager's entry for itself and its children in
scope. `own`: the module's code, where it is selected. (log 124 DEDUCED) -/
def openAck (h : HierHdr) (own : Option Code) (slot : Option Nat) (s : State) : State :=
  let kids := childrenFor s h
  let here := kids.filter (fun i => decide ((childOf s i).state = 1))
  let gone := kids.filter (fun i => decide ((childOf s i).state ≠ 1))
  let counts := match own with | some c => oneCount c | none => oneCount .ok |>.map (fun _ => 0)
  let a : AckEnt := ⟨h.issuer, h.epoch, h.cmdId, slot, here, counts, b2n own.isSome + gone.length, gone.length, mapOf gone⟩
  if own.isNone && decide (kids = []) then s
  else if here = [] ∨ 256 ≤ s.hier.acks.length then closeAck { a with waiting := [] } s
  else { s with hier := { s.hier with acks := s.hier.acks ++ [a] } }

/-- R463, R470, R490: a command that a frame brought. -/
def command (h : HierHdr) (op : HierOp) (s : State) : State :=
  let e := judgeEpoch h s
  let sel := selected e.2 h
  if e.1 then
    let s := bump (hierCnt 1) e.2
    let r := actCommand h op sel false s
    let s := if sel && decide (r.1 = .ok) && appliesNow h op then raise 144 r.2 else r.2
    if h.ackReq then openAck h (if sel then some r.1 else none) none s else s
  else if h.ackReq then openAck h (if sel then some .stale else none) none e.2
  else e.2

/-- R471: an ACK of a child, or of an issuer's older epoch. -/
def takeAck (h : HierHdr) (b : AckBody) (s : State) : State :=
  let s := seenFrom h s
  if h.issuer = ownOrigin s ∧ h.epoch ≠ s.hier.epoch then bump (hierCnt 2) s
  else
    match s.hier.acks.find? (ackIs h.issuer h.epoch h.cmdId), childIndex s h.sender with
    | some a, some i =>
      if a.waiting.contains i then
        let a' := { a with
          waiting := a.waiting.filter (· ≠ i)
          counts := addCounts a.counts b.counts
          expected := a.expected + b.expected
          missing := a.missing + b.missing
          map := if h.result = 0 then a.map else a.map ||| mapOf [i] }
        let rest := s.hier.acks.filter (fun x => !ackIs h.issuer h.epoch h.cmdId x)
        if a'.waiting = [] then closeAck a' { s with hier := { s.hier with acks := rest } }
        else { s with hier := { s.hier with acks := rest ++ [a'] } }
      else bump (hierCnt 3) s
    | _, _ => bump (hierCnt 3) s

/-! ### Mailbox (R473) -/

/-- The command that the mailbox holds; none for an OP that R464 does not give. -/
def mailOp (s : State) : Option HierOp :=
  let a := getR s 0x400094
  let b := getR s 0x400098
  let lo := BitVec.ofNat 16 (getBits a 0 16)
  match getF s ⟨0x400084, 0, 8⟩ with
  | 1 => some (.level lo (BitVec.ofNat 16 (getBits a 16 16)) (decide (getBits b 0 8 ≠ 0)))
  | 2 => some (.power (BitVec.ofNat 12 (getBits a 0 12)))
  | 3 => some (.reset (getBits a 0 8))
  | 4 => some (.snapshot lo)
  | 5 => some (.collect lo)
  | 6 => some (.cancel lo)
  | _ => none

/-- The header of the mailbox's command. -/
def mailHdr (s : State) : HierHdr :=
  { ownHdr s with
    ackReq := flag s ⟨0x400084, 8, 1⟩
    down := true
    scope := BitVec.ofNat 2 (getF s ⟨0x400084, 10, 2⟩)
    own := BitVec.ofNat 2 (getF s ⟨0x400084, 12, 2⟩)
    sched := flag s ⟨0x400084, 14, 1⟩
    fine := flag s ⟨0x400084, 15, 1⟩
    cmdId := BitVec.ofNat 16 (getF s ⟨0x400084, 16, 16⟩)
    epa := getR s 0x400080
    tSec := BitVec.ofNat 48 ((getR s 0x400088).toNat + getF s ⟨0x40008C, 0, 16⟩ * 2 ^ 32)
    grace := BitVec.ofNat 16 (getF s ⟨0x40008C, 16, 16⟩)
    tNs := w32 (getF s ⟨0x400090, 0, 30⟩) }

/-- The body of a CMD frame (R464): OP, a reserved byte, and the mailbox's arguments as far as the OP has them. -/
def mailBody (s : State) (op : HierOp) : List Byte :=
  let args := wordBytes (getR s 0x400094) ++ wordBytes (getR s 0x400098)
  let n := match op with | .level _ _ _ => 5 | .reset _ => 1 | _ => 2
  [BitVec.ofNat 8 (getF s ⟨0x400084, 0, 8⟩), 0] ++ args.take n

/-- R465: the command's target lies in the issuer's own subtree. -/
def inOwnSubtree (s : State) (h : HierHdr) : Bool :=
  decide (2 ≤ h.scope.toNat) || ownsEpa s h.epa h.own.toNat ||
    (decide (hierRole s = 0) && decide (h.own.toNat ≤ 1)) ||
    (decide (hierRole s = 1) && decide (h.own = 0) && decide (epaArea h.epa = hierArea s))

/-- R473: HIER_MB_GO. A slot is assigned and the command released, or it is answered BUSY. (log 123 DEDUCED) -/
def mailGo (s : State) : State :=
  let h := mailHdr s
  let busy := (List.range 64).any (fun i => decide (slotState s i = 1) && decide (slotCmd s i = h.cmdId.toNat))
  match (List.range 64).find? (fun i => decide (slotState s i = 0)) with
  | none => setF ⟨0x4000A0, 8, 8⟩ Code.busy.num s
  | some i =>
    if busy then setF ⟨0x4000A0, 8, 8⟩ Code.busy.num s
    else
      let s := setF ⟨0x4000A0, 0, 6⟩ i (setF ⟨0x4000A0, 8, 8⟩ Code.ok.num s)
      let s := setR (slotReg i 0) (w32 (1 + h.cmdId.toNat * 65536)) s
      let refuse := fun (s : State) => slotDone i Code.state.num 1 0 (oneCount .state) 0 s
      match mailOp s with
      | none => refuse s
      | some op =>
        if !imgSealed s || decide (hierRole s = 3) || !inOwnSubtree s h then refuse s
        else
          let sel := selected s h
          let s := if (childrenFor s h).isEmpty then s else sendDown 0x10 6 h (mailBody s op) s
          let r := actCommand h op sel true s
          let s := if sel && decide (r.1 = .ok) && appliesNow h op then raise 144 r.2 else r.2
          let own := if sel then some r.1 else none
          if h.ackReq then
            (if own.isNone && (childrenFor s h).isEmpty then slotDone i 0 0 0 (oneCount .ok |>.map (fun _ => 0)) 0 s
             else openAck h own (some i) s)
          else slotDone i (own.getD .ok).num (b2n sel) 0 (if sel then oneCount r.1 else List.replicate 8 0) 0 s

/-- R473: HIER_RES_FREE. (log 125 DEDUCED) -/
def freeSlot (i : Nat) (s : State) : State :=
  setF ⟨slotReg i 0, 0, 2⟩ 0 { s with hier := { s.hier with acks := s.hier.acks.filter (fun a => decide (a.slot ≠ some i)) } }

/-! ### Barriers (R476) -/

/-- The barrier of an identifier. -/
def barIs (issuer : BitVec 16) (epoch : BitVec 8) (cmdId : BitVec 16) (b : BarEnt) : Bool :=
  decide (b.issuer = issuer) && decide (b.epoch = epoch) && decide (b.cmdId = cmdId)

/-- R476: a barrier closes: ARRIVE goes up, or the issuer is told. -/
def closeBar (b : BarEnt) (s : State) : State :=
  let missing := b.missing + b.waiting.length
  let s := if missing = 0 then s else bump (hierCnt 9) s
  if b.issuer = ownOrigin s then raise 147 s
  else sendUp 0x31 7 { ownHdr s with issuer := b.issuer, epoch := b.epoch, cmdId := b.cmdId }
    (leBytes 2 (b.own + b.modules) ++ leBytes 2 missing) s

/-- R476: a BARRIER is delivered; one of this module's own goes down its ring. (log 128 DEDUCED) -/
def openBar (h : HierHdr) (s : State) : State :=
  let e := judgeEpoch h s
  if !e.1 then e.2
  else
    let s := e.2
    let sel := selected s h
    let kids := (childrenFor s h).filter (fun i => decide ((childOf s i).state = 1))
    let s := if h.issuer = ownOrigin s ∧ isManager s = true then sendDown 0x30 6 h [] s else s
    if !sel && decide (kids = []) then s
    else
      let b : BarEnt := ⟨h.issuer, h.epoch, h.cmdId, b2n sel, kids, 0, 0⟩
      if kids = [] then closeBar b s else { s with hier := { s.hier with bars := s.hier.bars ++ [b] } }

/-- R476: an ARRIVE of a child. -/
def takeArrive (h : HierHdr) (modules missing : Nat) (s : State) : State :=
  let s := seenFrom h s
  match s.hier.bars.find? (barIs h.issuer h.epoch h.cmdId), childIndex s h.sender with
  | some b, some i =>
    if b.waiting.contains i then
      let b' := { b with waiting := b.waiting.filter (· ≠ i), modules := b.modules + modules, missing := b.missing + missing }
      let rest := s.hier.bars.filter (fun x => !barIs h.issuer h.epoch h.cmdId x)
      if b'.waiting = [] then closeBar b' { s with hier := { s.hier with bars := rest } }
      else { s with hier := { s.hier with bars := rest ++ [b'] } }
    else s
  | _, _ => s

/-! ### Upward data (R479, R483, R495, R514, R517) -/

/-- The runs of a Class S block: EPA, OWN, ROUNDS and summaries. -/
def parseRuns : Nat → List Byte → List (Word × Nat × Nat × List (BitVec 64))
  | 0, _ => []
  | n + 1, b =>
    if b.length < 8 then []
    else
      let k := leNat ((b.drop 4).take 2)
      let sums := (List.range k).map (fun i => BitVec.ofNat 64 (leNat ((b.drop (8 + 8 * i)).take 8)))
      (leWord b, (b.getD 6 0).toNat, (b.getD 7 0).toNat, sums) :: parseRuns n (b.drop (8 + 8 * k))

/-- R517: VER, LEN and BCRC of a block. -/
def blockGood (b : List Byte) : Bool :=
  decide (16 ≤ b.length) && decide ((b.getD 0 0).toNat % 16 = 1) && decide (leNat ((b.drop 10).take 2) = b.length) &&
    decide (leNat ((b.drop 14).take 2) = (crc16 (b.take 14 ++ [0, 0] ++ b.drop 16)).toNat)

/-- R517: the sequence of a child's class: a jump adds the missing count; FIRST restarts it. -/
def noteBseq (i cls : Nat) (first : Bool) (bseq : BitVec 16) (s : State) : State :=
  let c := childOf s i
  let s := match tabGet (fun _ => none) c.bseq cls with
    | some want => if first then s else bumpBy (plnCnt 9) (bseq - want).toNat s
    | none => s
  let c := childOf s i
  setChild i { c with bseq := tabSet (fun _ => none) c.bseq cls (some (bseq + 1)) } s

/-- R494, R514: a child's block that passed its checks. -/
def childBlock (cells : Nat) (b : List Byte) (s : State) : State :=
  let cls := (b.getD 0 0).toNat / 16 % 4
  if cls = 2 ∧ hierRole s = 1 then
    let base := leWord (b.drop 4)
    each (parseRuns b.length (b.drop 16)) (fun r s =>
      (r.2.2.2.foldl (fun (a : Nat × State) v =>
        (a.1 + 1, placeS base r.2.2.1 ⟨r.1 + w32 a.1, r.2.1, v, (b.getD 1 0).getLsbD 1, none⟩ a.2)) (0, s)).2) s
  else
    let s := if bitOf (getR s 0x410008) (16 + cls) then { s with hier := { s.hier with fwd := s.hier.fwd ++ [(b, cells)] } } else s
    toTlm cls b s

/-- R478, R479, R517: a TELEM frame of child i. -/
def takeTelem (i : Nat) (sent : Word) (len : Nat) (b : List Byte) (s : State) : State :=
  let s := chargeCells i sent len s
  let s := if blockGood b then
      childBlock (upCells len) b (noteBseq i ((b.getD 0 0).toNat / 16 % 4) (bitOf (w32 (b.getD 0 0).toNat) 6)
        (BitVec.ofNat 16 (leNat ((b.drop 8).take 2))) s)
    else bump (plnCnt 8) s
  judgeCredit s

/-- R483: a SNAPDATA frame of child i. -/
def takeSnapdata (i own : Nat) (id : BitVec 16) (epa : Word) (nt last : Bool) (sent : Word) (len : Nat) (xs : List (BitVec 64))
    (s : State) : State :=
  let s := chargeCells i sent len s
  match s.hier.coll with
  | none => s
  | some c =>
    if c.id ≠ id then s
    else
      let s := if hierRole s = 0 then placeRegion own epa xs s
        else pumpPacks id false 4096 (bumpBy 0x4000B4 xs.length
          { s with hier := { s.hier with packs := addPack ⟨own, epa, nt, xs⟩ s.hier.packs } })
      let c := { c with waiting := if last then c.waiting.filter (· ≠ i) else c.waiting }
      let s := judgeCredit { s with hier := { s.hier with coll := some c } }
      if c.waiting = [] then endCollect s else s

/-! ### Transfers (R485) -/

/-- The next byte expected of a transfer. -/
def xferNext (s : State) : XferTarget → Nat
  | .image => s.hier.xferImage
  | .firmware => s.hier.xferFw
def setXfer (t : XferTarget) (n : Nat) (s : State) : State :=
  match t with
  | .image => { s with hier := { s.hier with xferImage := n } }
  | .firmware => { s with hier := { s.hier with xferFw := n } }

/-- Data in pieces of n bytes. -/
def pieces (n : Nat) : Nat → List Byte → List (List Byte)
  | 0, _ => []
  | k + 1, b => if b = [] then [] else b.take n :: pieces n k (b.drop n)

/-- R459, R485: an XFER frame: TARGET, OP, OFFSET, LEN on BEGIN and COMMIT, and the data. -/
def sendXfer (h : HierHdr) (t : XferTarget) (op off len : Nat) (data : List Byte) (s : State) : State :=
  let target := match t with | .image => 1 | .firmware => 2
  sendDown 0x40 2 { h with sender := ownOrigin s }
    ([target, BitVec.ofNat 8 op] ++ leBytes 4 off ++ (if op = 1 ∨ op = 3 then leBytes 4 len else []) ++ data) s

/-- R485: an area manager's twins issue the frame downward, at the down ring's MTU. -/
def xferOn (h : HierHdr) (t : XferTarget) (op off len : Nat) (data : List Byte) (s : State) : State :=
  if hierRole s ≠ 1 ∨ childrenFor s h = [] then s
  else if op ≠ 2 then sendXfer h t op off len data s
  else
    let n := max 1 (downMtu s - 80)
    (pieces n data.length data).foldl (fun (a : Nat × State) d => (a.1 + d.length, sendXfer h t 2 a.1 0 d a.2)) (off, s) |>.2

/-- R470, R485: BEGIN, COMMIT or ABORT acts here, goes on and is acknowledged. -/
def xferOp (h : HierHdr) (t : XferTarget) (op len : Nat) (f : State → Code × State) (s : State) : State :=
  let sel := selected s h
  let r := if sel then f s else (Code.ok, s)
  let s := xferOn h t op 0 len [] r.2
  if h.ackReq then openAck h (if sel then some r.1 else none) none s else s

/-! ### Frames held for the twins (R460, R469) -/

/-- R469: a frame is held, 256 at most. -/
def hierHold (i : Instr) (s : State) : State :=
  if 256 ≤ s.hier.held.length then bump (hierCnt 6) s else { s with hier := { s.hier with held := s.hier.held ++ [i] } }

/-- R460, R469: a frame reaches the twins, or is held while CTRL is in STANDBY or until the first step after READY.
(log 122 DEDUCED) -/
def hierTake (i : Instr) (f : State → State) (s : State) : State :=
  if netOn s && decide (ctrl s = .standby) || (hierOn s && s.hier.owed) then hierHold i s
  else if hierUp s then f s
  else s

end Sys2Proof.Machine
end

