-- ==== Sys2Proof/Machine/Hier.lean ====
section
/-! DEFINITION. The commands of managers and workers (R454 to R490). -/

namespace Sys2Proof.Machine

/-! ### What each frame does once the twins have it -/

/-- HELLO (R460, R463): accepted when its SENDER is the parent. -/
def onHello (h : HierHdr) (srcMac : BitVec 48) (epochOwn epochRoot : BitVec 8) (mtu : BitVec 16) (s : State) : State :=
  let tier := (hierRole s = 1 ∧ orgRole h.sender = 0) ∨
    (hierRole s = 2 ∧ orgRole h.sender = 1 ∧ orgArea h.sender = hierArea s)
  if tier then
    let s := setB ⟨0x400004, 0, 1⟩ true (setF ⟨0x400010, 16, 14⟩ mtu.toNat s)
    hierStat { s with hier := { s.hier with heldParent := some epochOwn, heldRoot := some epochRoot, parentMac := some srcMac } }
  else s

/-- ANNOUNCE (R461, R478): FIRST sets RELEASED to SENT. -/
def onAnnounce (h : HierHdr) (imgSeq sent : Word) (first sealed' ctrlRun' : Bool) (s : State) : State :=
  match childIndex s h.sender with
  | none => s
  | some i =>
    let s := seen i s
    let c := { childOf s i with flags := b2n first + 2 * b2n sealed' + 4 * b2n ctrlRun', imgSeq := imgSeq }
    if first then giveCredit i (setChild i { c with sent := sent, released := sent } s) else setChild i c s

/-- CREDIT (R478): LIMIT of this child; queued frames go. -/
def onCredit (h : HierHdr) (limits : List (Byte × Word)) (s : State) : State :=
  let me := if hierRole s = 1 then hierArea s else hierWorker s
  if isChild s && decide (parentOrigin s = some h.sender) then
    match limits.find? (fun x => decide (x.1.toNat = me)) with
    | some x =>
      let s := upDrain 16384 { s with hier := { s.hier with limit := x.2 } }
      let s := retryStuck (pumpOwn 2048 s)
      match s.hier.coll with
      | some c => pumpPacks c.id false 4096 s
      | none => pumpPacks (getF s ⟨0x4000B0, 0, 16⟩ |> BitVec.ofNat 16) true 4096 s
    | none => s
  else s

/-- TELEM (R478, R479, R517). -/
def onTelem (h : HierHdr) (sent : Word) (frameLen : Nat) (block : List Byte) (s : State) : State :=
  match childIndex s h.sender with
  | some i => takeTelem i sent frameLen block (seen i s)
  | none => s

/-- SNAPDATA (R483). -/
def onSnapdata (h : HierHdr) (snapId : BitVec 16) (firstEpa : Word) (nt last : Bool) (sent : Word) (frameLen : Nat)
    (xs : List (BitVec 64)) (s : State) : State :=
  match childIndex s h.sender with
  | some i => takeSnapdata i h.own.toNat snapId firstEpa nt last sent frameLen xs (seen i s)
  | none => s

/-- XFER BEGIN (R485, R153, R468). -/
def onXferBegin (h : HierHdr) (t : XferTarget) (len : Nat) (s : State) : State :=
  xferOp h t 1 len (fun s =>
    let r := stgBegin (targetStore t) .hier s
    (r.1, if r.1 = .ok then setXfer t 0 r.2 else r.2)) s

/-- XFER DATA (R485): at the next byte expected, or a gap. (log 158 DESIGN CHOICE) -/
def onXferData (h : HierHdr) (t : XferTarget) (off : Nat) (data : List Byte) (s : State) : State :=
  let s := if selected s h then
      if off = xferNext s t then
        let r := stgWrite (targetStore t) .hier off data s
        if r.1 then setXfer t (off + data.length) r.2 else r.2
      else bump (hierCnt 7) s
    else s
  xferOn h t 2 off 0 data s

/-- XFER COMMIT (R485, R468): fewer bytes than LEN are answered STATE. (log 158 DESIGN CHOICE) -/
def onXferCommit (h : HierHdr) (t : XferTarget) (len : Nat) (s : State) : State :=
  xferOp h t 3 len (fun s =>
    let d := targetStore t
    if stgJudge d .hier true s = .ok ∧ xferNext s t ≠ len then (.state, stgAnswer d .state s) else stgCommit d .hier len s) s

/-- XFER ABORT (R485). -/
def onXferAbort (h : HierHdr) (t : XferTarget) (s : State) : State :=
  xferOp h t 4 0 (fun s => stgAbort (targetStore t) .hier s) s

/-- WAKE as the twins see it (R456, R459, R463, R469): its epoch is judged; one of this module's own goes down its ring.
(log 128 DEDUCED) -/
def onWake (h : HierHdr) (s : State) : State :=
  let e := judgeEpoch h s
  if e.1 && decide (h.issuer = ownOrigin s) && isManager s then
    emit (.hier 6 wakeAddr (hierBytes 0x50 { h with down := true } [])) e.2
  else e.2

/-- R460, R469: frames held are presented in the first step after RUN, or after READY. -/
def hierReplay (i : Instr) (s : State) : State :=
  match i with
  | .hello h m o e _ mtu _ => onHello h m o e mtu s
  | .announce h q n f a c => onAnnounce h q n f a c s
  | .credit h ls => onCredit h ls s
  | .level h c r l => command h (.level c r l) s
  | .power h w => command h (.power w) s
  | .reset h k => command h (.reset k.toNat) s
  | .snapshot h n => command h (.snapshot n) s
  | .collect h n => command h (.collect n) s
  | .cancel h n => command h (.cancel n) s
  | .ack h b => takeAck h b s
  | .telem h n l b => onTelem h n l b s
  | .snapdata h n e t l c fl xs => onSnapdata h n e t l c fl xs s
  | .barrier h => openBar h s
  | .arrive h m n => takeArrive h m n s
  | .xferBegin h t l => onXferBegin h t l s
  | .xferData h t o d => onXferData h t o d s
  | .xferCommit h t l => onXferCommit h t l s
  | .xferAbort h t => onXferAbort h t s
  | .wake h => onWake h s
  | _ => s

/-- R463, R469: WAKE in STANDBY: the switch cluster takes a frame in scope as the NET wake source; a stale one goes no further. -/
def wakeFrame (h : HierHdr) (s : State) : State :=
  let e := judgeEpoch h s
  if e.1 then
    let t := hierHold (.wake h) e.2
    if selected t h then wakeSource .net t else t
  else e.2

/-- R469: a frame that the switch cluster delivers while CTRL is in STANDBY. -/
def standbyFrame (i : Instr) (s : State) : State :=
  match i with
  | .wake h => wakeFrame h s
  | i => hierHold i s

/-! ### The commands -/

/-- HELLO_PERIOD (R460, R479): a manager's HELLO, and the full refresh of credit. (log 126 DEDUCED) -/
def execHelloPeriod (s : State) : Host.Outcome State Fault Refusal :=
  .next (if hierUp s && isManager s then creditFrames 4 (allKids s) (sendHello s) else s)

/-- HELLO (R460). -/
def execHello (h : HierHdr) (srcMac : BitVec 48) (epochOwn epochRoot : BitVec 8) (window mtu helloMs : BitVec 16) (s : State) :
    Host.Outcome State Fault Refusal :=
  .next (hierTake (.hello h srcMac epochOwn epochRoot window mtu helloMs) (onHello h srcMac epochOwn epochRoot mtu) s)

/-- ANNOUNCE_PERIOD (R461). -/
def execAnnouncePeriod (s : State) : Host.Outcome State Fault Refusal :=
  .next (if hierUp s && isChild s then sendAnnounce s else s)

/-- ANNOUNCE (R461, R478). -/
def execAnnounce (h : HierHdr) (imgSeq sent : Word) (first sealed' ctrlRun' : Bool) (s : State) :
    Host.Outcome State Fault Refusal :=
  .next (hierTake (.announce h imgSeq sent first sealed' ctrlRun') (onAnnounce h imgSeq sent first sealed' ctrlRun') s)

/-- PARENT_LOST (R460). -/
def execParentLost (s : State) : Host.Outcome State Fault Refusal :=
  .next (if hierUp s then setB ⟨0x400004, 0, 1⟩ false s else s)

/-- CHILD_LOST (R461). -/
def execChildLost (i : Fin 128) (s : State) : Host.Outcome State Fault Refusal :=
  .next (if hierUp s && decide ((childOf s i.val).state = 1) then
    let d := decide (i.val < declared s)
    when d (raise 149) (bump (hierCnt 8) (childRegs (setChild i.val { childOf s i.val with state := 2 } s)))
  else s)

/-- CREDIT (R478). -/
def execCredit (h : HierHdr) (limits : List (Byte × Word)) (s : State) : Host.Outcome State Fault Refusal :=
  .next (hierTake (.credit h limits) (onCredit h limits) s)

/-- LEVEL (R464, R466). -/
def execLevel (h : HierHdr) (code rampMs : BitVec 16) (log : Bool) (s : State) : Host.Outcome State Fault Refusal :=
  .next (hierTake (.level h code rampMs log) (command h (.level code rampMs log)) s)

/-- POWER (R83, R464). -/
def execPower (h : HierHdr) (w : BitVec 12) (s : State) : Host.Outcome State Fault Refusal :=
  .next (hierTake (.power h w) (command h (.power w)) s)

/-- RESET (R106, R464, R467, R486). -/
def execReset (h : HierHdr) (kind : Byte) (s : State) : Host.Outcome State Fault Refusal :=
  .next (hierTake (.reset h kind) (command h (.reset kind.toNat)) s)

/-- SNAPSHOT (R467, R468, R481). -/
def execSnapshot (h : HierHdr) (snapId : BitVec 16) (s : State) : Host.Outcome State Fault Refusal :=
  .next (hierTake (.snapshot h snapId) (command h (.snapshot snapId)) s)

/-- COLLECT (R468, R483). -/
def execCollect (h : HierHdr) (snapId : BitVec 16) (s : State) : Host.Outcome State Fault Refusal :=
  .next (hierTake (.collect h snapId) (command h (.collect snapId)) s)

/-- CANCEL (R464, R468). -/
def execCancel (h : HierHdr) (targetId : BitVec 16) (s : State) : Host.Outcome State Fault Refusal :=
  .next (hierTake (.cancel h targetId) (command h (.cancel targetId)) s)

/-- ACK (R471). -/
def execAck (h : HierHdr) (body : AckBody) (s : State) : Host.Outcome State Fault Refusal :=
  .next (hierTake (.ack h body) (takeAck h body) s)

/-- ACK_WAIT_EXPIRE (R471). -/
def execAckWaitExpire (issuer : BitVec 16) (epoch : BitVec 8) (cmdId : BitVec 16) (s : State) :
    Host.Outcome State Fault Refusal :=
  .next (match s.hier.acks.find? (ackIs issuer epoch cmdId) with
    | some a => closeAck a { s with hier := { s.hier with acks := s.hier.acks.filter (fun x => !ackIs issuer epoch cmdId x) } }
    | none => s)

/-- TELEM (R478, R479, R514, R517). -/
def execTelem (h : HierHdr) (sent : Word) (frameLen : Nat) (block : List Byte) (s : State) :
    Host.Outcome State Fault Refusal :=
  .next (hierTake (.telem h sent frameLen block) (onTelem h sent frameLen block) s)

/-- SNAPDATA (R478, R483). (log 127 DEDUCED) -/
def execSnapdata (h : HierHdr) (snapId : BitVec 16) (firstEpa : Word) (nt last : Bool) (sent : Word) (frameLen : Nat)
    (xs : List (BitVec 64)) (s : State) : Host.Outcome State Fault Refusal :=
  .next (hierTake (.snapdata h snapId firstEpa nt last sent frameLen xs)
    (onSnapdata h snapId firstEpa nt last sent frameLen xs) s)

/-- BARRIER (R476). (log 128 DEDUCED) -/
def execBarrier (h : HierHdr) (s : State) : Host.Outcome State Fault Refusal := .next (hierTake (.barrier h) (openBar h) s)

/-- ARRIVE (R476). -/
def execArrive (h : HierHdr) (modules missing : Nat) (s : State) : Host.Outcome State Fault Refusal :=
  .next (hierTake (.arrive h modules missing) (takeArrive h modules missing) s)

/-- BARRIER_WAIT_EXPIRE (R476). -/
def execBarrierWaitExpire (issuer : BitVec 16) (epoch : BitVec 8) (cmdId : BitVec 16) (s : State) :
    Host.Outcome State Fault Refusal :=
  .next (match s.hier.bars.find? (barIs issuer epoch cmdId) with
    | some b => closeBar b { s with hier := { s.hier with bars := s.hier.bars.filter (fun x => !barIs issuer epoch cmdId x) } }
    | none => s)

/-- XFER_BEGIN (R485). -/
def execXferBegin (h : HierHdr) (t : XferTarget) (len : Nat) (s : State) : Host.Outcome State Fault Refusal :=
  .next (hierTake (.xferBegin h t len) (onXferBegin h t len) s)

/-- XFER_DATA (R485). -/
def execXferData (h : HierHdr) (t : XferTarget) (offset : Nat) (data : List Byte) (s : State) :
    Host.Outcome State Fault Refusal :=
  .next (hierTake (.xferData h t offset data) (onXferData h t offset data) s)

/-- XFER_COMMIT (R485). -/
def execXferCommit (h : HierHdr) (t : XferTarget) (len : Nat) (s : State) : Host.Outcome State Fault Refusal :=
  .next (hierTake (.xferCommit h t len) (onXferCommit h t len) s)

/-- XFER_ABORT (R485). -/
def execXferAbort (h : HierHdr) (t : XferTarget) (s : State) : Host.Outcome State Fault Refusal :=
  .next (hierTake (.xferAbort h t) (onXferAbort h t) s)

/-- WAKE (R463, R469): in STANDBY the switch cluster takes a frame in scope as the NET wake source. (log 128 DEDUCED) -/
def execWake (h : HierHdr) (s : State) : Host.Outcome State Fault Refusal :=
  .next (if netOn s && decide (ctrl s = .standby) then wakeFrame h s else hierTake (.wake h) (onWake h) s)

/-- HIER_MB_GO (R35, R101, R473): the write goes through the splitter, after the mailbox words written before it; the command
is released as the twins take it. -/
def execHierMbGo (s : State) : Host.Outcome State Fault Refusal := .next (hostUlust 0x40009C 1 0 s)

/-- HIER_RES_FREE (R35, R101, R473): the slot is free once the twins take the write. (log 125 DEDUCED) -/
def execHierResFree (v : Word) (s : State) : Host.Outcome State Fault Refusal := .next (hostUlust 0x4000A4 v 0 s)

/-- COLLECT_WAIT_EXPIRE (R483). -/
def execCollectWaitExpire (s : State) : Host.Outcome State Fault Refusal :=
  .next (endCollect s)

end Sys2Proof.Machine
end

