-- ==== Sys2Proof/Machine/Pln.lean ====
section
/-! DEFINITION. The commands of the telemetry plane (R493 to R518). -/

namespace Sys2Proof.Machine

/-- PLANE_SAMPLE (R496 to R498, R509): the plane at a step boundary. -/
def execPlaneSample (s : State) : Host.Outcome State Fault Refusal :=
  .next (if plnUp s then
    let s := sampleStep (refillL s)
    if sPeriod s = 0 then s else each (assigned s) accStep s
  else s)

/-- BLOCK_CLOSE (R515): CLOSE_MS has passed since the first entry of the class's open block. -/
def execBlockClose (cls : Fin 3) (s : State) : Host.Outcome State Fault Refusal :=
  .next (if plnUp s then (if cls.val = 0 then closeL s else if cls.val = 1 then closeB s else closeS s) else s)

/-- SUMMARY_ROUND (R509, R515): a round boundary; the module's own summaries are placed and their last block closes. -/
def execSummaryRound (s : State) : Host.Outcome State Fault Refusal :=
  .next (if plnUp s && decide (sPeriod s ≠ 0) then
    summaryDone ((assigned s).any (fun r => decide ((sAcc s r).n ≠ 0))) (closeS (each (assigned s) roundRec s))
  else s)

/-- PLANE_START (R506): with the plane enabled and CTRL in RUN. -/
def execPlaneStart (s : State) : Host.Outcome State Fault Refusal :=
  .next (if ctrlRun s && plnEn s then planeStarts s else s)

end Sys2Proof.Machine
end

