-- ==== Sys2Proof/Machine/Ulust.lean ====
section
/-! DEFINITION. Host writes of the blocks on the Ulust dies, as both twins apply them (R35, R36, R101). -/

namespace Sys2Proof.Machine

/-- R491: a value outside its range makes the HIER registers, and the records of the children, unpredictable while it stands.
(log 131 DESIGN CHOICE) -/
def hierBad (s : State) : Bool :=
  decide (ringWin s = 0) || decide (downMtu s < 128) || decide (9216 < downMtu s) ||
    decide (getF s ⟨0x400008, 0, 8⟩ = 0) || decide (getF s ⟨0x400008, 8, 4⟩ = 0)

/-- R473, R506, R519: a write of a HIER or PLN register. -/
def ulustWrite (off : Nat) (v setNow : Word) (s : State) : State :=
  if off = 0x40009C then (if bitOf v 0 then mailGo s else s)
  else if off = 0x4000A4 then freeSlot (getBits v 0 6) s
  else
    let was := plnEn s
    let s := writeReg off v setNow s
    if off = 0x40000C then childRegs s
    else if off = 0x410000 then
      (if plnEn s = was then s else if plnEn s then planeStarts s else setB plnRunning false s)
    else s

/-- R473, R506: DEFAULTS has changed registers of HIER and PLN; `was`: PLN_CFG.EN before. -/
def afterDefaults (was : Bool) (s : State) : State :=
  let s := childRegs s
  if plnEn s = was then s else if plnEn s then planeStarts s else setB plnRunning false s

/-- R36, R588: at the step boundary the items' values are captured, or written with their reset values, except over what the host has
written in the step; a copy is then being written. (log 145 DEDUCED) -/
def settingsStep (s : State) : State :=
  match s.upd.setAsk with
  | none => s
  | some d =>
    let xs := if d then itemsDefault s else itemsNow s
    let was := plnEn s
    let s := openCopy { s with upd := { s.upd with setAsk := none, saving := some xs } }
    if d then afterDefaults was (applyItems (fun off => !s.upd.wrote.contains off) xs s) else s

/-- R36: the value that the host has written in the step stands over what firmware made of the same field in it. -/
def standWrite (x : SplitIn) (s : State) : State :=
  match x with
  | .hostReg off v setNow =>
    if off = 0x40009C ∨ off = 0x4000A4 then s
    else
      let s := writeReg off v setNow s
      if off = 0x40000C then childRegs s else s
  | _ => s

end Sys2Proof.Machine
end

