-- ==== Sys2Proof/Machine/Blk.lean ====
section
/-! DEFINITION. Bulk transfers between host memory and the module's regions (R160, R187, R188, R483, R487, R576). -/

namespace Sys2Proof.Machine

/-- The sizes of the regions (R114, R160, R483, R567); 0 for one that does not exist. (log 45 DEDUCED) -/
def regionSize (region : Nat) : Nat :=
  match region with
  | 0 => 0x10000000 | 1 => 163840 | 2 => 90112 | 3 => 0x10204000 | _ => 0

/-- The header of the BAR2 region (R487). -/
def headerBytes (s : State) : List Byte :=
  ([0x48, 0x52, 0x45, 0x43, hierRole s, hierArea s, hierWorker s, 0].map (BitVec.ofNat 8)) ++ leBytes 4 s.twn.step.toNat ++
    leBytes 2 (assigned s).length ++ leBytes 1 s.hier.epoch.toNat

/-- An endpoint record (R488). (log 46 DEDUCED) -/
def recordBytes (s : State) (r : Nat) : List Byte :=
  if recAssigned s r then
    let x := recOf s r
    leBytes 1 (recKind s r) ++ leBytes 1 x.status ++ leBytes 2 (recProfile s r) ++ leBytes 2 (recSource s r) ++
      leBytes 2 (recGroup s r) ++ wordBytes x.step ++ leBytes 2 x.target ++ leBytes 2 x.inforce ++ wordBytes x.fault ++
      wordBytes x.q0 ++ wordBytes x.q1 ++ wordBytes x.q2 ++ wordBytes x.q3 ++ wordBytes x.events ++
      leBytes 8 x.imp ++ leBytes 8 x.exp
  else [0xFF]

/-- SNAP_ID and T of the snapshot held (R481, R487). (log 46 DEDUCED) -/
def snapBytes (s : State) : List Byte :=
  match s.hier.snap with
  | some x => leBytes 2 x.id.toNat ++ leBytes 6 x.tSec.toNat ++ wordBytes x.tNs
  | none => []

/-- A child of a manager (R487); anything while R491 holds. (log 46 DEDUCED) -/
def childBytes (s : State) (i : Nat) : List Byte :=
  if hierBad s then (List.range 16).flatMap (fun k => wordBytes (Config.freeWord (s.free + 16 * i + k)))
  else
    let c := childOf s i
    leBytes 2 (childOrigin s i).toNat ++ leBytes 1 c.state ++ leBytes 1 c.flags ++ wordBytes c.imgSeq ++ wordBytes c.sent ++
      wordBytes c.released ++ wordBytes c.limit

/-- A byte of the BAR2 region (R487); all that the table does not name reads 0. (log 46 DEDUCED, 171 DEDUCED) -/
def barByte (s : State) (off : Nat) : Byte :=
  if off < 64 then (headerBytes s).getD off 0
  else if 0x1000 ≤ off ∧ off < 0x21000 then (recordBytes s ((off - 0x1000) / 64)).getD (off % 64) 0
  else if 0x21000 ≤ off ∧ off < 0x25000 then
    match s.hier.snap with
    | some x => (leBytes 8 (tabGet (fun _ => 0) x.sums ((off - 0x21000) / 8)).toNat).getD (off % 8) 0
    | none => 0
  else if 0x25000 ≤ off ∧ off < 0x26000 then (snapBytes s).getD (off - 0x25000) 0
  else if 0x26000 ≤ off ∧ off < 0x28000 ∧ isManager s = true then
    (childBytes s ((off - 0x26000) / 64)).getD (off % 64) 0
  else 0

/-- A byte of a region as a DIR 0 transfer reads it (R187, R576). -/
def regionByte (s : State) (region off : Nat) : Byte :=
  match region with
  | 0 => barByte s off
  | 1 => tabGet zeroByte (activeImg s) off
  | 2 => tabGet zeroByte (fwSlot s s.upd.slot) off
  | 3 => (leBytes 8 (tabGet (fun _ => 0) s.hier.region3 (off / 8)).toNat).getD (off % 8) 0
  | _ => 0

/-- Bytes of a region up to its end (R188). -/
def regionBytes (s : State) (region off cap : Nat) : List Byte :=
  (List.range (min cap (regionSize region - off))).map (fun i => regionByte s region (off + i))

/-- The store that a region writes to. -/
def regionStore (region : Nat) : Option StoreId :=
  if region = 1 then some .image else if region = 2 then some .firmware else none

/-- A DIR 1 transfer (R153, R154, R174, R187, R188, R576): the result, the bytes moved, and the state. (log 45 DEDUCED) -/
def blkWrite (region off : Nat) (data : List Byte) (s : State) : Code × Nat × State :=
  match regionStore region with
  | none => (.ok, 0, s)
  | some d =>
    if (staging s d).st = .opened ∧ (staging s d).owner = .host then
      let bs := data.take (stgLimit d - off)
      if bs = [] then (.ok, 0, s) else (.ok, bs.length, captureBus (.blk region off bs) (stgWrite d .host off bs s).2)
    else (.state, 0, s)

/-- A BLK descriptor is done (R176, R177, R180). (log 45 DEDUCED) -/
def blkDone (d : Desc) (c : Code) (n : Nat) (s : State) : State :=
  let s := writeBackDesc 3 (ringHead s 3) (wbCtrl d n none) (BitVec.ofNat 16 n) (BitVec.ofNat 16 c.num) none
    (some (BitVec.ofNat 64 c.num)) s
  raiseCmpl 3 [d] (bump (ringReg 3 0x18) (advanceHead 3 1 s))

/-- R187, R188: the transfer of the next descriptor of ring 3, or a stall before it (R594). `data`: what the bus master reads for
DIR 1. -/
def blkTransfer (data : List Byte) (s : State) : State :=
  match (ring s 3).desc with
  | d :: rest =>
    let region := (d.meta0 >>> 32).toNat % 16
    let off := d.meta0.toNat % 2 ^ 32
    let o := openBuffer 3 s
    let s := o.2
    if !o.1 then setRing 3 { ring s 3 with ahead := [data] } s
    else
      let s := setRing 3 { ring s 3 with desc := rest, ahead := [] } s
      if d.ctrl.getLsbD 6 then
        let r := blkWrite region off data s
        blkDone d r.1 r.2.1 r.2.2
      else
        let bs := regionBytes s region off (descCap d)
        let s := if region = 0 ∧ hierBad s = true then { s with free := s.free + 2048 } else s
        blkDone d .ok bs.length (if bs = [] then s else emit (.hostMem d.addr bs) s)
  | [] => s

/-- BLK_TRANSFER (R187, R188): the next descriptor of ring 3. `data`: what the bus master read for DIR 1; it is all of the
buffer. (log 45 DEDUCED) -/
def execBlkTransfer (data : List Byte) (s : State) : Host.Outcome State Fault Refusal :=
  .next (match (ring s 3).desc with
    | d :: _ =>
      if !ctrlOn s || !ringLive s 3 || (ring s 3).stall.isSome ||
        (d.ctrl.getLsbD 6 && decide (data.length ≠ descCap d)) then s
      else blkTransfer data s
    | [] => s)

/-! ### Stalls and late tail writes (R594) -/

/-- R594 kind 2: a ring whose stall has passed goes on, where the bus master serves it. (log 184 DESIGN CHOICE) -/
def passStall (r : Nat) (s : State) : State :=
  if (ring s r).stall = some 0 ∧ ringLive s r = true then
    match r with
    | 0 => gatherFtx s.dma0.ahead { s with dma0 := { s.dma0 with ahead := [] } }
    | 3 => blkTransfer ((ring s 3).ahead.headD []) s
    | r => deliver r s
  else s

/-- R594: 125 µs more have passed for what a ring delays. (log 184 DESIGN CHOICE) -/
def ringLate (r : Nat) (s : State) : State :=
  let s := passStall r (setRing r { ring s r with stall := (ring s r).stall.map (· - 125) } s)
  let left := (ring s r).tails.map (fun e => (e.1 - 125, e.2))
  each (left.filter (fun e => decide (e.1 = 0))) (fun e => seeTail r e.2.1 e.2.2)
    (setRing r { ring s r with tails := left.filter (fun e => decide (e.1 ≠ 0)) } s)

end Sys2Proof.Machine
end

