-- ==== Sys2Proof/Machine/Cal.lean ====
section
/-! DEFINITION. The commands of the calendar and the schedule table (R306 to R332). -/

namespace Sys2Proof.Machine

/-- CAL_STAT.BUSY (R313). -/
def calBusy : Fld := ⟨0x30000, 1, 1⟩

/-- CAL_STAT.RESULT takes an answer. (log 53 DESIGN CHOICE, 83 DESIGN CHOICE) -/
def calAnswer (c : Code) (s : State) : State := setF ⟨0x30000, 8, 8⟩ c.num (unspoilLong 0x30000 s)

/-- CAL_STAT.VALID, with its mirror (R308). -/
def calSet (s : State) : State := setF ⟨0x30000, 0, 1⟩ 1 (setF ⟨0x1C, 5, 1⟩ 1 s)

/-- R310, R312, R321: the fields are loaded; whether an impossible date fires an alarm is open.
(log 84 DEDUCED, 85 DEDUCED) -/
def loadFields (s : State) : State :=
  let g := fieldsFrom (getR s 0x30030) (getR s 0x30034)
  if !possible g then calSet (almFree 1 (almFree 0 (freeFields { s with cal := { s.cal with bad := true } })))
  else if s.cal.bad then
    let s := setFields g { s with cal := { s.cal with bad := false } }
    let s := unspoilLong 0x30014 (unspoilLong 0x30018 (unspoilLong (almReg 0 0xC) (unspoilLong (almReg 1 0xC) s)))
    calSet { s with cal := { s.cal with mark := fieldPos s } }
  else calSet (fieldsStep ((fieldSecs g : Int) - fieldSecs (calFields s)) (some g) s)

/-- The fields move by d seconds; while they are unpredictable they take free values (R310). -/
def moveFields (d : Int) (s : State) : State :=
  if s.cal.bad then almFree 1 (almFree 0 (freeFields s)) else fieldsStep d none s

/-- SEC takes a value; a step past an entry's T is judged (R328). -/
def moveSec (n : Nat) (s : State) : State :=
  let old := calSec s
  let s := setCalSec n s
  if old < n then schSteps s else s

/-- SEC moved by d seconds, modulo 2^48. -/
def secPlus (s : State) (d : Int) : Nat := unsigned 48 ((calSec s : Int) + d)

/-- R312: STEP by d seconds. (log 86 DEDUCED) -/
def calStepBy (d : Int) (s : State) : State := moveSec (secPlus s d) (moveFields d s)

/-- R314: SHIFT by n ticks. -/
def calShiftBy (n : Int) (cycles : Nat) (s : State) : State :=
  let n := clampInt (-32767) 32767 n
  if n < 0 then setB calBusy true { s with cal := { s.cal with hold := (-n).toNat } }
  else if n = 0 then s
  else
    let t := calSub s + 1 + n.toNat
    if 32768 ≤ t then boundary (t - 32768) cycles s else setCalSub t s

/-- R314: CAL_SHIFT.TICKS. -/
def shiftTicks (s : State) : Int := signed 16 (getR s 0x3000C).toNat

/-- R312: what a command does to the counts, on its operand registers. -/
def calOp (op cycles : Nat) (s : State) : State :=
  let adj := signed 32 (getR s 0x30008).toNat
  match op with
  | 1 => loadFields s
  | 2 => calSet (moveSec ((getR s 0x30038).toNat + 2 ^ 32 * getF s ⟨0x3003C, 0, 16⟩) s)
  | 3 => calStepBy adj s
  | 4 => moveFields adj s
  | _ => calShiftBy (shiftTicks s) cycles s

/-- R313: the command that CAL_CMD holds is applied at a tick, which a shift other than 0 counts itself (R314). `counted`: the tick is
counted already. (log 170 DESIGN CHOICE) -/
def calApply (counted : Bool) (cycles : Nat) (s : State) : State :=
  match s.cal.pend with
  | none => s
  | some op =>
    let s := setB calBusy false { s with cal := { s.cal with pend := none } }
    calAnswer .ok (calOp op cycles (if counted || (decide (op = 5) && decide (shiftTicks s ≠ 0)) then s else calAdvance 1 s))

/-- Ticks pass: the first applies a command that waits. (log 170 DESIGN CHOICE) -/
def calTicks (ticks : Nat) (s : State) : State :=
  if ticks = 0 then s
  else if s.cal.pend.isSome then calAdvance (ticks - 1) (calApply false 0 s)
  else calAdvance ticks s

/-- R313: a command of one owner, with the tick that applies it. `owned`: firmware owns it while MODE is 0; while MODE is 1
firmware issues none. (log 83 DESIGN CHOICE, 109 DEDUCED) -/
def calCommand (who : Issuer) (owned : Bool) (ticks : Nat) (f : State → State) (s : State) : State :=
  let s := calTicks ticks s
  let go := fun s => if flag s calBusy then calAnswer .busy s else calAnswer .ok (f s)
  match who with
  | .host => if !flag s calBusy && owned && !calHost s then calAnswer .state s else go s
  | .firmware c => if calHost s then s else byPort false c go s

/-- CAL_LOAD_FIELDS (R310, R312). -/
def execCalLoadFields (who : Issuer) (ticks : Nat) (s : State) : Host.Outcome State Fault Refusal :=
  .next (calCommand who false ticks (calOp 1 0) s)

/-- What an issuer writes to CAL_SET_SEC_LO and CAL_SET_SEC_HI. -/
def withSec (arg : Option (BitVec 48)) (s : State) : State :=
  match arg with
  | some v => setR 0x30038 (v.setWidth 32) (setR 0x3003C ((v >>> 32).setWidth 32) s)
  | none => s

/-- What an issuer writes to CAL_ADJ. -/
def withAdj (arg : Option Word) (s : State) : State :=
  match arg with | some v => setR 0x30008 v s | none => s

/-- What an issuer writes to CAL_SHIFT. -/
def withShift (arg : Option (BitVec 16)) (s : State) : State :=
  match arg with | some v => setR 0x3000C (v.setWidth 32) s | none => s

/-- CAL_LOAD_SEC (R308, R312, R328). -/
def execCalLoadSec (who : Issuer) (arg : Option (BitVec 48)) (ticks : Nat) (s : State) : Host.Outcome State Fault Refusal :=
  .next (calCommand who true ticks (fun s => calOp 2 0 (withSec arg s)) s)

/-- CAL_STEP (R312, R321 to R323, R328). (log 83 DESIGN CHOICE) -/
def execCalStep (who : Issuer) (arg : Option Word) (ticks : Nat) (s : State) : Host.Outcome State Fault Refusal :=
  .next (calCommand who true ticks (fun s => calOp 3 0 (withAdj arg s)) s)

/-- CAL_FIELD_STEP (R312, R321). (log 86 DEDUCED) -/
def execCalFieldStep (who : Issuer) (arg : Option Word) (ticks : Nat) (s : State) : Host.Outcome State Fault Refusal :=
  .next (calCommand who false ticks (fun s => calOp 4 0 (withAdj arg s)) s)

/-- CAL_SHIFT (R314). -/
def execCalShift (who : Issuer) (arg : Option (BitVec 16)) (ticks cycles : Nat) (s : State) :
    Host.Outcome State Fault Refusal :=
  .next (calCommand who true ticks (fun s => calOp 5 cycles (withShift arg s)) s)

/-- CAL_SHIFT_DONE (R314): the withheld ticks have passed. -/
def execCalShiftDone (s : State) : Host.Outcome State Fault Refusal :=
  .next (if s.cal.hold = 0 then s else setB calBusy false { s with cal := { s.cal with hold := 0 } })

/-- R317: the corrections that firmware makes from the latched time. -/
def discipline (cycles : Nat) (trim : Option (BitVec 20)) (s : State) : State :=
  let e : Int := segmentNs s (getR s 0x30048) - (calSec s : Int) * 1000000000
  let q := e.tdiv 1000000000
  let n := ((e - q * 1000000000) * 65536 + 1000000000) / 2000000000
  let s := if q = 0 then s else calAnswer .ok (calStepBy q s)
  let s := if n = 0 then s else calAnswer .ok (calShiftBy n cycles s)
  let s := match trim with | some v => setR 0x30040 (v.setWidth 32) s | none => s
  setDisc true { s with cal := { s.cal with idle := 0 } }

/-- R317: the seconds without a correction that clear DISC: HOLD_S, at least one. -/
def holdS (s : State) : Nat := max 1 (getF s ⟨0x30044, 8, 8⟩)

/-- R317: one more second has passed without a correction. -/
def undisciplined (s : State) : State :=
  let s := { s with cal := { s.cal with idle := s.cal.idle + 1 } }
  if holdS s ≤ s.cal.idle then setDisc false s else s

/-- R317: firmware's work at a second boundary, in MODE 0. -/
def disciplineSecond (master traceable : Bool) (trim : Option (BitVec 20)) (s : State) : State :=
  if calHost s || !ctrlRun s || (twinDead s .a && twinDead s .b) then s
  else if !netOn s then undisciplined s
  else if !master then undisciplined (setDisc false s)
  else if traceable && anchorValid s then discipline 0 trim s
  else undisciplined s

/-- R306, R313, R323: the tick of a second boundary. A command that CAL_CMD holds acts after the boundary; a shift counts the tick
itself, and may withhold the boundary (R314). (log 170 DESIGN CHOICE) -/
def boundaryTick (cycles : Nat) (s : State) : State :=
  if s.cal.pend = some 5 ∧ shiftTicks s ≠ 0 then calApply false cycles (setCalSub 32767 s)
  else calApply true cycles (boundary 0 cycles (phaseEnd s))

/-- CAL_SECOND_BOUNDARY (R306, R309, R316, R317, R320): a shift may withhold it. -/
def execCalSecondBoundary (cycles : Nat) (master traceable : Bool) (trim : Option (BitVec 20)) (s : State) :
    Host.Outcome State Fault Refusal :=
  .next (if s.cal.hold ≠ 0 then s
    else
      let t := boundaryTick cycles s
      if s.cal.pend = some 5 ∧ shiftTicks s < 0 then t else disciplineSecond master traceable trim t)

/-- DISC_HOLDOVER_EXPIRE (R317): while MODE is 0, HOLD_S seconds have passed without a correction. -/
def execDiscHoldoverExpire (s : State) : Host.Outcome State Fault Refusal :=
  .next (if calHost s || decide (s.cal.idle < holdS s) then s else setDisc false s)

/-- The registers of the shadow group (R311). -/
def shadowRegs : List Nat := [0x30010, 0x30014, 0x30018, 0x3001C, 0x30020]

/-- CAL_STAT.SHADOW. -/
def shadowFld : Fld := ⟨0x30000, 4, 1⟩

/-- R311: a read of register i of the group. -/
def shadowRead (i : Nat) (s : State) : State :=
  let copy := match s.cal.shadow with
    | some c => c
    | none => shadowRegs.map (getR s)
  let seen := (if s.cal.shadow.isNone then [] else s.cal.seen.filter (· ≠ i)) ++ [i]
  let s := { s with hostData := [copy.getD i 0] }
  if seen.length = 5 then setB shadowFld false { s with cal := { s.cal with shadow := none, seen := [] } }
  else setB shadowFld true { s with cal := { s.cal with shadow := some copy, seen := seen } }

/-- CAL_SHADOW_READ (R310, R311). -/
def execCalShadowRead (route : Route) (reg : Fin 5) (ticks : Nat) (s : State) : Host.Outcome State Fault Refusal :=
  .next (readBy route (fun s => shadowRead reg.val (calTicks ticks s)) s)

/-- CAL_SHADOW_EXPIRE (R311). -/
def execCalShadowExpire (s : State) : Host.Outcome State Fault Refusal :=
  .next (setB shadowFld false { s with cal := { s.cal with shadow := none, seen := [] } })

/-- R325: who may command an entry: the host the lower half, firmware the upper half through the control port. -/
def schCommand (who : Issuer) (e : Nat) (f : State → State) (s : State) : State :=
  match who with
  | .host => if e < 32 then f s else s
  | .firmware c => if e < 32 then s else byPort false c f s

/-- R328, R329: an entry is armed; where its T has come it is judged. -/
def schArm (e : Nat) (s : State) : State :=
  if schState s e = 1 then s
  else if schDue s e then schTick [e] schJudge schInGrace s
  else setSch e 1 s

/-- SCHED_ARM (R325, R328 to R331). -/
def execSchedArm (who : Issuer) (e : Fin 64) (ticks : Nat) (s : State) : Host.Outcome State Fault Refusal :=
  .next (schCommand who e.val (schArm e.val) (calTicks ticks s))

/-- SCHED_CANCEL (R325, R329). -/
def execSchedCancel (who : Issuer) (e : Fin 64) (s : State) : Host.Outcome State Fault Refusal :=
  .next (schCommand who e.val (fun s => setSch e.val 0 (unhand e.val s)) s)

/-- An entry falls due by a normal tick and is released, however late (R327). -/
def schFall (e : Nat) (s : State) : State := schAfter e 1 false (schRelease e s)

/-- SCHEDULE_RELEASE (R326, R327, R331). (log 91 DEDUCED) -/
def execScheduleRelease (ticks : Nat) (s : State) : Host.Outcome State Fault Refusal :=
  let s := calTicks ticks s
  .next (schTick (schFallDue s) schFall (fun _ _ => true) s)

/-- FINE_RELEASE (R327, R408): raw time has reached the entry's target. -/
def execFineRelease (e : Fin 64) (cycles : Nat) (s : State) : Host.Outcome State Fault Refusal :=
  let s := tsuAdvance cycles s
  .next (match s.tsu.fine.find? (fun x => decide (x.1 = e.val)) with
    | some x => if netOn s && decide (schState s e.val = 1) && rawReached s x.2 then
        schTick [e.val] schFall (fun _ _ => true) s else s
    | none => s)

/-- FINE_HANDOFF (R327, R408): with no anchor in force the calendar keeps the entry. (log 87 DEDUCED) -/
def execFineHandoff (e : Fin 64) (s : State) : Host.Outcome State Fault Refusal :=
  let early := decide (nowUnits s + 1000000 * 32768 ≤ schUnits s e.val) &&
    decide (schUnits s e.val < nowUnits s + 2 ^ 31 * 32768)
  .next (if decide (schState s e.val = 1) && flag s ⟨schReg e.val 0xC, 4, 1⟩ && netOn s && flag s ⟨0x30044, 1, 1⟩ &&
      anchorValid s && early then
    let s := unhand e.val s
    { s with tsu := { s.tsu with fine := s.tsu.fine ++ [(e.val, rawOf s (schNs s e.val : Nat))] } }
  else s)

end Sys2Proof.Machine
end

