-- ==== Sys2Proof/Machine/HierFrame.lean ====
section
/-! DEFINITION. A received hierarchy frame read from its bytes (R457, R459, R464, R470, R478, R483, R485). -/

namespace Sys2Proof.Machine

/-- k bytes from offset o, little-endian. -/
def leAtB (b : List Byte) (o k : Nat) : Nat := leNat ((b.drop o).take k)

/-- R457: the header of a frame, from the bytes after its EtherType. -/
def parseHdr (b : List Byte) : HierHdr :=
  let n := leAtB b
  let flags := n 2 2
  { ackReq := flags.testBit 0, down := flags.testBit 1, scope := BitVec.ofNat 2 (flags / 4), own := BitVec.ofNat 2 (flags / 16),
    sched := flags.testBit 6, fine := flags.testBit 7, issuer := BitVec.ofNat 16 (n 4 2), sender := BitVec.ofNat 16 (n 6 2),
    epoch := BitVec.ofNat 8 (n 8 1), result := BitVec.ofNat 8 (n 9 1), cmdId := BitVec.ofNat 16 (n 10 2),
    epa := BitVec.ofNat 32 (n 12 4), tSec := BitVec.ofNat 48 (n 16 6), grace := BitVec.ofNat 16 (n 22 2),
    tNs := BitVec.ofNat 32 (n 24 4) }

/-- R464: the command that a CMD body holds; none for an OP that the table does not list. -/
def parseCmd (h : HierHdr) (b : List Byte) : Option Instr :=
  let n := leAtB b
  let id := BitVec.ofNat 16 (n 2 2)
  match n 0 1 with
  | 1 => some (.level h id (BitVec.ofNat 16 (n 4 2)) (decide (n 6 1 ≠ 0)))
  | 2 => some (.power h (BitVec.ofNat 12 (n 2 2)))
  | 3 => some (.reset h (BitVec.ofNat 8 (n 2 1)))
  | 4 => some (.snapshot h id)
  | 5 => some (.collect h id)
  | 6 => some (.cancel h id)
  | _ => none

/-- R485: what an XFER body holds; none for a TARGET or OP that the rule does not list. -/
def parseXfer (h : HierHdr) (b : List Byte) : Option Instr :=
  let n := leAtB b
  let target : Option XferTarget := match n 0 1 with | 1 => some .image | 2 => some .firmware | _ => none
  match target, n 1 1 with
  | some t, 1 => some (.xferBegin h t (n 6 4))
  | some t, 2 => some (.xferData h t (n 2 4) (b.drop 6))
  | some t, 3 => some (.xferCommit h t (n 6 4))
  | some t, 4 => some (.xferAbort h t)
  | _, _ => none

/-- R459: a frame's body by its MTYPE; none for a type that the table does not list. `src`: the source address. A frame's cells are
those of its length with the overhead of R458; SNAPDATA is a worker's last where it reaches record 2,047. -/
def parseBody (src : BitVec 48) (mtype : Nat) (h : HierHdr) (b : List Byte) : Option Instr :=
  let n := leAtB b
  let word := fun o => BitVec.ofNat 32 (n o 4)
  match mtype with
  | 0x01 => some (.hello h src (BitVec.ofNat 8 (n 0 1)) (BitVec.ofNat 8 (n 1 1)) (BitVec.ofNat 16 (n 2 2)) (BitVec.ofNat 16 (n 4 2))
      (BitVec.ofNat 16 (n 6 2)))
  | 0x02 => some (.announce h (word 0) (word 4) ((n 8 2).testBit 0) ((n 8 2).testBit 1) ((n 8 2).testBit 2))
  | 0x03 => some (.credit h ((List.range (min 36 (n 0 1))).map (fun i => (BitVec.ofNat 8 (n (2 + 5 * i) 1), word (3 + 5 * i)))))
  | 0x10 => parseCmd h b
  | 0x11 => some (.ack h ⟨(List.range 8).map (fun i => n (2 * i) 2), n 16 2, n 18 2, BitVec.ofNat 128 (n 20 16)⟩)
  | 0x20 => some (.telem h (word 0) (70 + b.length) (b.drop 4))
  | 0x21 =>
    let k := min (n 6 2) ((b.length - 14) / 8)
    some (.snapdata h (BitVec.ofNat 16 (n 0 2)) (word 2) ((n 8 1).testBit 0)
      (decide (h.own = 0) && decide (2048 ≤ n 2 4 % 2048 + k)) (word 10) (70 + b.length)
      ((List.range k).map (fun i => BitVec.ofNat 64 (n (14 + 8 * i) 8))))
  | 0x30 => some (.barrier h)
  | 0x31 => some (.arrive h (n 0 2) (n 2 2))
  | 0x40 => parseXfer h b
  | 0x50 => some (.wake h)
  | _ => none

/-- A hierarchy frame with a good header, from the bytes after its EtherType: the command that gives the same frame in fields. -/
def parseHier (src : BitVec 48) (b : List Byte) : Option Instr :=
  parseBody src (leAtB b 1 1) (parseHdr b) ((b.drop 32).take (leAtB b 28 2))

end Sys2Proof.Machine
end

