-- ==== Sys2Proof/Machine/Net.lean ====
section
/-! DEFINITION. The commands of the wired ports and the switch cluster (R373 to R396). -/

namespace Sys2Proof.Machine

/-- Bytes of a MAC control frame, in network order. -/
def beWord (b : List Byte) (i : Nat) : Nat := (b.getD i 0).toNat * 256 + (b.getD (i + 1) 0).toNat

/-- R394: the destinations of a PAUSE frame. -/
def pauseDst (s : State) (d : BitVec 48) : Bool := decide (d = 0x010000C28001) || decide (d = swMac s)

/-- R385, R469: a frame is delivered; in STANDBY the switch cluster takes the hierarchy's. -/
def deliverFrame (p : Nat) (f : EthFrame) (raw : Word) (s : State) : State :=
  if hierGood f && decide (ctrl s = .standby) then
    match parseHier f.src f.payload with
    | some i => standbyFrame i s
    | none => s
  else rxDeliver p f raw s

/-- What every port does with a received frame before its own rules: the time, a PORT_HOLD, the receive checks, MAC control
and PTP frames, and PORT_RX_DROP (R377 to R379, R394, R409, R416, R594). `rest` takes the frames that go on, with their stamps.
(log 98 DEDUCED, 103 DESIGN CHOICE) -/
def receive (p : Nat) (f : EthFrame) (cycles : Nat) (rest : Word → State → State) (s : State) : State :=
  let x := rxStamp p (portHold p (tsuAdvance cycles s))
  let s := x.2
  match rxFault s p f with
  | some i => bump (portCnt p i) (if isRing s p && (decide (i = 1) || decide (i = 3)) then stompForward p f s else s)
  | none =>
    let r := tstApply 5 p s
    if r.1.isSome then r.2
    else if f.etype = 0x8808 then
      macControl p (beWord f.payload 2) (beWord f.payload 0) (pauseDst r.2 f.dst) (pausedUs r.2 p) r.2
    else if f.ptp then
      (if portPtp r.2 p then deliverFrame p f x.1 (bump (portCnt p 0) r.2) else bump (portCnt p 5) r.2)
    else rest x.1 r.2

/-- R382 to R386: a tagged frame on a ring port. -/
def ringFrame (p : Nat) (f : EthFrame) (t : SplineTag) (raw : Word) (s : State) : State :=
  let s := bump (portCnt p 0) s
  if t.origin = swOrigin s then bump 0x204050 s
  else
    let mine := addressed s f.dst
    let s := if mine then
        let r := judgeWin t s
        if r.1 then deliverFrame p f raw (when (decide (portRole s p = 1)) (relay f) r.2) else r.2
      else s
    if t.hops = 0 then stompForward p f (if mine then s else bump 0x20404C s)
    else if portPaired s p && decide (f.dst ≠ swMac s) then forward p f t s
    else s

/-- RING_FRAME_RECEIVE (R382 to R386, R474). -/
def execRingFrameReceive (p : Fin 4) (f : EthFrame) (cycles : Nat) (s : State) : Host.Outcome State Fault Refusal :=
  .next (if netOn s && isRing s p.val && linkUp s p.val then
    receive p.val f cycles (fun raw s =>
      match f.tag with
      | some t => if tagGood t then ringFrame p.val f t raw s else bump (portCnt p.val 6) (stompForward p.val f s)
      | none => bump (portCnt p.val 6) (stompForward p.val f s)) s
  else s)

/-- EDGE_FRAME_RECEIVE (R385). -/
def execEdgeFrameReceive (p : Fin 4) (f : EthFrame) (cycles : Nat) (s : State) : Host.Outcome State Fault Refusal :=
  .next (if netOn s && decide (portRole s p.val = 3) && linkUp s p.val then
    receive p.val f cycles (fun raw s =>
      if addressed s f.dst then deliverFrame p.val f raw (bump (portCnt p.val 0) s) else bump (portCnt p.val 5) s) s
  else s)

/-- PAUSE_FRAME (R394, R409); one that PORT_RX_DROP drops is not recognised (R594). -/
def execPauseFrame (p : Fin 4) (quanta opcode : BitVec 16) (toModule : Bool) (us : Nat) (s : State) :
    Host.Outcome State Fault Refusal :=
  .next (if netOn s && decide (portRole s p.val ≠ 0) && linkUp s p.val then
    let r := tstApply 5 p.val (rxStamp p.val s).2
    if r.1.isSome then r.2 else macControl p.val quanta.toNat opcode.toNat toModule us r.2
  else s)

/-- PAUSE_EXPIRE (R394): the pause ends after us microseconds. -/
def execPauseExpire (p : Fin 4) (us : Nat) (s : State) : Host.Outcome State Fault Refusal :=
  .next (if netOn s then resume p.val us s else s)

/-- DEATHWATCH_BREAK (R395): a PAUSE_LIMIT of 0 disables it. -/
def execDeathwatchBreak (p : Fin 4) (us : Nat) (s : State) : Host.Outcome State Fault Refusal :=
  .next (if netOn s && flag s (pausedFld p.val) && decide (pauseLimit s p.val ≠ 0) then
    let s := setB (holdoffFld p.val) true (resume p.val us s)
    raise (120 + p.val) (bump (portCnt p.val 13) (setB (evtFld p.val 1) true s))
  else s)

/-- HOLDOFF_EXPIRE (R395, R396). -/
def execHoldoffExpire (p : Fin 4) (s : State) : Host.Outcome State Fault Refusal :=
  .next (if netOn s then setB (holdoffFld p.val) false s else s)

/-- R375: LINK takes a value; a change is reported. (log 101 DEDUCED) -/
def setLink (p : Nat) (up : Bool) (s : State) : State :=
  if linkUp s p = up then s else raise (116 + p) (setB (evtFld p 0) true (setB (linkFld p) up s))

/-- LINK_CHANGE (R373 to R375, R397): a disabled port, or one whose EN is 0, has no link. (log 101 DEDUCED) -/
def execLinkChange (p : Fin 4) (up anDone sfpPresent sfpLos sfpTxFault : Bool) (s : State) :
    Host.Outcome State Fault Refusal :=
  .next (if netOn s then
    let r := portReg p.val 0xC
    let s := setB ⟨r, 1, 1⟩ (anDone && decide (portSpeed s p.val ≠ 2)) s
    let s := setB ⟨r, 4, 1⟩ sfpPresent (setB ⟨r, 5, 1⟩ sfpLos (setB ⟨r, 6, 1⟩ sfpTxFault s))
    setLink p.val (up && decide (portRole s p.val ≠ 0) && flag s ⟨portReg p.val 8, 0, 1⟩) s
  else s)

/-- RESTART_AN (R374): 10GBASE-R has no auto-negotiation. (log 101 DEDUCED) -/
def execRestartAn (p : Fin 4) (s : State) : Host.Outcome State Fault Refusal :=
  .next (if netOn s && decide (portRole s p.val ≠ 0) && decide (portSpeed s p.val ≠ 2) then
    setB ⟨portReg p.val 0xC, 1, 1⟩ false s else s)

/-- MERGE_BLOCK (R387 to R390, R526 to R528, R533): the twins build no frame of more than 9,216 bytes (R377). -/
def execMergeBlock (t : Twin) (head : TxHead) (bytes : List Byte) (last : Bool) (s : State) :
    Host.Outcome State Fault Refusal :=
  .next (if netOn s && ctrlRun s && !twinDead s t && decide (head.len ≤ 9216) then 
      delayCopy t (.block t ⟨head, bytes, last⟩) (takeBlock t ⟨head, bytes, last⟩) s else s)

/-- MERGE_SOLO (R388, R527): one twin's block lags by more than WAIT_US. (log 99 DEDUCED) -/
def execMergeSolo (s : State) : Host.Outcome State Fault Refusal :=
  .next (if !netOn s then s else
    match s.net.merge.wait with
    | [] => s
    | c :: _ =>
      let bs := firstFrame s.net.merge.wait
      let fresh := (bs.filter (fun b => !b.passed)).map (·.item)
      let s := { s with net := { s.net with merge := { s.net.merge with wait := s.net.merge.wait.drop bs.length } } }
      routeMissing c.twin.other (if bothInStep s then mergeLead c.twin fresh (bump 0x204054 s) else s))

/-- TX_FRAME_START (R391, R393, R418). -/
def execTxFrameStart (p : Fin 4) (s : State) : Host.Outcome State Fault Refusal :=
  .next (if txFree s p.val then
    match nextFrame s p.val with
    | some e => startTx p.val e s
    | none => s
  else s)

/-- TX_UNDERRUN (R393): the rest of the frame is discarded as it arrives. -/
def execTxUnderrun (p : Fin 4) (s : State) : Host.Outcome State Fault Refusal :=
  .next (match (portOf s p.val).cur with
    | some e =>
      if netOn s && e.opn then underrun p.val s else s
    | none => s)

/-- WINDOW_ENTRY_AGE (R386): an entry that has accepted nothing for AGE_MS is freed. -/
def execWindowEntryAge (origin : BitVec 16) (stream : BitVec 3) (s : State) : Host.Outcome State Fault Refusal :=
  .next (if netOn s then setWin (winOthers s origin stream) s else s)

/-- TX_FRAME_END (R395, R397): a frame that the merge still releases cannot end. -/
def execTxFrameEnd (p : Fin 4) (s : State) : Host.Outcome State Fault Refusal :=
  .next (match (portOf s p.val).cur with
    | some e => if netOn s && !e.opn then bump (portCnt p.val 10) (endTx p.val true s) else s
    | none => s)

end Sys2Proof.Machine
end

