-- ==== Sys2Proof/Machine/Upd.lean ====
section
/-! DEFINITION. The commands of firmware update and recovery (R575 to R590). -/

namespace Sys2Proof.Machine

/-- UPD_BEGIN (R567, R575). -/
def execUpdBegin (who : StgIssuer) (s : State) : Host.Outcome State Fault Refusal :=
  .next (stgIssue who (fun p s => stgBegin .firmware p s) s)

/-- UPD_COMMIT (R575, R590). -/
def execUpdCommit (who : StgIssuer) (s : State) : Host.Outcome State Fault Refusal :=
  .next (stgIssue who (fun p s => stgCommit .firmware p (stgLenReg s .firmware) s) s)

/-- UPD_ABORT (R575, R590). -/
def execUpdAbort (who : StgIssuer) (s : State) : Host.Outcome State Fault Refusal :=
  .next (stgIssue who (fun p s => stgAbort .firmware p s) s)

/-- UPD_DISCARD (R575). -/
def execUpdDiscard (s : State) : Host.Outcome State Fault Refusal := .next (if ctrlOn s then stgDiscard .firmware s else s)

/-- UPD_STG_DATA (R153, R575). -/
def execUpdStgData (v : Word) (s : State) : Host.Outcome State Fault Refusal :=
  .next (if ctrlOn s then stgData .firmware v s else s)

/-- SAVE_SETTINGS (R588). -/
def execSaveSettings (s : State) : Host.Outcome State Fault Refusal :=
  .next (if ctrlOn s then settingsCommand false s else s)

/-- DEFAULTS (R588). -/
def execDefaults (s : State) : Host.Outcome State Fault Refusal :=
  .next (if ctrlOn s then settingsCommand true s else s)

/-- RECOVER_NEXT (R575, R580). -/
def execRecoverNext (s : State) : Host.Outcome State Fault Refusal :=
  .next (if !ctrlOn s then s
    else if flag s (stgBusy .firmware) then stgAnswer .firmware .busy s
    else stgAnswer .firmware .ok { s with upd := { s.upd with recFlag := true } })

/-- TRIAL_TIMEOUT (R578). (log 147 DEDUCED) -/
def execTrialTimeout (s : State) : Host.Outcome State Fault Refusal :=
  .next (if flag s ⟨0x50004, 5, 1⟩ && s.sys.start.isSome && decide (3 ≤ getF s stageFld) then trialFail s else s)

/-- RCV_HELLO_PERIOD (R583): a request's fields hold anything in it. -/
def execRcvHelloPeriod (s : State) : Host.Outcome State Fault Refusal :=
  .next (if inRecovery s then
    let w := fun i => Config.freeWord (s.free + i)
    emit (.recovery 0xFFFFFFFFFFFF (recoveryBody 1 ((w 0).setWidth 16) ((w 0 >>> 16).setWidth 8) 0 (w 1) (w 2) (helloData s)))
      { s with free := s.free + 3 }
  else s)

/-- RCV_HELLO (R583). -/
def execRcvHello (q : RcvReq) (s : State) : Host.Outcome State Fault Refusal :=
  .next (rcvAnswer 1 q helloData (fun s => (.ok, s)) s)

/-- RCV_BEGIN (R575, R583): the first answered OK opens the session. -/
def execRcvBegin (q : RcvReq) (s : State) : Host.Outcome State Fault Refusal :=
  .next (rcvAnswer 2 q (fun _ => []) (fun s =>
    let r := stgBegin (targetStore q.target) .recovery s
    if r.1 = .ok then
      (.ok, { r.2 with upd := { r.2.upd with sess := some ⟨q.src, targetStore q.target, 0⟩ } })
    else r) s)

/-- RCV_DATA (R583): at the next byte expected. -/
def execRcvData (q : RcvReq) (s : State) : Host.Outcome State Fault Refusal :=
  .next (rcvAnswer 3 q (fun _ => []) (fun s =>
    match s.upd.sess with
    | none => (.state, s)
    | some x =>
      if x.store = targetStore q.target ∧ x.next = q.offset then
        let w := stgWrite x.store .recovery q.offset (rcvBytes q) s
        if w.1 then
          (.ok, { w.2 with upd := { w.2.upd with sess := some { x with next := q.offset + q.len } } })
        else (.state, s)
      else (.state, s)) s)

/-- RCV_COMMIT (R582, R583). -/
def execRcvCommit (q : RcvReq) (s : State) : Host.Outcome State Fault Refusal :=
  .next (rcvAnswer 4 q (fun _ => []) (fun s =>
    let r := stgCommit (targetStore q.target) .recovery q.total s
    if r.1 = .ok then (.ok, endSession r.2) else r) s)

/-- RCV_ABORT (R582, R583). (log 146 DEDUCED) -/
def execRcvAbort (q : RcvReq) (s : State) : Host.Outcome State Fault Refusal :=
  .next (rcvAnswer 5 q (fun _ => []) (fun s =>
    let r := stgAbort (targetStore q.target) .recovery s
    if r.1 = .ok then (.ok, endSession r.2) else r) s)

/-- RCV_BOOT (R107, R583): a module reset after the reply. -/
def execRcvBoot (q : RcvReq) (s : State) : Host.Outcome State Fault Refusal :=
  .next (rcvAnswer 6 q (fun _ => []) (fun s =>
    (resetAnswer s .module, resetRequest .module false s)) s)

/-- RCV_SESSION_TIMEOUT (R583). (log 146 DEDUCED) -/
def execRcvSessionTimeout (s : State) : Host.Outcome State Fault Refusal :=
  .next (if s.upd.sess.isSome then endSession s else s)

/-- UPD_BEGIN_DONE (R575). -/
def execUpdBeginDone (s : State) : Host.Outcome State Fault Refusal := .next (stgZeroed .firmware s)

/-- SETTINGS_SAVE_DONE (R585, R590): the twins' copies of the write are compared at the FRAM port, which writes the read source's
where they differ (R28, R527); with both twins failed none is written (R532). (log 109 DEDUCED, 145 DEDUCED) -/
def execSettingsSaveDone (c : Copies) (s : State) : Host.Outcome State Fault Refusal :=
  .next (match s.upd.saving with
    | none => s
    | some xs =>
      byPort true c (fun s =>
        let s := putCopy (getF s ⟨0x50028, 0, 16⟩) xs { s with upd := { s.upd with saving := none } }
        raise 15 (stgAnswer .firmware .ok (setB (stgBusy .firmware) false s))) s)

end Sys2Proof.Machine
end

