-- ==== Sys2Proof/Machine/ImgLoad.lean ====
section
/-! DEFINITION. The image loader: what each panel writes to its block's registers (R123 to R138, R146, R147), values that
break a panel's rules (R143), the safe-level record (R151, R152), verification at start-up, promotion and sealing
(R116, R117, R144, R145, R606). -/

namespace Sys2Proof.Machine

/-! ### Loading registers -/

/-- The loader writes a register; of a record that breaks a rule, with any value until a good image is sealed (R143, R603).
(log 36 DEDUCED) -/
def loadReg (bad : Bool) (off : Nat) (v : Word) (s : State) : State :=
  if bad then spoilLong off (readMask off) (drawn (setR off (freeOf s &&& w32 (definedMask off)) s))
  else unspoilLong off (unspoil off (setR off v s))

/-! ### CHAN and SAFE (R123 to R126) -/

/-- R233, R240: DRV_CH_CFG of a channel of a record: the lead is the lowest-numbered member. -/
def chanCfg (t : Tab Byte) (r : Nat) : Word :=
  let leds := byteAt t (r + 2)
  let short := (2 * leds - 1) * leAt t (r + 4) 2 / 40
  let opn := (min ((2 * leds + 1) * leAt t (r + 6) 2) 113200 + 39) / 40
  w32 (byteAt t (r + 1) % 4 + (maskChans (chanMask t r)).headD 0 % 8 * 2 ^ 2 + short % 2 ^ 12 * 2 ^ 6 + opn % 2 ^ 12 * 2 ^ 18)

/-- DRV_CH_CFG and DRV_CH_LIMIT of one channel; a bad record leaves I_MAX within what the image declares, and I_MIN
within I_MAX (R20). -/
def loadChannel (t : Tab Byte) (n : Nat) (s : State) : State :=
  match chanRecFor t n with
  | some r =>
    let b := chanRecBad t r
    let s := loadReg b (chReg n 0xC) (wordAt t (r + 16)) (loadReg b (chReg n 8) (chanCfg t r) s)
    when b (fun s =>
      let s := setF ⟨chReg n 0xC, 16, 16⟩ (min (iMax s n) (declaredMax t n)) s
      setF ⟨chReg n 0xC, 0, 16⟩ (min (iMin s n) (iMax s n)) s) s
  | none => loadReg false (chReg n 0xC) 0 (loadReg false (chReg n 8) 0 s)

/-- R239: the sealed configuration of every channel, taken in the state it is in. -/
def loadDrv (s : State) : State :=
  let before := channels.map (leadOf s)
  let t := activeImg s
  let s := each channels (loadChannel t) s
  let s := { s with drv := { s.drv with loaded := true } }
  each channels (fun n => joinLead (before.getD n n) n) (each channels followEnable s)

/-! ### CHAIN (R135) -/

/-- The record breaks a rule. (log 36 DEDUCED) -/
def chainRecBad (t : Tab Byte) (r : Nat) : Bool :=
  decide (byteAt t (r + 2) = 0) || decide (128 < byteAt t (r + 2)) || decide (byteAt t (r + 3) < 2) ||
  decide (4 < byteAt t (r + 3)) || decide (leAt t (r + 4) 2 < 100) || decide (25000 < leAt t (r + 4) 2) ||
  decide (leAt t (r + 6) 2 < 40) || decide (byteAt t (r + 3) * byteAt t (r + 10) ≠ 48) || recordTwice t 8 0 1 (byteAt t r)

/-- CHN_PORT_CFG of a port; a port without a record is disabled. A rise of ENABLE is acted on (R266). -/
def loadChain (t : Tab Byte) (k : Nat) (s : State) : State :=
  let was := chnEnable s k
  let s := match recordFor t 8 0 1 k with
    | some r =>
      let b := chainRecBad t r
      loadReg b (chnReg k 0) (w32 (byteAt t (r + 1) % 8 + byteAt t (r + 2) * 2 ^ 8 + byteAt t (r + 3) % 8 * 2 ^ 16))
        (loadReg b (chnReg k 4) (wordAt t (r + 4)) (loadReg b (chnReg k 8) (w32 (leAt t (r + 8) 2)) s))
    | none => loadReg false (chnReg k 0) 0 (loadReg false (chnReg k 4) 0 (loadReg false (chnReg k 8) 0 s))
  if chnEnable s k && !was then chnEnableRise k s else s

def loadChn (s : State) : State := each (List.range 4) (loadChain (activeImg s)) s

/-! ### METER (R133, R134) -/

/-- The record breaks a rule of R133; what R134 says of shared inputs and outputs is judged where they are used.
(log 36 DEDUCED) -/
def meterRecBad (t : Tab Byte) (r : Nat) : Bool :=
  let kind := byteAt t (r + 2)
  let top := match kind with | 0 => 63 | 1 => 63 | 2 => 7 | 3 => 5 | _ => 31
  decide (4 < kind) || decide (top < byteAt t (r + 3)) ||
  (if kind = 2 then decide (2 < byteAt t (r + 4)) else decide (byteAt t (r + 4) ≠ 0xFF)) ||
  (if kind = 2 ∨ kind = 3 then decide (1 < byteAt t (r + 5)) else decide (byteAt t (r + 5) ≠ 0)) ||
  (decide (3 < byteAt t (r + 12)) && decide (byteAt t (r + 12) ≠ 0xFF)) || decide (3 < byteAt t (r + 13)) ||
  recordTwice t 7 0 2 (leAt t r 2)

/-- MTR_POINT_CFG of a point. -/
def loadPoint (t : Tab Byte) (p : Nat) (s : State) : State :=
  match recordFor t 7 0 2 p with
  | some r =>
    let b := meterRecBad t r
    let s := loadReg b (ptReg p 0) (w32 (byteAt t (r + 2) % 8 + byteAt t (r + 3) * 2 ^ 8 + byteAt t (r + 4) * 2 ^ 16 +
      byteAt t (r + 5) % 2 * 2 ^ 24 + 2 ^ 31)) s
    loadReg b (ptReg p 4) (wordAt t (r + 8)) (loadReg b (ptReg p 8)
      (w32 (byteAt t (r + 12) + byteAt t (r + 13) % 4 * 2 ^ 8 + leAt t (r + 14) 2 * 2 ^ 16)) s)
  | none => loadReg false (ptReg p 0) 0 (loadReg false (ptReg p 4) 0 (loadReg false (ptReg p 8) 0 s))

/-- The meter points' configuration; the pulse outputs start (R368). (log 39 DEDUCED) -/
def loadMtr (s : State) : State := startPulses (each points (loadPoint (activeImg s)) s)

/-- R364: the tags of declared points at sealing. -/
def sealTag (t : Tab Byte) (p : Nat) (s : State) : State :=
  match recordFor t 7 0 2 p with
  | some r =>
    let tag := cfgTag (bytesAt t r 12)
    if (ptTot s p).tag = tag then s else setTot p { ptTot s p with tag := tag } (setF ⟨ptReg p 0x44, 0, 1⟩ 1 s)
  | none => s

/-! ### SENSOR and DOWEL (R131, R132) -/

/-- RFX_IN_CFG of an input; without a record it is enabled and not inverted. (log 36 DEDUCED) -/
def loadInput (t : Tab Byte) (i : Nat) (s : State) : State :=
  match recordFor t 5 0 1 i with
  | some r => loadReg (recordTwice t 5 0 1 i) (0x130100 + 4 * i) (w32 (byteAt t (r + 1) % 4)) s
  | none => loadReg false (0x130100 + 4 * i) 1 s

/-- A cell from its record: words 0 to 5, LOADED, and ARMED where its condition is ABOVE or BELOW (R284). -/
def loadCell (t : Tab Byte) (r : Nat) (s : State) : State :=
  let c := leAt t r 2
  if 1024 ≤ c then s
  else
    let b := recordTwice t 6 0 2 c
    let s := each (List.range 6) (fun w s => loadReg b (cellReg c w) (wordAt t (r + 4 * w)) s) s
    let cond := (cellOf s c).cond
    setR (cellReg c 6) (if cond = 0x10 ∨ cond = 0x11 then 3 else 1) s

/-- R302: FAB rises from OFF: cells and inputs are loaded, and the rest of the fabric is as new. The presence levels at the
rise are taken silently. (log 78 DEDUCED) -/
def fabRise (s : State) : State :=
  let t := activeImg s
  let s := clearBlock .rfx { s with rfx := { pins := s.rfx.pins } }
  let s := each (List.range 40) (loadInput t) (each (records t 6) (loadCell t) s)
  (takeLevels (List.range 32) s).2

/-- R302: FAB falls to OFF: all fabric state is lost. (log 11 DEDUCED) -/
def fabFall (s : State) : State := clearBlock .rfx { s with rfx := { pins := s.rfx.pins } }

/-- R93: SYS_WAKE_INPUTS. The bit of an input that two records name reads anything, and fires no wake (R20, R143). -/
def loadWake (s : State) : State :=
  let t := activeImg s
  let bits := fun (p : Nat → Bool) => (List.range 32).foldl (fun m i => if p i then m + 2 ^ i else m) 0
  let wake := fun i => match recordFor t 5 0 1 i with | some r => (byteAt t (r + 1)).testBit 2 | none => false
  spoilLong 0x24 (bits (recordTwice t 5 0 1)) (unspoilLong 0x24 (setR 0x24 (w32 (bits (fun i => wake i && !recordTwice t 5 0 1 i))) s))

/-! ### PORT and the header's place in the estate (R127, R128, R454) -/

/-- ROLE, AREA and WORKER of the header, and whether they break R120. -/
def hdrRole (t : Tab Byte) : Nat := byteAt t 21
def hdrArea (t : Tab Byte) : Nat := byteAt t 22
def hdrWorker (t : Tab Byte) : Nat := byteAt t 23
def hdrBad (t : Tab Byte) : Bool :=
  decide (2 < hdrRole t) || decide (127 < hdrArea t) || decide (127 < hdrWorker t) ||
  (decide (hdrRole t = 0) && decide (hdrArea t ≠ 0)) || (decide (hdrRole t < 2) && decide (hdrWorker t ≠ 0))

/-- The PORT record at a position breaks R127 or R128. (log 36 DEDUCED) -/
def portRecBad (t : Tab Byte) (base p : Nat) : Bool :=
  let r := base + 16 * p
  let role := byteAt t (r + 1)
  let pair := byteAt t (r + 2)
  let ring := decide (role = 1) || decide (role = 2)
  let q := base + 16 * pair
  decide (byteAt t r ≠ p) || decide (3 < role) || decide (2 < byteAt t (r + 3)) || decide (4094 < leAt t (r + 4) 2) ||
  decide (7 < byteAt t (r + 6)) || decide (128 < leAt t (r + 10) 2) ||
  (if p < 2 then decide (byteAt t (r + 3) ≠ 0) else decide (byteAt t (r + 3) = 0)) ||
  (if ring then decide (3 < pair) || decide (pair = p) || decide (byteAt t q ≠ pair) || decide (byteAt t (q + 1) ≠ role) || decide (byteAt t (q + 2) ≠ p)
   else decide (pair ≠ 0xFF)) ||
  (decide (role = 1) && decide (hdrRole t = 0)) || (decide (role = 2) && decide (hdrRole t = 2))

/-- NET_PORT_ROLE and NET_SW_VLAN of a port. A record whose PORT is above 3 loads nothing. -/
def loadPort (t : Tab Byte) (base p : Nat) (s : State) : State :=
  let r := base + 16 * p
  let b := portRecBad t base p
  if 3 < byteAt t r then s
  else
    let pair := byteAt t (r + 2)
    let w0 := byteAt t (r + 1) % 4 + (if pair < 4 then pair * 4 + 16 else 0) + byteAt t (r + 3) % 4 * 2 ^ 5 +
      byteAt t (r + 7) % 2 * 2 ^ 7 + byteAt t (r + 7) / 2 % 2 * 2 ^ 8
    loadReg b (portReg p 0) (w32 w0) (loadReg b (portReg p 4) (w32 (leAt t (r + 8) 2 + leAt t (r + 10) 2 % 2 ^ 8 * 2 ^ 16))
      (loadReg b (0x204000 + 4 * p) (w32 (leAt t (r + 4) 2 % 2 ^ 12 + byteAt t (r + 6) % 8 * 2 ^ 12)) s))

/-- The ports, and NET_SW_ORIGIN. (log 39 DEDUCED) -/
def loadNet (s : State) : State :=
  let t := activeImg s
  let s := match panel t 3 with
    | some e => each ports (loadPort t e.off) s
    | none => s
  loadReg (hdrBad t) 0x204010 ((mkOrigin (hdrRole t) (hdrArea t) (hdrWorker t)).setWidth 32) s

/-! ### SLOT (R136, R137) -/

/-- The offsets of the descriptors, less those whose RADIO or HANDLE names none, which load as though absent (R143); and the cell
entries before descriptor i. (log 173 DESIGN CHOICE) -/
def sfDescs (t : Tab Byte) : List Nat :=
  match panel t 9 with
  | some e => ((List.range e.count).map (fun i => e.off + 16 * i)).filter (fun x => decide (byteAt t x < 4) && decide (byteAt t (x + 1) < 8))
  | none => []
def cellsBefore (t : Tab Byte) (ds : List Nat) (i : Nat) : Nat := (ds.take i).foldl (fun a d => a + leAt t (d + 6) 2) 0

/-- The descriptor breaks a rule of R136 or R137. (log 36 DEDUCED) -/
def sfBad (t : Tab Byte) (d : Nat) : Bool :=
  let ds := sfDescs t
  let sub := fun x => decide (2 ≤ byteAt t x)
  decide (leAt t (d + 2) 2 = 0) || decide (8192 < cellsBefore t ds ds.length) ||
  (sub d && (decide (2 < byteAt t (d + 12)) || decide (1 < byteAt t (d + 13)))) ||
  ds.any (fun x => decide (x ≠ d) && decide (byteAt t x = byteAt t d) && decide (byteAt t (x + 1) = byteAt t (d + 1))) ||
  ds.any (fun x => sub d && sub x && decide (byteAt t (x + 13) = byteAt t (d + 13)) &&
    decide (byteAt t (x + 12) ≠ byteAt t (d + 12)))

/-- A descriptor's registers and cells, of a bad one with any value (R143). The SLOT panel's order (R452) is taken as that of the
descriptors, each with its CELLS entries from its CELL_OFF on. (log 173 DESIGN CHOICE) -/
def loadSlotframe (t : Tab Byte) (base i : Nat) (s : State) : State :=
  let ds := sfDescs t
  let d := ds.getD i 0
  let r := byteAt t d
  let h := byteAt t (d + 1)
  let b := sfBad t d
  let rate := byteAt t (d + 12)
  let n := planChannels r rate (byteAt t (d + 13))
  let first := cellsBefore t ds i
  let cells := leAt t (d + 6) 2
  let s := loadReg b (sfReg r h 0) (w32 (leAt t (d + 2) 2 + leAt t (d + 4) 2 * 2 ^ 16)) s
  let s := loadReg b (sfReg r h 1) (w32 (first % 2 ^ 14 + cells % 2 ^ 14 * 2 ^ 16)) s
  let s := loadReg b (sfReg r h 2) (w32 (rate % 4 + byteAt t (d + 13) % 2 * 4 +
    maxPsdu r rate (leAt t (d + 4) 2) % 2 ^ 11 * 2 ^ 16 + 2 ^ 31)) s
  let s := loadReg b (sfReg r h 3) (w32 (leAt t (d + 14) 2 + n % 2 ^ 8 * 2 ^ 16)) s
  let s := setF ⟨airReg r 8, 8 + h, 1⟩ 1 s
  each (List.range cells) (fun j s =>
    let o := base + leAt t (d + 8) 4 + 8 * j
    let c := leAt t o 4 + (leAt t (o + 4) 2 + r * 2 ^ 16 + h * 2 ^ 18 + 2 ^ 31) * 2 ^ 32
    let v := if b then freeOf s ++ freeOf (drawn s) else BitVec.ofNat 64 c
    let s := when b (fun s => drawn (drawn s)) s
    { s with air := { s.air with cells := tabSet (fun _ => 0) s.air.cells (first + j) v } }) s

/-- The cell table is empty, with nothing unpredictable in its window. -/
def dropCells (s : State) : State :=
  clearRegs (fun k => decide (0x1000000 ≤ k)) { s with air := { s.air with cells := [] } }

/-- The slotframes, the cell table, and the PAN (R440). -/
def loadAir (s : State) : State :=
  let t := activeImg s
  let s := clearRegs (fun off => decide (0x300000 ≤ off) && decide (off < 0x304000) && decide (0x100 ≤ off % 0x1000) &&
    decide (off % 0x1000 < 0x180)) s
  let s := each radios (fun r s => setF ⟨airReg r 8, 8, 8⟩ 0 s) (dropCells s)
  let s := match panel t 9 with
    | some e => each (List.range (sfDescs t).length) (loadSlotframe t e.off) s
    | none => s
  setR 0x30400C (getR s 0x204010) s

/-! ### RECORD and TELEM (R129, R130, R138) -/

/-- R3, R130: there are more records of a KIND than a worker may hold. -/
def kindFull (t : Tab Byte) (kind : Nat) : Bool :=
  let n := ((records t 4).filter (fun r => decide (leAt t r 2 < 2048) && decide (byteAt t (r + 2) = kind))).length
  match kind with
  | 0 => decide (64 < n)
  | 1 => decide (512 < n)
  | 2 => decide (1024 < n)
  | _ => false

/-- R129, R130: the SOURCE of a record names nothing of its KIND. -/
def sourceBad (t : Tab Byte) (kind src : Nat) : Bool :=
  match kind with
  | 0 => decide (63 < src) || (match recordFor t 1 0 1 src with | some q => !(byteAt t (q + 1)).testBit 0 | none => true)
  | 1 => decide (3 < src / 256) ||
    (match recordFor t 8 0 1 (src / 256) with | some q => decide (min 128 (byteAt t (q + 2)) ≤ src % 256) | none => true)
  | 2 => decide (1023 < src)
  | 3 => decide (39 < src) && (decide (src < 0x100) || decide (0x100 + 1023 < src))
  | 4 => decide (127 < src) || (recordFor t 7 0 2 src).isNone
  | _ => true

/-- The record breaks a rule of R3, R129 or R130. (log 36 DEDUCED) -/
def recRecBad (t : Tab Byte) (r : Nat) : Bool :=
  sourceBad t (byteAt t (r + 2)) (leAt t (r + 4) 2) || kindFull t (byteAt t (r + 2)) || recordTwice t 4 0 2 (leAt t r 2) || !(records t 10).any (fun q => decide (byteAt t q = byteAt t (r + 3)))

/-- A map entry; an INDEX above 2,047 loads nothing. -/
def loadRecord (t : Tab Byte) (r : Nat) (s : State) : State :=
  let i := leAt t r 2
  if 2047 < i then s
  else
    let b := recRecBad t r
    loadReg b (recReg i 0) (w32 (byteAt t (r + 2) % 8 + 2 ^ 7 + byteAt t (r + 3) * 2 ^ 8 + leAt t (r + 4) 2 * 2 ^ 16))
      (loadReg b (recReg i 1) (w32 (leAt t (r + 6) 2)) s)

/-- CHILDREN of the down ring's ports, and whether their records are bad; a record whose PORT names none is absent. -/
def downChildren (t : Tab Byte) : Nat × Bool :=
  match panel t 3 with
  | some e =>
    let ps := ports.filter (fun p => decide (byteAt t (e.off + 16 * p) < 4) && decide (byteAt t (e.off + 16 * p + 1) = 2))
    (ps.foldl (fun m p => max m (leAt t (e.off + 16 * p + 10) 2)) 0, ps.any (portRecBad t e.off))
  | none => (0, false)

/-- R489: the declared children; of a bad PORT record, any number (R143). -/
def loadChildren (t : Tab Byte) (s : State) : State :=
  let c := downChildren t
  if c.2 then spoilLong 0x400014 0xFF (drawn (setF ⟨0x400014, 0, 8⟩ (freeBelow 128 s) s))
  else unspoilLong 0x400014 (setF ⟨0x400014, 0, 8⟩ c.1 s)

/-- HIER_ROLE, the record map, the declared children; the settings start at the defaults of the role (R489). -/
def loadHier (s : State) : State :=
  let t := activeImg s
  let s := loadReg (hdrBad t) 0x400000 (w32 (hdrRole t % 4 + hdrArea t % 128 * 2 ^ 8 + hdrWorker t % 128 * 2 ^ 16)) s
  let s := each (records t 4) (loadRecord t) (clearRegs (fun off => decide (0x401000 ≤ off) && decide (off < 0x405000)) s)
  let s := loadChildren t s
  childRegs (each [0x400008, 0x40000C, 0x400010] (fun off s => setR off (regDefault s off) s) s)

/-- The distinct profiles of TELEM. -/
def profileCount (t : Tab Byte) : Nat := (noRepeat ((records t 10).map (byteAt t))).length

/-- A profile table entry. R499 says what an undefined CLASS or PERIOD does, so they are loaded as they stand.
(log 36 DEDUCED) -/
def loadTelem (t : Tab Byte) (e r : Nat) (s : State) : State :=
  let c := byteAt t (r + 2)
  setR (telReg e 0) (w32 (byteAt t r + byteAt t (r + 1) * 2 ^ 8 + c % 4 * 2 ^ 16 + c / 128 * 2 ^ 18 +
    min 31 (byteAt t (r + 3)) * 2 ^ 19 + 2 ^ 31)) (setR (telReg e 1) (wordAt t (r + 4)) s)

/-- PLN_CLASS_CFG and the profile table. -/
def loadPln (s : State) : State :=
  let t := activeImg s
  let rs := records t 10
  let s := clearRegs (fun off => decide (0x411000 ≤ off) && decide (off < 0x413000)) s
  let s := setR 0x41000C (w32 (profileCount t + rs.length * 2 ^ 16)) s
  each rs.zipIdx (fun (x : Nat × Nat) s => loadTelem t x.2 x.1 s) s

/-! ### The safe-level record (R145 step 2, R151, R152) -/

/-- LEVEL and LIMIT of a channel from the image; of a bad record, any within what the image declares (R20, R143). -/
def safePair (s : State) (t : Tab Byte) (n : Nat) : BitVec 16 × BitVec 16 :=
  match chanRecFor t n, panel t 2 with
  | some r, some e =>
    if chanRecBad t r then
      let any := fun i => BitVec.ofNat 16 ((Config.freeWord (s.free + 2 * n + i)).toNat % (declaredMax t n + 1))
      (any 0, any 1)
    else if (byteAt t (r + 1)).testBit 0 then
      let c := leAt t (e.off + 2 * n) 2
      let lo := leAt t (r + 16) 2
      let hi := leAt t (r + 18) 2
      (BitVec.ofNat 16 (if c = 0 then 0 else min (max c lo) hi), BitVec.ofNat 16 hi)
    else (0, 0)
  | _, _ => (0, 0)

/-- The record is written over the copy with the lower WSEQ where it differs from the one in FRAM. (log 37 DEDUCED) -/
def writeSafe (digest : List Byte) (s : State) : State :=
  let t := activeImg s
  let ps : List (BitVec 16 × BitVec 16) := channels.map (safePair s t)
  let s := when ((records t 1).any (chanRecBad t)) (fun s => { s with free := s.free + 128 }) s
  let same := match safeRecord s with
    | some r => decide (r.digest = digest) && decide (r.level = ps.map Prod.fst) && decide (r.limit = ps.map Prod.snd)
    | none => false
  if same then s
  else
    let a := s.img.safe0
    let b := s.img.safe1
    let overB := if a.good && b.good then decide (b.wseq.toNat < a.wseq.toNat) else a.good
    let c : SafeCopy := ⟨true, (if overB then a.wseq else if b.good then b.wseq else 0) + 1, digest, ps.map Prod.fst, ps.map Prod.snd⟩
    if overB then { s with img := { s.img with safe1 := c } } else { s with img := { s.img with safe0 := c } }

/-! ### Sealing (R117, R144 to R147, R605) -/

/-- The blocks with RWL fields (R147). -/
def rwlBlocks : List Block := [.sys, .drv, .chn, .mtr, .rfx, .net, .air, .hier, .pln]

/-- The ACTIVE image stands sealed: IMG_STAT shows it, or CTRL went OFF under a sealed image, whose blocks outside CTRL stay
sealed (R145, R605). -/
def imageStands (s : State) : Bool := imgSealed s || (!ctrlOn s && isSealed s .sys)

/-- R146: the blocks of a domain that rises are loaded and sealed; RFX is loaded by `fabRise`. -/
def loadDomain (d : Dom) (s : State) : State :=
  if imageStands s then
    match d with
    | .drive => sealBlock .chn (sealBlock .drv (loadChn (loadDrv s)))
    | .mtr => sealBlock .mtr (loadMtr s)
    | .net => sealBlock .net (loadNet s)
    | .air => sealBlock .air (loadAir s)
    | .fab => sealBlock .rfx s
    | .ctrl => s
  else s

/-- The digest of a slot's image (R141). -/
def imgDigest (s : State) (b : Bool) : List Byte := sha256 (bytesAt (imgSlot s b) 0 (imgLen s b))

/-- R145: the ACTIVE image is sealed. `full`: after a power-on, brown-out or module reset every block is loaded; after any
other start HIER and PLN alone. The configuration of NET and MTR is stored though their domains are OFF, where no host
sees it (R33): the twins work with it (R338, R454). (log 37 DEDUCED, 39 DEDUCED) -/
def sealImage (full : Bool) (b : Bool) (s : State) : State :=
  let s := loadPln (loadHier (when full (fun s => loadMtr (loadNet s)) s))
  let s := when full (fun s => when (airOn s) loadAir (loadWake s)) s
  let s := when (driveOn s && (full || !s.drv.loaded)) (fun s => loadChn (loadDrv s)) s
  let s := startPulses (each points (sealTag (activeImg s)) s)
  let s := { s with sealed := rwlBlocks.filter (blockUp s) }
  let s := writeSafe ((imgDigest s b).take 8) s
  let m := wordAt (activeImg s) 40
  let f := if s.img.floor.toNat < m.toNat then m else s.img.floor
  setB ⟨0x1C, 6, 1⟩ true (setB ⟨0x10004, 0, 1⟩ true (setR 0x10018 f { s with img := { s.img with floor := f } }))

/-- R116, R141, R606: the ACTIVE image is verified, and sealed where it passes. `keep`: a PENDING image was rejected, so a
success is not reported. Answers whether the image is sealed. (log 35 DEDUCED, 38 DEDUCED) -/
def verifyActive (full keep : Bool) (s : State) : Bool × State :=
  let s := setR 0x10018 s.img.floor (setB ⟨0x10004, 7, 1⟩ s.img.active.isNone s)
  match s.img.active with
  | none => (false, s)
  | some b =>
    let t := imgSlot s b
    let e := imgVerify s t (imgLen s b)
    let s := setR 0x10014 (wordAt t 36) s
    let s := each ((wordsOf 8 (imgDigest s b)).zipIdx) (fun (x : Word × Nat) s => setR (0x10020 + 4 * x.2) x.1 s) s
    let s := raise 14 (if e.1 = 0 ∧ keep = true then s else imgReport e s)
    if e.1 = 0 then
      let n := leAt t 8 4 - 216
      (true, sealImage full b (setB ⟨0x10004, 5, 1⟩ (certTest s 0 imageLabel (bytesAt t (n + 8) 80) (bytesAt t (n + 88) 64)) s))
    else (false, s)

/-- R116, R117: at a full start a PENDING image is judged first. -/
def stageLoad (full : Bool) (s : State) : Bool × State :=
  if full && decide (s.img.stg.st = .pending) then
    let b := stagedIdx s
    let e := imgVerify s (imgSlot s b) (imgLen s b)
    if e.1 = 0 then
      verifyActive full false { s with img := { s.img with active := some b, stg := { s.img.stg with st := .empty } } }
    else
      verifyActive full true (raise 14 (setB ⟨0x10004, 6, 1⟩ true (imgReport e
        { s with img := { s.img with stg := { s.img.stg with st := .rejected } } })))
  else verifyActive full false s

end Sys2Proof.Machine
end

