-- ==== Sys2Proof/Machine/Boot.lean ====
section
/-! DEFINITION. What each domain's rise and fall does (R79, R87, R146), what each kind of reset does to every block (R109,
R110), and the stages of start-up (R102 to R105, R605). -/

namespace Sys2Proof.Machine

/-! ### Domains -/

/-- Sets the state of a domain. -/
def setDom (d : Dom) (n : Nat) (s : State) : State := setF d.fld n s

/-- R229: at the step in which DRIVE enters LIVE, the mitre passes every twin reference held. (log 63 DEDUCED) -/
def passHeld (n : Nat) (s : State) : State :=
  match tabGet (fun _ => none) s.drv.held n with
  | some r => mitreChoice n (some r) none s
  | none => s

/-- R266: firmware issues a word for every position of a port; a position that no record names gets 0. (log 63 DEDUCED) -/
def issueWords (k : Nat) (s : State) : State :=
  if chnEnable s k && (chain s k).owed then
    let s := setChain k { chain s k with owed := false } s
    each (List.range (chnDrivers s k)) (fun d s =>
      let named := (assigned s).any (fun r => decide (recKind s r = 1) && decide (recSource s r = 256 * k + d))
      emit (.issue (.word k d (if named then chainWord (chain s k) d else 0))) s) s
  else s

/-- R229, R260, R468: at entry to LIVE the twins issue the words they hold. -/
def issueHeld (k : Nat) (s : State) : State :=
  let ws := (chain s k).held
  each ws (fun e s => match e.2 with | some w => emit (.issue (.word k e.1 w)) s | none => s)
    (setChain k { chain s k with held := [] } s)

/-- DRIVE enters LIVE. (log 63 DEDUCED) -/
def enterLive (s : State) : State := each (List.range 4) issueHeld (each (List.range 4) issueWords (each channels passHeld s))

/-- DRIVE takes a state (R79, R146, R231, R268). -/
def driveTo (n : Nat) (s : State) : State :=
  let was := domState s .drive
  let s := setDom .drive n s
  if was = n then s
  else if n = 0 then
    each (List.range 4) chnFall (driveFall { s with twn := { s.twn with copies := [] } })
  else
    let s := if was = 0 then driveRise (loadDomain .drive s) else s
    if n = 2 then enterLive s else { s with twn := { s.twn with copies := [] } }

/-- R33, R376, R406: the switch cluster and the time-stamp unit are as new. Frames are lost; entries handed to the comparators go
back. (log 104 DEDUCED) -/
def netClear (s : State) : State :=
  let s := { s with net := {}, tsu := {} }
  let s := each ports (fun p s =>
    setB (linkFld p) false (setB (pausedFld p) false (setB (holdoffFld p) false
      (each (List.range 8) (fun q s => setF (qDepthFld p q) 0 s) s)))) s
  setB tsuBusy false (setB anchorFld false (setF cellsFree 8192 (setF ⟨0x20401C, 0, 12⟩ 0 s)))

/-- NET falls; firmware clears CAL_DISC.DISC (R317). (log 11 DEDUCED, 104 DEDUCED, 169 DESIGN CHOICE) -/
def netFall (s : State) : State := netClear (when (netOn s && !calHost s) (setDisc false) s)

/-- R399: NET rises: the raw time starts at 0, the increment is the nominal one, and the anchor is cleared.
(log 104 DEDUCED) -/
def netRise (s : State) : State :=
  let s := clearRegs (fun off => decide (0x210020 ≤ off) && decide (off < 0x210030)) s
  loadDomain .net (setR 0x210000 0 (setR 0x210008 (regReset 0x210008) (setR 0x210018 0 (netClear s))))

/-- AIR falls: the radio dies lose what they hold. (log 11 DEDUCED) -/
def airFall (s : State) : State :=
  dropCells { s with air := { s.air with r0 := {}, r1 := {}, r2 := {}, r3 := {}, leases := [] } }

/-- MTR rises. -/
def mtrRise (s : State) : State := startPulses (loadDomain .mtr { s with mtr := { s.mtr with island := [], freq := 0, feeders := [], s0 := [] } })

/-- R54, R97: a final save that is writing goes on whatever happens to CTRL. -/
def finalSave (s : State) : Option Saving := s.mtr.saving.filter (fun x => decide (x.kind = .final))

/-- R109, R605: CTRL loses power or its blocks are reset: the twins with their memories, INTC, IMG, UPD, HIER, PLN, TWN and TST,
the endpoint and the bus master. FRAM keeps the epoch, the histories, the stores and the banks.
(log 23 DEDUCED, 95 DEDUCED) -/
def clearCtrl (s : State) : State :=
  let s := each ports dropOpen s
  let s := clearRegs (fun off => [Block.img, .intc, .upd, .dma, .hier, .pln, .twn, .tst].any (fun b => inBlock b off)) s
  let s := { s with
    intc := {}, dma0 := {}, dma1 := {}, dma2 := {}, dma3 := {}, pln := {}
    port := { s.port with cfg := {}, msiPend := 0, mergeFrx := [], mergeTlm := [] }
    twn := { histA := s.twn.histA, histB := s.twn.histB }
    hier := { epoch := s.hier.epoch }
    tstHalf := false, tstSeen := [], tstDone := [] }
  let empty := fun (x : Staging) => { x with st := if x.st = .opened then StgState.empty else x.st, owner := .host, zeroing := false, held := [] }
  let s := { s with
    img := { s.img with stg := empty s.img.stg, verifying := false }
    upd := { s.upd with stg := empty s.upd.stg, setAsk := none, saving := none, wrote := [], sess := none, last := none }
    key := { s.key with engines := [], chal := none }
    net := { s.net with merge := {} }
    drv := { s.drv with held := [] }
    mtr := { s.mtr with saving := finalSave s, waiting := none, hostDue := false, held := [], retry := [], zero := [], s0 := [] } }
  let s := each radios (fun r s => setRadio r { radioOf s r with copies := [] } s) s
  let s := each (List.range 4) (fun k s => setChain k { chain s k with owed := true, held := [] } s) s
  setB savingFld (finalSave s).isSome (setB pwrSave (finalSave s).isSome s)

/-- R96: CTRL reaches RUN from STANDBY or OFF. (log 24 DEDUCED) -/
def enterRun (s : State) : State := airDrain { s with sys := { s.sys with snapOwed := true } }

/-- R80, R157: CTRL goes to OFF: the link goes down. A start that has passed stage SAFE ends.
(log 11 DEDUCED, 22 DEDUCED, 23 DEDUCED) -/
def ctrlFall (s : State) : State :=
  let s := clearCtrl s
  { s with
    port := { s.port with link := false }
    sealed := s.sealed.filter (fun b => decide (b ≠ .hier) && decide (b ≠ .pln))
    sys := { s.sys with start := if 2 < getF s stageFld then none else s.sys.start } }

/-! ### Stages of start-up (R102) -/

/-- Stage SAFE (R103): the safe levels of the record. After a module reset DRIVE is in HOLD already (R109). -/
def stageSafe (s : State) : State :=
  let s := setF stageFld (stageNum .safe) s
  match safeRecord s with
  | some _ => when (!driveOn s) (driveTo 1) (setB ⟨0x1C, 4, 1⟩ true s)
  | none => setB ⟨0x1C, 4, 1⟩ false s

/-- Stage ROM (R361, R368, R577): the firmware is chosen and the totals are restored. -/
def stageRom (k : StartKind) (s : State) : State := startPulses (mtrRestore (romStage k.full (breakSeals s)))

/-- START_STATE of the ACTIVE image (R120). (log 25 DEDUCED) -/
def startState (s : State) : Word := w32 (leAt (activeImg s) 48 2 % 2 ^ 12)

/-- Stage IMG (R104, R116, R145, R605): a start state of LIVE is left for READY. (log 25 DEDUCED) -/
def stageImg (k : StartKind) (s : State) : State :=
  let r := stageLoad k.full (setF stageFld (stageNum .img) s)
  let w := startState r.2
  if r.1 && decide (k ≠ .raise) then
    pwrIssue (if getBits w 6 2 = 3 then putBits w 6 2 0 else w) 0 false 0 0 r.2
  else r.2

/-- The blocks whose registers a controller reset clears (R109, R586). -/
def ctrlBlock (off : Nat) : Bool :=
  match blockOf off with
  | some b => decide (b.dom = some .ctrl)
  | none => false

/-- Stage FW (R401, R586): firmware takes the time-stamp unit and writes the settings. -/
def stageFw (k : StartKind) (s : State) : State :=
  childRegs (loadSettings (if k.full then fun _ => true else ctrlBlock) (setB ⟨0x210004, 0, 1⟩ false (setF stageFld (stageNum .fw) s)))

/-- READY (R104, R460 to R462, R506, R578): a firmware on trial passes first, or fails. (log 25 DEDUCED) -/
def stageReady (k : StartKind) (s : State) : State :=
  if s.upd.trial && !trialGood s then trialFail s
  else
    let s := when s.upd.trial trialPass s
    let s := { s with hier := { epoch := s.hier.epoch, owed := true } }
    let live := decide (k ≠ .raise) && imgSealed s && decide (getBits (startState s) 6 2 = 3)
    let s := { s with sys := { s.sys with start := none, liveWait := live } }
    raise 0 (setF stageFld (stageNum .ready) (when (plnEn s) planeStarts (childRegs (hierStat s))))

/-- The stage after the present one. The cores' stages need CTRL in RUN. (log 20 DEDUCED, 30 DEDUCED) -/
def nextStage (k : StartKind) (s : State) : State :=
  match getF s stageFld with
  | 0 => setF stageFld (stageNum .ref) s
  | 1 => stageSafe s
  | 2 => if s.sys.haltDue then haltCores s else if ctrlRun s then stageRom k s else s
  | 3 => if ctrlRun s then stageImg k s else s
  | 4 => if ctrlRun s then stageFw k s else s
  | 5 => if ctrlRun s then stageReady k s else s
  | _ => s

/-- Stages follow one another up to `upto`, or until the start ends otherwise. A failed trial goes back to ROM, so the stages
are counted out. (log 21 DEDUCED, 30 DEDUCED) -/
def runStages (upto : Nat) : Nat → State → State
  | 0, s => s
  | n + 1, s =>
    match s.sys.start with
    | some k => if getF s stageFld < upto then runStages upto n (nextStage k s) else s
    | none => s

/-- R605: a command has raised CTRL from OFF: stages ROM to READY run, and CTRL is in RUN. (log 21 DEDUCED, 23 DEDUCED) -/
def ctrlRaise (s : State) : State :=
  let s := setDom .ctrl 2 { s with port := { s.port with link := !s.port.perst } }
  enterRun (runStages 6 24 (stageRom .raise (newEpochAtStart s)))

/-! ### A domain change completes (R88) -/

/-- What the change does. (log 11 DEDUCED) -/
def applyChange (c : DomChange) (s : State) : State :=
  match c.dom with
  | .ctrl =>
    if domState s .ctrl = 0 then
      let s := ctrlRaise s
      if atReady s then setDom .ctrl c.dest s else s
    else if c.dest = 0 then setDom .ctrl 0 (ctrlFall s)
    else if c.dest = 2 then enterRun (setDom .ctrl 2 s)
    else setDom .ctrl c.dest s
  | .drive => driveTo c.dest s
  | .mtr => if c.dest = 0 then setDom .mtr 0 s else mtrRise (setDom .mtr 1 s)
  | .net => if c.dest = 0 then setDom .net 0 (netFall s) else netRise (setDom .net 1 s)
  | .air => if c.dest = 0 then airFall (setDom .air 0 s) else loadDomain .air (airRise (setDom .air 1 s))
  | .fab =>
    let was := domState s .fab
    let s := setDom .fab c.dest s
    if c.dest = 0 then fabFall s
    else
      let s := if was = 0 then loadDomain .fab (fabRise s) else s
      setB clkRun (decide (c.dest = 2)) s

/-! ### Resets (R109, R110) -/

/-- SYS_RST_CAUSE records a reset (R108). -/
def recordCause (i : Nat) (glob : Bool) (s : State) : State := when glob (setF ⟨0x18, 5, 1⟩ 1) (setF ⟨0x18, i, 1⟩ 1 s)

/-- The registers of SYS for power, wake and boot but SYS_RST_CAUSE; CAL_VALID goes on showing the calendar's (R308). -/
def clearPower (s : State) : State :=
  setB pwrSave (flag s pwrSave) (setB ⟨0x1C, 5, 1⟩ (flag s ⟨0x30000, 0, 1⟩) (clearRegs (fun off => decide (off < 0x400) && decide (off ≠ 0x18)) s))

/-- The blocks of the other domains lose their registers and contents (R109). (log 62 DEDUCED) -/
def clearRest (s : State) : State :=
  let s := airFall (netFall s)
  let s := clearRegs (fun off => [Block.drv, .chn, .rfx, .mtr, .net, .tsu, .air].any (fun b => inBlock b off)) s
  setB savingFld (finalSave s).isSome { s with
    rfx := { pins := s.rfx.pins }, net := {}, tsu := {}, chain := []
    mtr := { bankA := s.mtr.bankA, bankB := s.mtr.bankB, saving := finalSave s }
    drv := { s.drv with loaded := false, held := [], bus := [] } }

/-- R109, R238: a module reset: DRIVE goes to HOLD on the safe levels, or OFF without a valid record.
(log 22 DEDUCED, 24 DEDUCED, 62 DEDUCED) -/
def moduleEffect (glob : Bool) (s : State) : State :=
  let was := domState s .drive
  let run := ctrlRun s
  let s := endTest (clearPower (clearRest (clearCtrl s)))
  let s := recordCause 2 glob { s with
    sealed := []
    port := { s.port with link := !s.port.perst }
    sys := { k := s.sys.k, storeMv := s.sys.storeMv, vbatMv := s.sys.vbatMv, trip := s.sys.trip,
             held := false, measuring := s.sys.measuring, sens12 := s.sys.sens12, j1High := s.sys.j1High,
             start := some .module, snapOwed := s.sys.snapOwed || !run } }
  let s := newEpochAtStart s
  if was = 0 then s
  else if (safeRecord s).isNone then driveFall s
  else
    let s := setDom .drive 1 s
    each channels (fun n s => when (chOn s n) (safeRamp n) (followEnable n s)) s

/-- R105, R109, R110, R117: a controller reset: DRIVE holds the present references, and stage ROM begins.
(log 22 DEDUCED, 62 DEDUCED) -/
def controllerEffect (glob : Bool) (s : State) : State :=
  let s := clearCtrl s
  let s := recordCause 3 glob { s with
    sealed := []
    port := { s.port with link := !s.port.perst }
    sys := { s.sys with rstWait := none, rstSaved := false, liveWait := false, start := some .controller } }
  let s := newEpochAtStart s
  stageRom .controller (when (driveLive s) (setDom .drive 1) s)

/-- R56, R97, R98, R109: a brown-out reset: every domain but AON is OFF and held in reset. (log 15 DESIGN CHOICE) -/
def brownOutEffect (s : State) : State :=
  let s := endTest (clearRest (clearCtrl (driveFall { s with mtr := { s.mtr with saving := none } })))
  let s := clearPower (clearRegs (fun off => decide (0x400 ≤ off) && decide (off < 0x410)) s)
  setDom .ctrl 0 { s with
    sealed := []
    port := { s.port with link := false }
    drv := { s.drv with lost := [] }
    free := s.free + 1
    sys := { held := true, storeMv := freeBelow 6999 s, vbatMv := s.sys.vbatMv } }

end Sys2Proof.Machine
end

