-- ==== Sys2Proof/Machine/Power.lean ====
section
/-! DEFINITION. The commands of the supply, of the power states and of start-up (R42 to R112). -/

namespace Sys2Proof.Machine

/-! ### The terms of the limiter (R47 to R50). Powers are in nanowatts of a common scale: 20,000 times mW, so that every term is whole. -/

/-- P_ceil in units of 1/20,000 mW: 2,300 W, or 0.96 × 50 A × v_bus. -/
def pCeil (vBus : Nat) : Nat := min (2300000 * 20000) (48 * vBus * 20000)

/-- p_therm (R50), the temperature in 0.01 °C. -/
def pTherm (vBus : Nat) (temp : Int) : Nat :=
  if temp ≤ 8500 then pCeil vBus
  else if temp ≤ 10000 then pCeil vBus / 2000 * (2000 - (temp - 8500).toNat)
  else pCeil vBus / 4

/-- p_lim as a fraction: numerator and denominator, in the units of pCeil; and whether the input term is the least.
(log 152 DESIGN CHOICE) -/
def pLim (pOut pIn vBus : Nat) (temp : Int) : Nat × Nat × Bool :=
  let a := min (pCeil vBus) (pTherm vBus temp)
  if 0 < pOut ∧ 0 < pIn ∧ pOut * (50 * vBus) * 20000 < a * pIn then (pOut * (50 * vBus) * 20000, pIn, true)
  else (a, 1, false)

/-- R47: the new k. -/
def newK (kPrev pOut pIn vBus : Nat) (temp : Int) : Nat :=
  if pOut = 0 then 1024
  else
    let l := pLim pOut pIn vBus temp
    clampNat 1 1024 (l.1 * kPrev / (l.2.1 * pOut * 20000))

/-! ### Supply (R42 to R62) -/

/-- Fields of SYS_SUPPLY_STAT. -/
def supplyFld (i : Nat) : Fld := ⟨0x400, i, 1⟩

/-- R50, R62: SYS_SUPPLY_STAT.THERM. -/
def showTherm (vBus : Nat) (temp : Int) (s : State) : State :=
  setB (supplyFld 8) (decide (pTherm vBus temp < pCeil vBus)) s

/-- R45, R46: J1 falls below 8.5 V. -/
def j1Falls (s : State) : State :=
  each channels waitJ1 (setB (supplyFld 0) false { s with sys := { s.sys with sens12 := false, j1High := false } })

/-- R237: a channel that waited for J1 goes to BIAS. -/
def leaveWait (n : Nat) (s : State) : State := if (slice s n).st = .waitJ1 then toBias n true false s else s

/-- R45, R46, R92, R237: J1 rises above 9.0 V: a return where J1_OK was 0. (log 161 DESIGN CHOICE) -/
def j1Rises (s : State) : State :=
  let t := each channels leaveWait (setB (supplyFld 0) true { s with sys := { s.sys with sens12 := true, j1High := true } })
  if j1Ok s then t else wakeSource .j1 t

/-- J1_LOSS (R46). (log 14 DESIGN CHOICE) -/
def execJ1Loss (s : State) : Host.Outcome State Fault Refusal := .next (if j1Ok s then j1Falls s else s)

/-- J1_RETURN (R46). (log 14 DESIGN CHOICE) -/
def execJ1Return (s : State) : Host.Outcome State Fault Refusal := .next (if j1High s then s else j1Rises s)

/-- POWER_FAIL_TRIP (R54, R58, R60, R357, R359): a capacitance measurement is abandoned and the final save starts. -/
def execPowerFailTrip (chan : List (List (Int × Int))) (s : State) : Host.Outcome State Fault Refusal :=
  .next (if s.sys.held || s.sys.trip then s
    else beginFinal chan { s with sys := { s.sys with trip := true, measuring := false } })

/-- TRIP_RIDE_THROUGH (R57, R359). -/
def execTripRideThrough (s : State) : Host.Outcome State Fault Refusal :=
  .next (if s.sys.trip && !s.sys.held then
      releaseHeld (raise 3 (setB (supplyFld 5) true { s with sys := { s.sys with trip := false } }))
    else s)

/-- BROWN_OUT_RESET (R56, R97, R109). -/
def execBrownOutReset (s : State) : Host.Outcome State Fault Refusal :=
  .next (if s.sys.held then s else brownOutEffect s)

/-- R561, R565: AON powers up with nothing kept: CAL is cleared, the key store is empty and LOST is set. -/
def aonColdStart (s : State) : State :=
  let s := clearLoaded (fun _ => true) (clearBlock .key (clearBlock .cal { s with cal := {}, key := { outside := s.key.outside } }))
  showOpen (setB keyLost true s)

/-- R62: what the supply voltages show. Between 8.5 V and 9.0 V a bit stays as it was.
(log 14 DESIGN CHOICE, 153 DESIGN CHOICE, 161 DESIGN CHOICE) -/
def showVolts (j1Mv j2Mv storeMv vbatMv : Nat) (s : State) : State :=
  let s := { s with sys := { s.sys with storeMv := storeMv, vbatMv := vbatMv } }
  let s := if 9000 ≤ j2Mv then setB (supplyFld 1) true s else if j2Mv < 8500 then setB (supplyFld 1) false s else s
  let s := setB (supplyFld 2) (decide (j2Mv + 300 < j1Mv)) s
  let s := setB (supplyFld 4) (decide (storeMv < 12000)) (setB (supplyFld 9) (decide (vbatMv < 2200)) s)
  let s := setR 0x404 (w32 (min 65535 j1Mv + min 65535 j2Mv * 2 ^ 16)) s
  if 9000 ≤ j1Mv then (if j1High s then s else j1Rises s)
  else if 8500 ≤ j1Mv then { s with sys := { s.sys with j1High := false } }
  else if j1Ok s then j1Falls s
  else s

/-- R53: the target of the hold-up store: the logic input as the supply monitor last measured it, up to 30 V. -/
def storeTarget (s : State) : Nat := min (max (getBits (getR s 0x404) 0 16) (getBits (getR s 0x404) 16 16)) 30000

/-- R53, R61: the store has the voltage v. -/
def storeTo (v : Nat) (s : State) : State :=
  setB (supplyFld 4) (decide (v < 12000)) { s with sys := { s.sys with storeMv := v } }

/-- POWER_ON (R56, R102, R108, R109): a held module starts: as after power-on where the supply was absent or AON itself
powers up, else as after a brown-out. (log 3 DESIGN CHOICE, 14 DESIGN CHOICE, 15 DESIGN CHOICE, 26 DEDUCED) -/
def execPowerOn (j1Mv j2Mv : Nat) (absent aonCold : Bool) (s : State) : Host.Outcome State Fault Refusal :=
  .next (if s.sys.held then
      let cold := absent || aonCold
      let s := if aonCold then aonColdStart s else s
      let s := if cold then setR 0x18 1 s else setF ⟨0x18, 1, 1⟩ 1 s
      let why : StartKind := if cold then .powerOn else .brownOut
      let sys : SysSt := { held := false, storeMv := s.sys.storeMv, vbatMv := s.sys.vbatMv, sens12 := s.sys.sens12,
                           j1High := s.sys.j1High, start := some why, snapOwed := true }
      let s := newEpochAtStart (clearPower { s with sys := sys })
      let s := { s with port := { s.port with link := !s.port.perst } }
      showVolts j1Mv j2Mv (max s.sys.storeMv (min (max j1Mv j2Mv) 30000)) s.sys.vbatMv s
    else s)

/-- HOLDUP_MEASURE (R59). -/
def execHoldupMeasure (s : State) : Host.Outcome State Fault Refusal :=
  .next (if s.sys.held || s.sys.trip then s else { s with sys := { s.sys with measuring := true } })

/-- HOLDUP_MEASURE_DONE (R53, R59, R60): the discharge took at most 1 V, and the store is recharged to its target.
(log 153 DESIGN CHOICE) -/
def execHoldupMeasureDone (uf : Nat) (s : State) : Host.Outcome State Fault Refusal :=
  .next (if s.sys.measuring then
      let v := max (s.sys.storeMv - freeBelow 1000 s) (storeTarget s)
      let s := storeTo v (drawn { s with sys := { s.sys with measuring := false } })
      let s := setB (supplyFld 3) (decide (uf < 1700)) (setF ⟨0x408, 16, 16⟩ (min 65535 uf) s)
      if uf < 1700 then raise 2 s else s
    else s)

/-- SUPPLY_MONITOR_UPDATE (R50, R61, R62, R72). (log 8 DESIGN CHOICE, 14 DESIGN CHOICE) -/
def execSupplyMonitorUpdate (j1Mv j2Mv storeMv vbatMv : Nat) (baseT : Int) (scap : Bool) (s : State) :
    Host.Outcome State Fault Refusal :=
  .next (showVolts j1Mv j2Mv storeMv vbatMv
    (showTherm j1Mv baseT (setB (supplyFld 10) scap (setF ⟨0x408, 0, 16⟩ (unsigned 16 baseT) s))))

/-! ### The limiter (R47 to R50) -/

/-- LIMITER_UPDATE (R47 to R50): it acts in HOLD and LIVE. (log 152 DESIGN CHOICE) -/
def execLimiterUpdate (pOut pIn vBus : Nat) (temp : Int) (s : State) : Host.Outcome State Fault Refusal :=
  .next (if driveOn s then
      let k := newK s.sys.k pOut pIn vBus temp
      let was := s.sys.k
      let input := (pLim pOut pIn vBus temp).2.2
      let s := setB (supplyFld 6) (decide (k < 1024) && !input) (setB (supplyFld 7) (decide (k < 1024) && input)
        (showTherm vBus temp { s with sys := { s.sys with k := k } }))
      let s := each channels noteBlank s
      if was = 1024 ∧ k < 1024 then raise 4 (bump 0x40C s) else s
    else s)

/-! ### Power commands and wake (R82 to R95) -/

/-- R84 to R87: a host command. (log 12 DEDUCED, 16 DEDUCED, 18 DEDUCED) -/
def hostPower (v : Word) (s : State) : State := pwrIssue v (getBits v 16 8) false 0 0 s

/-- POWER_COMMAND (R82 to R87). -/
def execPowerCommand (r : Route) (v : Word) (s : State) : Host.Outcome State Fault Refusal :=
  .next (if routeOpen s r then hostPower v s else s)

/-- DOMAIN_CHANGE_DONE (R87, R88): the change in progress completes, and the next begins. A change of CTRL that stopped in ROM
ends the command. (log 10 DESIGN CHOICE, 21 DEDUCED) -/
def execDomainChangeDone (s : State) : Host.Outcome State Fault Refusal :=
  .next (match s.sys.todo with
    | [] => s
    | c :: rest =>
      let s := applyChange c { s with sys := { s.sys with todo := rest } }
      if flag s pwrBusy then pwrBegin s else s)

/-- POWER_GOOD_TIMEOUT (R89, R112): a domain that rises from OFF gives no power-good; where its rise has completed in the same
tick, the timeout finds no such rise. (log 26 DEDUCED) -/
def execPowerGoodTimeout (d : Dom) (s : State) : Host.Outcome State Fault Refusal :=
  .next (match s.sys.todo with
    | [] => s
    | c :: _ =>
      if c.dom = d ∧ domState s d = 0 ∧ c.dest ≠ 0 then
        let start := if c.dom = .ctrl then none else s.sys.start
        raise 1 (setB pwrFault true (setB pwrBusy false { s with sys := { s.sys with todo := [], start := start } }))
      else s)

/-- WAKE_FIRE (R94, R95). -/
def execWakeFire (src : WakeSrc) (s : State) : Host.Outcome State Fault Refusal :=
  .next (if s.sys.held then s else wakeSource src s)

/-- WAKE_COMMAND_ISSUE (R95). -/
def execWakeCommandIssue (s : State) : Host.Outcome State Fault Refusal := .next (wakeWaiting s)

/-! ### Resets (R106 to R111, R157) -/

/-- CONTROLLER_RESET (R107, R110): the request; it takes effect after its metering save. -/
def execControllerReset (glob : Bool) (s : State) : Host.Outcome State Fault Refusal :=
  .next (if s.sys.held then s else resetRequest .controller glob s)

/-- MODULE_RESET (R107, R109). -/
def execModuleReset (glob : Bool) (s : State) : Host.Outcome State Fault Refusal :=
  .next (if s.sys.held then s else resetRequest .module glob s)

/-- RESET_EFFECT (R109, R111, R358): the accepted reset takes effect once its save has completed; with CTRL OFF there is
nothing to save. (log 27 DEDUCED) -/
def execResetEffect (s : State) : Host.Outcome State Fault Refusal :=
  .next (match s.sys.rstWait with
    | none => s
    | some (k, glob) =>
      if s.sys.rstSaved || !ctrlOn s then (if k = .controller then controllerEffect glob s else moduleEffect glob s) else s)

/-- R109, R157: the endpoint and the bus master are cleared. Blocks that were bound for the host are lost.
(log 31 DEDUCED) -/
def clearPort (s : State) : State :=
  let s := each (s.dma2.staging ++ (match s.dma2.rx with | some x => [x.item] | none => [])) (fwdDone 2) s
  let s := clearBlock .dma { s with dma0 := {}, dma1 := {}, dma2 := {}, dma3 := {} }
  { s with port := { s.port with link := false, cfg := {}, msiPend := 0 } }

/-- PERST_ASSERT (R108, R109, R157). (log 31 DEDUCED) -/
def execPerstAssert (s : State) : Host.Outcome State Fault Refusal :=
  .next (if s.port.perst then s
    else setF ⟨0x18, 4, 1⟩ 1 (clearPort { s with port := { s.port with perst := true } }))

/-- PERST_RELEASE (R157): the link trains while CTRL is powered. (log 31 DEDUCED) -/
def execPerstRelease (s : State) : Host.Outcome State Fault Refusal :=
  .next { s with port := { s.port with perst := false, link := ctrlOn s } }

/-! ### Start-up (R102 to R105) -/

/-- STARTUP (R102): the start in progress goes on to a stage. The stages of a command that raises CTRL complete with that change
(R605). (log 3 DESIGN CHOICE, 30 DEDUCED) -/
def execStartup (upto : Stage) (s : State) : Host.Outcome State Fault Refusal :=
  .next (if s.sys.held || decide (s.sys.start = some .raise) then s
    else
      match upto with
      | .recovery => runStages 3 24 s
      | .haltTamper => runStages 3 24 s
      | _ => runStages (stageNum upto) 24 s)

/-- START_STATE_LIVE (R104, R578). (log 25 DEDUCED) -/
def execStartStateLive (s : State) : Host.Outcome State Fault Refusal :=
  .next (if s.sys.liveWait && atReady s && !flag s pwrBusy then
      pwrIssue 0xC0 0 false 0 0 { s with sys := { s.sys with liveWait := false } }
    else s)

end Sys2Proof.Machine
end

