-- ==== Sys2Proof/Machine/Tst.lean ====
section
/-! DEFINITION. The perturbation block's lock and lease (R591 to R593, R602). -/

namespace Sys2Proof.Machine

/-- TST_STAT.UNLOCKED and LEASE_REM. -/
def tstOpen : Fld := ⟨0xF00004, 0, 1⟩
def tstRem : Fld := ⟨0xF00004, 16, 12⟩

/-- R602: the lease in seconds: 0 acts as 1, and values above 3,600 as 3,600. -/
def tstLease (s : State) : Nat := clampNat 1 3600 (getF s ⟨0xF00008, 0, 12⟩)

/-- R593: the block locks and every slot's EN is cleared. (log 148 DEDUCED) -/
def lockTst (s : State) : State :=
  let s := each (List.range 16) (fun i s => setF ⟨tstCfg i, 0, 1⟩ 0 s) s
  setB tstOpen false (setF tstRem 0 { s with tstHalf := false })

/-- TST_UNLOCK (R592, R593). -/
def execTstUnlock (v : Word) (s : State) : Host.Outcome State Fault Refusal :=
  .next (if !ctrlRun s then s
    else if s.tstHalf then
      if v = 0xABACABCE then setB tstOpen true (setF tstRem (tstLease s) { s with tstHalf := false })
      else { s with tstHalf := false }
    else { s with tstHalf := decide (v = 0x54535431) })

/-- TST_UNLOCK_TIMEOUT (R592). -/
def execTstUnlockTimeout (s : State) : Host.Outcome State Fault Refusal := .next { s with tstHalf := false }

/-- TST_LOCK (R593); ignored while the block is locked. -/
def execTstLock (s : State) : Host.Outcome State Fault Refusal :=
  .next (if ctrlOn s && tstUnlocked s then lockTst s else s)

/-- A write of TST_CTL while the block is unlocked (R593, R602). -/
def tstCtlWrite (v : Word) (s : State) : State :=
  let s := writeReg 0xF00008 v 0 s
  let s := setF tstRem (tstLease s) s
  if bitOf v 31 then lockTst s else s

/-- TST_LEASE_WRITE (R593). -/
def execTstLeaseWrite (v : Word) (s : State) : Host.Outcome State Fault Refusal :=
  .next (if ctrlOn s && tstUnlocked s then tstCtlWrite v s else s)

/-- TST_LEASE_EXPIRE (R593). -/
def execTstLeaseExpire (s : State) : Host.Outcome State Fault Refusal :=
  .next (if ctrlOn s && tstUnlocked s then lockTst s else s)

end Sys2Proof.Machine
end

