-- ==== Sys2Proof/Machine/Twn.lean ====
section
/-! DEFINITION. The splitter, the mitre's pairing and the twin health block (R521 to R545). -/

namespace Sys2Proof.Machine

/-! ### The mitre (R293, R526) -/

/-- What the mitre passes in one cycle reaches its channel or chain position, with the fabric's action of the same cycle.
(log 79 DESIGN CHOICE) -/
def mitrePass (x : MitreItem) (edges : List (Nat × Bool)) (s : State) : State :=
  match x with
  | .ref ch r => presence edges [(ch, r)] s
  | .word k d w => passWord k d w (presence edges [] s)

/-- The first copies that wait for an item of one issuing step. -/
def copiesOf (s : State) (w : MitreWait) : List (Copy MitreItem) :=
  s.twn.copies.filter (fun c => decide (c.item.key = w.key) && decide (c.step = w.step))

/-- Replaces them. -/
def setCopies (w : MitreWait) (q : List (Copy MitreItem)) (s : State) : State :=
  { s with twn := { s.twn with
    copies := s.twn.copies.filter (fun c => !(decide (c.item.key = w.key) && decide (c.step = w.step))) ++ q } }

/-- R526: a disagreement at the mitre is counted and raised. -/
def mitreDisagrees (s : State) : State :=
  raise 160 (bump 0x500040 { s with twn := { s.twn with mitreDis := s.twn.mitreDis + 1 } })

/-- R526: one twin's copy arrives while DRIVE is LIVE; copies meet by channel or position and by issuing step. -/
def mitreCopy (t : Twin) (x : MitreCopy) (edges : List (Nat × Bool)) (s : State) : State :=
  let f := copyFlipped t 0 s
  let s := f.2
  let w : MitreWait := ⟨x.item.key, x.step⟩
  let p := pairCopy inOrder s (copiesOf s w) { twin := t, item := x.item, step := x.step, flip := f.1 }
  let s := setCopies w p.q s
  let s := match p.pass with
    | [] => presence edges [] s
    | y :: ys => each ys (fun z => mitrePass z []) (mitrePass y edges s)
  if p.diff then routeDiff (if bothInStep s then mitreDisagrees s else s) else s

/-- MITRE_TWIN_REFERENCE (R79, R293, R526): in HOLD the mitre neither compares nor counts, and ignores the copy.
(log 79 DESIGN CHOICE, 138 DESIGN CHOICE) -/
def execMitreTwinReference (t : Twin) (item : MitreCopy) (edges : List (Fin 32 × Bool)) (s : State) :
    Host.Outcome State Fault Refusal :=
  let es := edges.map (fun e => (e.1.val, e.2))
  let s := edgeReports es s
  .next (if driveLive s && !twinDead s t then
      let r := holdCopy t (.mitre t item) s
      if r.1 then presence es [] r.2 else mitreCopy t item es r.2
    else presence es [] s)

/-- MITRE_SOLO_DEADLINE (R526, R536). -/
def execMitreSoloDeadline (key : MitreWait) (s : State) : Host.Outcome State Fault Refusal :=
  .next (match copiesOf s key with
    | [] => s
    | c :: q =>
      let s := setCopies key q s
      if driveLive s then passSolo c (fun x => mitrePass x []) (bump 0x500044) s else s)

/-! ### Switch-over (R528, R533) -/

/-- R528, R533: once copies are taken from one twin alone, those of it that wait at a route pass, and the rest are gone.
(log 135 DEDUCED) -/
def settleRoutes (s : State) : State :=
  if bothInStep s || (shadowTwin s).isSome then s
  else
    let s := each (loneCopies s s.twn.copies) (fun x s => if driveLive s then mitrePass x [] s else s)
      { s with twn := { s.twn with copies := [] } }
    let s := each [false, true] (fun tlm s =>
      each (loneCopies s (hostCopies s tlm)) (queueRx (mergeRing tlm)) (setHostCopies tlm [] s)) s
    let s := each radios (fun r s =>
      each (loneCopies s (radioOf s r).copies) (queueRadio r) (setRadio r { radioOf s r with copies := [] } s)) s
    mergeSwitch s

/-- R530 to R533, R578: a declaration with its effects on the routes; both twins failed in a trial is a failed trial.
(log 135 DEDUCED) -/
def declare (t : Twin) (cause : Nat) (s : State) : State :=
  if twinDead s t then s
  else
    let s := settleRoutes (declareFailed t cause s)
    if twinDead s .a && twinDead s .b && s.upd.trial && !atReady s && s.sys.start.isSome then trialFail s else s

/-! ### Digests (R525, R528, R536) -/

/-- R536: an equal digest in SHADOW; 8,000 of them end the rejoin. -/
def shadowEqual (t : Twin) (s : State) : State :=
  if 8000 ≤ s.twn.equal + 1 then rewriteReport (setTwin t .inStep { s with twn := { s.twn with equal := 0, digests := [] } })
  else { s with twn := { s.twn with equal := s.twn.equal + 1 } }

/-- A digest reaches the health block (R525, R528, R536, R537). -/
def takeDigest (t : Twin) (step digest : BitVec 64) (s : State) : State :=
  if !ctrlRun s || twinDead s t then s
  else if !(bothInStep s || (shadowTwin s).isSome) then { s with twn := { s.twn with digests := [] } }
  else
    match s.twn.digests.find? (fun d => decide (d.1 = t.other) && decide (d.2.1 = step)) with
    | none => { s with twn := { s.twn with digests := s.twn.digests ++ [(t, step, digest)] } }
    | some d =>
      let s := { s with twn := { s.twn with digests := s.twn.digests.filter (fun x => decide (x ≠ d)) } }
      match shadowTwin s with
      | some j => if d.2.2 = digest then shadowEqual j s else declare j 9 s
      | none => if d.2.2 = digest then s else settleRoutes (stepMismatch s)

/-- R524: the digest of a step: over its outputs in order of issue, then the state word. (log 138 DESIGN CHOICE) -/
def digestOf (x : StepOut) : BitVec 64 := crc64 (x.outputs ++ leBytes 8 x.word.toNat)

/-- STEP_DIGEST (R524, R525); TWIN_STEP_STALL lets it be late by whole steps (R594 kind 13). (log 138 DESIGN CHOICE) -/
def execStepDigest (t : Twin) (step : BitVec 64) (digest : StepOut) (s : State) : Host.Outcome State Fault Refusal :=
  .next (if !ctrlRun s then s
    else
      let r := tstApply 13 (twinIdx t) s
      let n := match r.1 with | some x => x.toNat | none => 0
      if n = 0 then takeDigest t step (digestOf digest) r.2
      else { r.2 with twn := { r.2.twn with late := r.2.twn.late ++ [(n, .digest t step (digestOf digest))] } })

/-! ### Delayed copies (R594) -/

/-- R594 kinds 13 and 14: what was delayed arrives. -/
def arriveLate (x : LateCopy) (s : State) : State :=
  match x with
  | .digest t step d => takeDigest t step d s
  | .mitre t c => if driveLive s && !twinDead s t then mitreCopy t c [] s else s
  | .block t b => if netOn s && ctrlRun s && !twinDead s t then takeBlock t b s else s
  | .host tlm t item => if ctrlRun s && !twinDead s t then hostCopy tlm t item s else s
  | .radio r t f => if twinDead s t then s else radioCopy r t f s

/-- R594: one more step boundary has passed for what is delayed: a step of a digest's delay, 125 µs of a copy's, a ring's stall or
a tail write's. (log 184 DESIGN CHOICE) -/
def lateStep (s : State) : State :=
  let s := each (List.range 4) ringLate s
  let left := s.twn.late.map (fun e => (e.1 - (match e.2 with | .digest _ _ _ => 1 | _ => 125), e.2))
  each ((left.filter (fun e => decide (e.1 = 0))).map (·.2)) arriveLate
    { s with twn := { s.twn with late := left.filter (fun e => decide (e.1 ≠ 0)) } }

/-! ### The step (R521 to R524) -/

/-- The bytes an input takes of a step's capacity; classes 1 to 6 have capacity of their own. -/
def SplitIn.size : SplitIn → Nat
  | .ftx f => f.bytes.length
  | .blk _ _ b => b.length
  | .net _ f _ => f.len
  | .radio _ b => b.length
  | _ => 0

/-- R522: the canonical order: by class; within one, as captured. (log 134 DEDUCED) -/
def canonical (xs : List SplitIn) : List SplitIn :=
  (List.range 10).flatMap (fun c => xs.filter (fun x => decide (x.cls = c)))

/-- R594 kind 17: the capacity withheld, in bytes, whatever the slot's TARGET. (log 134 DEDUCED) -/
def squeeze (s : State) : Nat :=
  match (List.range 16).find? (fun i => tstMatch s 17 (getF s ⟨tstCfg i, 8, 8⟩) i) with
  | some i => 1024 * min 255 (getBits (getR s (tstCfg i + 4)) 0 16)
  | none => 0

/-- R523: what the step presents, and the frames of classes 7 to 9 that it leaves to a later one, with room for `cap` bytes.
(log 134 DEDUCED) -/
def fitStep : Nat → List SplitIn → List SplitIn × List SplitIn
  | _, [] => ([], [])
  | cap, x :: xs =>
    if x.size ≤ cap then
      let r := fitStep (cap - x.size) xs
      (x :: r.1, r.2)
    else
      let r := fitStep 0 xs
      (r.1, x :: r.2)

/-- R523: frames of class 7 are held; those of classes 8 and 9 are deferred and counted, and dropped beyond a backlog of 64
steps. (log 134 DEDUCED) -/
def deferFrames (late : List SplitIn) (s : State) : State :=
  let held := late.filter (fun x => decide (x.cls < 8))
  let defer := late.filter (fun x => decide (8 ≤ x.cls))
  let kept := (defer.foldl (fun (a : List SplitIn × Nat) x =>
    if a.2 < 64 * 262144 then (a.1 ++ [x], a.2 + x.size) else a) ([], 0)).1
  bumpBy 0x500058 kept.length (bumpBy 0x50005C (defer.length - kept.length)
    { s with twn := { s.twn with backlog := held ++ kept } })

/-- R521: segment time in ns: from the raw time through the anchor, else from the calendar, interpolated on the 25 MHz reference.
(log 134 DEDUCED) -/
def stepTime (interp : Nat) (s : State) : Nat :=
  if netOn s && anchorValid s then (segmentNs s (rawNow s)).toNat else nowUnits s / 32768 + 40 * interp

/-- R521: the next step number: a forward discontinuity of more than 1 s reloads it. STEP_SLEW shows whether the grid is more than
1 µs from segment time. (log 134 DEDUCED) -/
def nextStep (now : Nat) (s : State) : State :=
  let s := if 125000 * (s.twn.step.toNat + 8001) < now then
      bump 0x500060 { s with twn := { s.twn with step := BitVec.ofNat 64 (now / 125000) } }
    else { s with twn := { s.twn with step := s.twn.step + 1 } }
  let grid := 125000 * s.twn.step.toNat
  setB ⟨0x500000, 9, 1⟩ (decide (grid + 1000 < now) || decide (now + 1000 < grid)) s

/-- R123, R143: the string's RAMP_MS from the image, anything where its record is bad; `ramp` where there is no record. -/
def stringRamp (s : State) (ch : Nat) (ramp : BitVec 16) : BitVec 16 :=
  match chanRecFor (activeImg s) ch with
  | some o => if chanRecBad (activeImg s) o then (freeOf s).setWidth 16 else BitVec.ofNat 16 (leAt (activeImg s) (o + 20) 2)
  | none => ramp

/-- R225, R227: the reference of a host request; 0xFFFF is the string's RAMP_MS. (log 65 DESIGN CHOICE) -/
def requestRef (s : State) (ch : Nat) (code ramp : BitVec 16) (log : Bool) : Ref :=
  ⟨code, if ramp = 0xFFFF then stringRamp s ch ramp else ramp, true, log, 1⟩

/-- R467, R481, R490: a firmware schedule entry of the hierarchy comes due. `before`: the inputs captured before it.
(log 129 DEDUCED) -/
def armedDue (e : Nat) (before : List SplitIn) (s : State) : State :=
  match s.hier.armed.find? (fun a => decide (a.entry = e)) with
  | none => s
  | some a =>
    let s := { s with hier := { s.hier with armed := s.hier.armed.filter (fun b => decide (b.entry ≠ e)) } }
    match a.op with
    | .level code ramp log => raise 144 (each (levelRecs s a.hdr) (levelRec code ramp log) s)
    | .snapshot id => raise 144 (takeSnapshot e a.hdr id before s)
    | _ => s

/-- The entries of hierarchy commands among a step's inputs, each with the inputs captured before it.
(log 122 DEDUCED, 129 DEDUCED) -/
def dueEntries (xs : List SplitIn) : List (Nat × List SplitIn) :=
  xs.zipIdx.filterMap (fun x => match x.1 with | .sched e _ _ => some (e, canonical (xs.take x.2)) | _ => none)

/-- R177, R385: a received frame as firmware passes it to FRX. -/
def frxItem (s : State) (p : Nat) (f : EthFrame) (raw : Word) : HostItem :=
  let v := f.vlan.getD (0, 0)
  ⟨frameBytes { f with vlan := none }, raw, BitVec.ofNat 2 p, v.1, v.2, s.twn.step.setWidth 32⟩

/-- What an input does when the twins take it (R26, R227, R228, R260, R459, R488, R555). (log 55 DEDUCED, 122 DEDUCED) -/
def takeInput (x : SplitIn) (s : State) : State :=
  match x with
  | .hostReg off v setNow => ulustWrite off v setNow s
  | .drvReq ch code ramp log =>
    let rs := recsWhere s (fun r => decide (recKind s r = 0) && decide (stringLead s (recSource s r) = some ch))
    twinRequest ch (requestRef s ch code ramp log) (drawn (each rs (recTarget code.toNat) s))
  | .chnReq port pos w => twinWord port pos w s
  | .irq t n => coreTake t n s
  | .keyCmd v ws c rnd => takeKey v ws c rnd s
  | .net p f raw =>
    if f.etype = 0xB7A2 then (match parseHier f.src f.payload with | some i => hierReplay i s | none => s)
    else if f.ptp then s
    else emit (.frx (frxItem s p f raw)) s
  | .radio rx body =>
    let s := recInput (.radio rx body) s
    if body.head? = some 1 then joinResp rx ((body.drop 3).take 8) s else s
  | x => recInput x s

/-- R96, R212: the snapshot owed at the first step after RUN, with the pending sources of the core routes.
(log 24 DEDUCED) -/
def owedSnapshot (s : State) : List SplitIn :=
  if s.sys.snapOwed then
    [.snapshot s.rfx.pins (if fabOn s then (List.range 8).map (fun j => getF s ⟨0x130200 + 4 * j, 0, 16⟩) else [])
      (channels.map (fun n => tabGet (fun _ => 0) s.drv.mitre n))] ++ pendingCore s
  else []

/-- A host request for a string or a chain position (R227, R260). -/
def isRequest : SplitIn → Bool
  | .drvReq _ _ _ _ => true
  | .chnReq _ _ _ => true
  | _ => false

/-- R523, R594 kind 17: what a step presents, and what is left to a later one; the capacity withheld is that of classes 8 and 9. -/
def fitAll (withheld : Nat) (xs : List SplitIn) : List SplitIn × List SplitIn :=
  let a := fitStep 262144 (xs.filter (fun x => decide (x.cls < 8)))
  let left := if a.2 = [] then 262144 - (a.1.map SplitIn.size).sum - withheld else 0
  let b := fitStep left (xs.filter (fun x => decide (8 ≤ x.cls)))
  (a.1 ++ b.1, a.2 ++ b.2)

/-- R460, R461, R478, R479, R488: what firmware does in every step. (log 138 DESIGN CHOICE) -/
def firmwareStep (s : State) : State :=
  let s := giveCredits (each (assigned (filterDue s)) recUpdate (filterDue s))
  let s := judgeCredit s
  let s := if s.hier.frozen then bump (hierCnt 4) s else s
  let s := upDrain 16384 s
  let s := retryStuck (pumpOwn 2048 s)
  match s.hier.coll with
  | some c => pumpPacks c.id false 4096 s
  | none => pumpPacks (BitVec.ofNat 16 (getF s ⟨0x4000B0, 0, 16⟩)) true 4096 s

/-- R524: the inputs of the step are presented to both twins. HELLO comes first (R460). Of what was held for RUN, the host's writes
precede the hierarchy's frames; commands of the hierarchy that fall due precede the requests held, which precede the snapshot
(R101, R227, R228); the host's requests of the step come last (R228). (log 122 DEDUCED, 138 DESIGN CHOICE) -/
def presentStep (s : State) : State :=
  let held := s.twn.heldReq
  let owed := owedSnapshot s
  let all := s.twn.backlog ++ s.twn.inbox
  let r := fitAll (squeeze s) (canonical all)
  let frames := s.hier.held
  let s := sendOwed s
  let s := deferFrames r.2 { s with
    twn := { s.twn with inbox := [], heldReq := [], shown := held ++ owed ++ r.1 }
    sys := { s.sys with snapOwed := false }
    hier := { s.hier with held := [] } }
  let s := each frames hierReplay (each (held.filter (fun x => !isRequest x)) takeInput s)
  let s := each (dueEntries (held ++ all)) (fun e => armedDue e.1 e.2) s
  let s := each owed takeInput (each (held.filter isRequest) takeInput s)
  let s := each (r.1.filter isRequest) takeInput (each (r.1.filter (fun x => !isRequest x)) takeInput s)
  each (held ++ r.1) standWrite (firmwareStep s)

/-- R530, R544: the twins that have reached STRIKE_MAX strikes by one of step `x`, the step that ends.
(log 137 DESIGN CHOICE) -/
def struckOut (x : BitVec 64) (s : State) : List Twin :=
  [Twin.a, Twin.b].filter (fun t => !twinDead s t && decide (max 1 (getF s ⟨0x500008, 0, 4⟩) ≤ strikeCount s t) &&
    (match t with | .a => s.twn.strikesA | .b => s.twn.strikesB).contains x)

/-- R35, R536: Twin A is the read source again once it is IN_STEP. -/
def restoreSource (s : State) : State :=
  if s.twn.readSrc = .b ∧ bothInStep s = true then { s with twn := { s.twn with readSrc := .a } } else s

/-- SPLITTER_STEP (R521 to R524, R530, R594). (log 135 DEDUCED) -/
def execSplitterStep (interp : Fin 763) (cycles : Nat) (s : State) : Host.Outcome State Fault Refusal :=
  let s := tsuAdvance cycles s
  .next (if !ctrlOn s then s
    else
      let was := s.twn.step
      let s := nextStep (stepTime interp.val s) s
      let s := { s with twn := { s.twn with
        strikesA := s.twn.strikesA.filter (inWindow s)
        strikesB := s.twn.strikesB.filter (inWindow s)
        corrA := s.twn.corrA.filter (fun c => inWindow s c.2)
        corrB := s.twn.corrB.filter (fun c => inWindow s c.2) } }
      let out := struckOut was s
      let s := restoreSource (settleRoutes (each out (fun t => declare t 5) s))
      let s := if ctrlRun s then
          (if twinDead s .a && twinDead s .b then { s with twn := { s.twn with inbox := [], shown := [] } }
           else if atReady s then presentStep (settingsStep s)
           else { s with twn := { s.twn with
             inbox := []
             shown := s.twn.inbox.filter (fun x => decide (x.cls ≠ 7))
             backlog := s.twn.backlog ++ s.twn.inbox.filter (fun x => decide (x.cls = 7)) } })
        else s
      lateStep { s with upd := { s.upd with wrote := [] } })

/-! ### Late digests and the end of a proof (R525, R529) -/

/-- DIGEST_LATE (R525, R536): late by one step, a strike; by two, HANG; in SHADOW the rejoin ends. -/
def execDigestLate (t : Twin) (second : Bool) (s : State) : Host.Outcome State Fault Refusal :=
  .next (if !ctrlRun s then s
    else if shadowTwin s = some t then declare t 9 s
    else if twinState s t = .inStep ∨ twinState s t = .proving then
      (if second then declare t 3 s else strike t (bump 0x50004C s))
    else s)

/-- PROOF_END (R529): no fault was found; the twin that is not the read source is declared failed. -/
def execProofEnd (s : State) : Host.Outcome State Fault Refusal :=
  .next (if s.twn.a = .proving ∧ s.twn.b = .proving then declare s.twn.readSrc.other 6 s else s)

/-! ### Faults (R530, R540 to R542) -/

/-- TWIN_FAULT (R530): an uncorrectable error, or a lost die. -/
def execTwinFault (t : Twin) (kind : TwinFaultKind) (s : State) : Host.Outcome State Fault Refusal :=
  .next (match kind with
    | .ecc => if ctrlOn s then declare t 1 s else s
    | .die => if ctrlRun s then declare t 4 s else s)

/-- R530: a corrected error at an address already corrected within the window is a strike. (log 137 DESIGN CHOICE) -/
def corrected (t : Twin) (addr : Nat) (s : State) : State :=
  let seen := match t with | .a => s.twn.corrA | .b => s.twn.corrB
  let s := bump 0x500064 (if seen.any (fun c => decide (c.1 = addr) && inWindow s c.2) then strike t s else s)
  match t with
  | .a => { s with twn := { s.twn with corrA := (addr, s.twn.step) :: s.twn.corrA } }
  | .b => { s with twn := { s.twn with corrB := (addr, s.twn.step) :: s.twn.corrB } }

/-- BORER_FINDING (R540 to R542). DRAM addresses follow those of the SRAM. (log 136 DEDUCED, 137 DESIGN CHOICE) -/
def execBorerFinding (f : BorerFind) (s : State) : Host.Outcome State Fault Refusal :=
  .next (if !ctrlOn s then s
    else
      match f with
      | .sramCorr t addr =>
        corrected t addr (match t with
          | .a => { s with twn := { s.twn with sramA := s.twn.sramA + 1 } }
          | .b => { s with twn := { s.twn with sramB := s.twn.sramB + 1 } })
      | .dramCorr t addr =>
        corrected t (0x400000 + addr) (match t with
          | .a => { s with twn := { s.twn with dramA := s.twn.dramA + 1 } }
          | .b => { s with twn := { s.twn with dramB := s.twn.dramB + 1 } })
      | .framCorr => bump 0x500064 { s with twn := { s.twn with framCorr := s.twn.framCorr + 1 } }
      | .sramSweep .a => { s with twn := { s.twn with sweepA := s.twn.sweepA + 1 } }
      | .sramSweep .b => { s with twn := { s.twn with sweepB := s.twn.sweepB + 1 } }
      | .hard t => if twinDead s t then s else declare t 2 (raise 162 (bump 0x500068 s))
      | .carrier => raise 162 (bump 0x500068 { s with twn := { s.twn with carrier := true } }))

/-! ### Commands and reads (R534 to R538, R543, R544) -/

/-- TWN_STAT.RESULT. -/
def twnAnswer (c : Code) (s : State) : State := setF ⟨0x500000, 16, 8⟩ c.num s

/-- REJOIN (R534, R535, R539, R573). (log 136 DEDUCED) -/
def execRejoin (t : Twin) (s : State) : Host.Outcome State Fault Refusal :=
  .next (if !ctrlOn s then s
    else if twinDead s t && decide (twinState s t.other = .inStep) && imgSealed s && ctrlRun s then
      let s := rewriteReport (setTwin t .rejoining (twnAnswer .ok s))
      let e := fwCheck s s.upd.slot
      if e.1 = 0 then s else declare t 9 (fwRecord e s)
    else twnAnswer .state s)

/-- REJOIN_CONVERGE (R535): the joining twin enters SHADOW. -/
def execRejoinConverge (s : State) : Host.Outcome State Fault Refusal :=
  let enter := fun (t : Twin) (s : State) =>
    rewriteReport (setTwin t .shadow { s with twn := { s.twn with equal := 0, digests := [] } })
  .next (if s.twn.a = .rejoining then enter .a s else if s.twn.b = .rejoining then enter .b s else s)

/-- FORCE_FAIL (R530, R544): legal only while both twins are IN_STEP. -/
def execForceFail (t : Twin) (s : State) : Host.Outcome State Fault Refusal :=
  .next (if !ctrlOn s then s else if bothInStep s then declare t 7 (twnAnswer .ok s) else twnAnswer .state s)

/-- CLEAR_HIST (R538). -/
def execClearHist (s : State) : Host.Outcome State Fault Refusal :=
  .next (if ctrlOn s then twnAnswer .ok { s with twn := { s.twn with histA := 0, histB := 0 } } else s)

/-- R543: the read of word 0 latches the report. -/
def latchHealth (s : State) : State :=
  { s with hostData := [s.twn.report.getD 0 0], twn := { s.twn with latch := s.twn.report } }

/-- R544: the read of TWN_STEP_LO latches TWN_STEP_HI. -/
def latchStep (s : State) : State :=
  { s with hostData := [s.twn.step.setWidth 32], twn := { s.twn with stepHi := (s.twn.step >>> 32).setWidth 32 } }

/-- HEALTH_READ (R543): word 0, and the latch of words 1 to 15. -/
def execHealthRead (route : Route) (s : State) : Host.Outcome State Fault Refusal :=
  .next (readBy route (fun s => if ctrlOn s then latchHealth s else { s with hostData := [0] }) s)

/-- TWN_STEP_READ (R544). -/
def execTwnStepRead (route : Route) (s : State) : Host.Outcome State Fault Refusal :=
  .next (readBy route (fun s => if ctrlOn s then latchStep s else { s with hostData := [0] }) s)

end Sys2Proof.Machine
end

