-- ==== Sys2Proof/Machine/RegView.lean ====
section
/-! DEFINITION. What a host read of a register returns, and what it does (R4, R5, R7, R9, R19, R32, R33, R35, R37). Registers
whose value follows from other state are computed here. -/

namespace Sys2Proof.Machine

/-- One or more bits of a report. -/
def atBit (n lo : Nat) : Nat := n * 2 ^ lo

/-- INTC_TGT_STAT and INTC_CORE_STAT (R216). -/
def tgtStat (s : State) (t : Target) : Word :=
  let x := tgt s t
  let src := match x.claim with | some c => c.src | none => x.insvc.getD 0
  w32 (b2n x.claim.isSome + atBit (b2n x.insvc.isSome) 1 + atBit (b2n x.window) 2 + atBit (b2n (asleep s t)) 3 + atBit src 8)

/-- The INTC registers that follow the lines and targets. -/
def intcView (s : State) (off : Nat) : Word :=
  if 0x20100 ≤ off ∧ off < 0x20120 then rawWord s (off / 4 % 8)
  else if off = 0x20210 then tgtStat s .h0
  else if off = 0x20250 then tgtStat s .h1
  else if off = 0x20300 then tgtStat s .cp0
  else if off = 0x20304 then tgtStat s .cp1
  else getR s (regHome off)

/-- DRV_CH_SAFE, DRV_CH_REF, DRV_CH_NOW and DRV_CH_STAT (R152, R223, R224, R236, R253). (log 177 DESIGN CHOICE) -/
def drvView (s : State) (off : Nat) : Word :=
  let n := (off - 0x100000) / 0x100
  let x := slice s n
  match off % 0x100 with
  | 0x10 => w32 (safeLevel s n)
  | 0x14 => w32 (x.ref.code.toNat + atBit x.ref.src.toNat 16)
  | 0x18 => w32 (loopRef s n (workFree s n))
  | 0x1C => w32 (x.st.num + atBit (b2n x.ramp.isSome) 4 + atBit (b2n x.phaseA) 5 + atBit (b2n x.phaseB) 6 +
      atBit (b2n x.clamp) 7 + atBit (b2n x.blank) 8 + atBit (x.qcount % 8) 9)
  | _ => getR s off

/-- The codes of the STAGED slot's state and owner (R115, R155, R567, R589). -/
def StgState.num : StgState → Nat
  | .empty => 0 | .opened => 1 | .pending => 2 | .rejected => 3
def partyNum : Party → Nat
  | .host => 0 | .hier => 1 | .recovery => 2

/-- UPD_RCV.SESSION (R581, R583, R589). (log 146 DEDUCED) -/
def rcvSession (s : State) : Nat :=
  let staging := fun (x : Staging) => decide (x.st = .opened) && decide (x.owner = .host)
  if s.upd.sess.isSome then 2
  else b2n (decide (getF s stageFld = 14) && (staging s.img.stg || staging s.upd.stg))

/-- AIR_RADIO_STAT and the cell window (R430, R434, R452). -/
def airView (s : State) (off : Nat) : Word :=
  if off < 0x304000 ∧ off % 0x1000 = 8 then
    let r := (off - 0x300000) / 0x1000
    putBits (putBits (getR s off) 0 2 (timeSrc s r)) 3 1 (b2n (searching s r))
  else if 0x30C000 ≤ off then
    let c := tabGet (fun _ => 0) s.air.cells (cellIndex s off)
    if off % 8 = 0 then c.setWidth 32 else (c >>> 32).setWidth 32
  else getR s off

/-- TWN_STAT, TWN_STEP_HI, TWN_STRIKES, TWN_HIST and the latched report (R543, R544). -/
def twnView (s : State) (off : Nat) : Word :=
  if off = 0x500000 then
    putBits (putBits (putBits (getR s off) 0 1 (b2n (decide (s.twn.readSrc = .b)))) 1 3 s.twn.a.num) 4 3 s.twn.b.num
  else if off = 0x50000C then s.twn.step.setWidth 32
  else if off = 0x500010 then s.twn.stepHi
  else if off = 0x500024 then w32 (min 255 (strikeCount s .a) + atBit (min 255 (strikeCount s .b)) 8)
  else if off = 0x500028 then w32 (s.twn.histA + atBit s.twn.histB 8)
  else if 0x500100 ≤ off then s.twn.latch.getD ((off - 0x500100) / 4) 0
  else getR s off

/-- The present value of a register of a powered block, before what is unpredictable in it.
(log 159 DESIGN CHOICE, 171 DEDUCED) -/
def viewReg (s : State) (off : Nat) : Word :=
  match blockOf off with
  | some .intc => intcView s off
  | some .drv => drvView s off
  | some .img =>
    if off = 0x10004 then putBits (putBits (getR s off) 2 2 s.img.stg.st.num) 4 1 (partyNum s.img.stg.owner) else getR s off
  | some .upd =>
    if off = 0x50004 then putBits (putBits (getR s off) 1 2 s.upd.stg.st.num) 3 2 (partyNum s.upd.stg.owner)
    else if off = 0x50024 then putBits (getR s off) 4 2 (rcvSession s)
    else getR s off
  | some .mtr =>
    if 0x121000 ≤ off ∧ 0x10 ≤ off % 0x80 ∧ off % 0x80 < 0x38 then
      (tabGet (fun _ => []) s.mtr.latch ((off - 0x121000) / 0x80)).getD ((off % 0x80 - 0x10) / 4) 0
    else getR s off
  | some .rfx => if off = 0x130000 then putBits (getR s off) 16 11 (loadedCells s).length else getR s off
  | some .dma =>
    if off = 0x220004 then
      w32 (b2n (dmaActive s) + (List.range 4).foldl (fun m r => m + atBit (b2n (ringHalt s r)) (4 + r)) 0)
    else getR s off
  | some .air => airView s off
  | some .pln => if off = 0x410010 then putBits (getR s off) 16 15 (upUsed s) else getR s off
  | some .twn => twnView s off
  | some .tst =>
    if off = 0xF00004 then putBits (getR s off) 1 1 (b2n (levelCond s 168)) else getR s off
  | _ => getR s off

/-- R134, R274, R393, R491: while a HIER value is out of its range every HIER register may read anything; while START is, a port's
TX counters; while a chain port's configuration is, the port's registers; while a meter point's is, the point's; the registers of
a pulse output that two points name; and the cells and counters of a radio whose slotframes differ (R425).
(log 93 DESIGN CHOICE, 105 DESIGN CHOICE, 118 DESIGN CHOICE, 131 DESIGN CHOICE) -/
def hostUnpred (s : State) (off : Nat) : Word :=
  if blockOf off = some .hier ∧ hierBad s = true then 0xFFFFFFFF
  else if blockOf off = some .net ∧ off < 0x204000 ∧ 0x128 ≤ off % 0x1000 ∧ off % 0x1000 < 0x134 ∧
      startBad s ((off - 0x200000) / 0x1000) = true then 0xFFFFFFFF
  else if 0x300000 ≤ off ∧ off < 0x304000 ∧ 0x200 ≤ off % 0x1000 ∧ off % 0x1000 < 0x238 ∧
      radioBad s ((off - 0x300000) / 0x1000) = true then 0xFFFFFFFF
  else if 0x30C000 ≤ off ∧ off < 0x310000 ∧ radioBad s (cellBits (tabGet (fun _ => 0) s.air.cells (cellIndex s off)) 48 2) = true
  then 0xFFFFFFFF
  else if blockOf off = some .mtr ∧ 0x121000 ≤ off ∧ ptBad s ((off - 0x121000) / 0x80) = true then 0xFFFFFFFF
  else if 0x120200 ≤ off ∧ off < 0x120240 ∧ plsBad s ((off - 0x120200) / 0x10) = true then 0xFFFFFFFF
  else if blockOf off = some .chn ∧ chnBad s ((off - 0x110000) / 0x1000) = true then 0xFFFFFFFF
  else unpredAt s (spoilKey s off)

/-- The host is answered a value. -/
def answer (v : Word) (s : State) : State := { s with hostData := [v] }

/-- R5, R8, R19: the bits of the word just read that are unpredictable in the register at `off` hold anything. -/
def blurRead (off : Nat) (s : State) : State :=
  let m := hostUnpred s off &&& w32 (readMask off)
  if m = 0 then s
  else drawn { s with hostData := s.hostData.map (fun v => (v &&& ~~~m) ||| (freeOf s &&& m)) }

/-- A read without an effect of its own: WO and reserved bits read 0 (R6, R7), unpredictable bits anything (R19). -/
def readPlain (off : Nat) (s : State) : State :=
  let rm := w32 (readMask off)
  let v := viewReg s off &&& rm
  let s := if 0x100000 ≤ off ∧ off < 0x104000 ∧ off % 0x100 = 0x18 then
      (if (slice s ((off - 0x100000) / 0x100)).clamp then drawn (drawn s) else workDrawn ((off - 0x100000) / 0x100) s)
    else s
  blurRead off (answer v s)

/-- R9: RC bits that were read are cleared. -/
def clearRc (off : Nat) (s : State) : State :=
  let c := accMask (fun a => decide (a = .rc)) off
  if c = 0 then s else setR off (getR s off &&& ~~~(w32 c)) s

/-- R300: a host access starts the fabric's clock. -/
def wakesFabric (off : Nat) (s : State) : State :=
  if blockOf off = some .rfx then setB clkRun true s else s

/-- A read of a register of a powered block: reads with an effect of their own first. -/
def readReg (off : Nat) (s : State) : State :=
  if off = 0x20208 then blurRead off (takeClaim .h0 s)
  else if off = 0x20248 then blurRead off (takeClaim .h1 s)
  else if off ∈ shadowRegs then blurRead off (shadowRead (shadowRegs.idxOf off) s)
  else if 0x121000 ≤ off ∧ off < 0x125000 ∧ off % 0x80 = 0x10 then
    blurRead off (latchTotals ((off - 0x121000) / 0x80) s)
  else if 0x300000 ≤ off ∧ off < 0x304000 ∧ off % 0x1000 = 0xC then
    blurRead off (latchAsn ((off - 0x300000) / 0x1000) s)
  else if off = 0x50000C then blurRead off (latchStep s)
  else if off = 0x500100 then blurRead off (latchHealth s)
  else clearRc off (readPlain off (wakesFabric off s))

/-- R5: a read that is no aligned 32-bit one returns anything. (log 47 DESIGN CHOICE) -/
def readFree (words : Nat) (s : State) : State :=
  { s with hostData := (List.range words).map (fun i => Config.freeWord (s.free + i)), free := s.free + words }

/-- A host read of a word at any offset (R4, R5, R32, R33). -/
def hostRead (off : Nat) (s : State) : State :=
  if off % 4 ≠ 0 then readFree 1 s
  else
    match blockOf off, regRow? off with
    | some b, some _ => if blockUp s b then readReg off s else answer 0 s
    | _, _ => answer 0 s

end Sys2Proof.Machine
end

