-- ==== Sys2Proof/Machine/Rfx.lean ====
section
/-! DEFINITION. The commands of the reflex fabric (R276 to R304). -/

namespace Sys2Proof.Machine

/-- Edges with plain input numbers. -/
def plainEdges (edges : List (Fin 32 × Bool)) : List (Nat × Bool) := edges.map (fun e => (e.1.val, e.2))

/-- PRESENCE_EDGE (R277, R283 to R300, R93). -/
def execPresenceEdge (edges : List (Fin 32 × Bool)) (s : State) : Host.Outcome State Fault Refusal :=
  let es := plainEdges edges
  .next (presence es [] (edgeReports es s))

/-- R278: one input's mean at the strobe. -/
def strobeMean (sums : List Nat) (j : Nat) (s : State) : State :=
  if inEnabled s (32 + j) then
    let m := min 11000 (sums.getD j 0 / 64)
    setR (0x130200 + 4 * j) (w32 (m + b2n (decide (10500 < m)) * 2 ^ 16)) s
  else setR (0x130200 + 4 * j) 0 s

/-- R280: a strobe counts one timer; its last strobe makes its expiry due. (log 75 DESIGN CHOICE) -/
def strobeTimer (t : Nat) (s : State) : State :=
  if tmrRunning s t && !s.rfx.due.contains t then
    let s' := setR (tmrReg t) (w32 (tmrRemain s t - 1 + 2 ^ 31)) s
    if tmrRemain s t ≤ 1 then { s' with rfx := { s'.rfx with due := s'.rfx.due ++ [t] } } else s'
  else s

/-- AIN_STROBE (R278 to R280, R284, R288): the means, the timers, and one update for each enabled analogue input. The update
of an input that no loaded AIN cell names starts no clock (R300). (log 75 DESIGN CHOICE) -/
def execAinStrobe (sums : List Nat) (s : State) : Host.Outcome State Fault Refusal :=
  .next (if fabOn s then
    let s := each (List.range 64) strobeTimer (each (List.range 8) (strobeMean sums) s)
    let s := capture (.ain ((List.range 8).map (fun j => getF s ⟨0x130200 + 4 * j, 0, 16⟩))) s
    let named := fun j => (loadedCells s).any (fun n => decide ((cellOf s n).cls = 1) && decide ((cellOf s n).src = j))
    let es := ((List.range 8).filter (fun j => inEnabled s (32 + j) && named j)).map
      (fun j => RfxEvent.ain j (getF s ⟨0x130200 + 4 * j, 0, 16⟩))
    let s := fabEvents es [] s
    if levelCond s 114 then raise 114 s else s
  else s)

/-- FABRIC_TIMER_EXPIRE (R280, R301): the timers whose last strobe has come stop, and each gives one event. A TSTART or TSTOP
of the same cycle has taken its timer from those due. (log 75 DESIGN CHOICE) -/
def execFabricTimerExpire (timers : List (Fin 64)) (s : State) : Host.Outcome State Fault Refusal :=
  let ts := (noRepeat (timers.map (·.val))).filter (fun t => fabOn s && s.rfx.due.contains t)
  .next (if ts = [] then s else
    let s := each ts (fun t => setR (tmrReg t) 0) s
    let s := { s with rfx := { s.rfx with due := s.rfx.due.filter (fun t => !ts.contains t) } }
    fabEvents (ts.map RfxEvent.timer) [] s)

/-- RFX_MODE_WRITE (R282): one event for each bit that changes. -/
def execRfxModeWrite (v : Word) (s : State) : Host.Outcome State Fault Refusal :=
  .next (if fabOn s then
    let d := getR s 0x130004 ^^^ v
    let es := ((List.range 32).filter (fun b => bitOf d b)).map (fun b => RfxEvent.mode b (bitOf v b))
    fabEvents es [] (writeReg 0x130004 v 0 (setB clkRun true s))
  else s)

/-- RFX_LOCK_CLR (R291): the locks of the channels written 1 are cleared; no reference is passed. (log 81 DEDUCED) -/
def execRfxLockClr (hi : Bool) (v : Word) (s : State) : Host.Outcome State Fault Refusal :=
  .next (if fabOn s then
    each ((List.range 32).filter (fun i => bitOf v i)) (fun i => clearLock ((if hi then 32 else 0) + i)) (setB clkRun true s)
  else s)

/-- FABRIC_CLOCK_STOP (R300): in ARMED-COLD alone. -/
def execFabricClockStop (s : State) : Host.Outcome State Fault Refusal :=
  .next (if fab s = .cold then setB clkRun false s else s)

end Sys2Proof.Machine
end

