-- ==== Sys2Proof/Machine/Tsu.lean ====
section
/-! DEFINITION. The commands of the time-stamp unit (R399 to R419). -/

namespace Sys2Proof.Machine

/-- TSU_CTL.MODE: the host owns the unit (R401). (log 107 DEDUCED) -/
def tsuHost (s : State) : Bool := flag s ⟨0x210004, 0, 1⟩

/-- R405: firmware's control word passes the transmit merge, which counts a word that differs, or that comes alone (R388, R389).
(log 109 DEDUCED) -/
def tsuWord (c : Copies) (f : State → State) (s : State) : State :=
  byPort true c f (if bothInStep s && ctrlRun s then
    (match c with | .equal => s | .differ => bump 0x204058 s | .alone _ => bump 0x204054 s) else s)

/-- R401, R402: a command of one owner, with the cycle that applies it: answered STATE where the other owns the unit, BUSY while
one waits. (log 53 DESIGN CHOICE, 107 DEDUCED) -/
def tsuCommand (who : Issuer) (op : Nat) (adj : Option Word) (cycles : Nat) (s : State) : State :=
  if !netOn s then s
  else
    let go := fun s =>
      if s.tsu.pend.isSome then tsuAnswer .busy s
      else
        let s := match adj with | some v => setR 0x21000C v s | none => s
        tsuAnswer .ok (tsuOp op (getR s 0x21000C) s)
    let s := tsuAdvance cycles s
    match who with
    | .host => if tsuHost s then go s else tsuAnswer .state s
    | .firmware c => if tsuHost s then s else tsuWord c go s

/-- TSU_STEP (R402). (log 109 DEDUCED) -/
def execTsuStep (who : Issuer) (adj : Option Word) (cycles : Nat) (s : State) : Host.Outcome State Fault Refusal :=
  .next (tsuCommand who 1 adj cycles s)

/-- TSU_SLEW (R403): a new slew replaces whatever remains. (log 106 DESIGN CHOICE) -/
def execTsuSlew (who : Issuer) (adj : Option Word) (cycles : Nat) (s : State) : Host.Outcome State Fault Refusal :=
  .next (tsuCommand who 2 adj cycles s)

/-- TSU_LOAD (R402). -/
def execTsuLoad (who : Issuer) (adj : Option Word) (cycles : Nat) (s : State) : Host.Outcome State Fault Refusal :=
  .next (tsuCommand who 3 adj cycles s)

/-- TSU_SLEW_DONE (R403): the slew has applied all its nanoseconds. (log 106 DESIGN CHOICE) -/
def execTsuSlewDone (s : State) : Host.Outcome State Fault Refusal :=
  .next (if netOn s && decide (slewRem s ≠ 0) then
    moveRaw (slewRem s) (setR 0x210018 0 { s with tsu := { s.tsu with slew := 0 } }) else s)

/-- R406: the write of SEC_HI commits all four words in one cycle. -/
def commitAnchor (v : Word) (s : State) : State :=
  let s := setF ⟨0x21002C, 0, 16⟩ v.toNat s
  setB anchorFld true { s with tsu := { s.tsu with
    ra := getR s 0x210020, na := getF s ⟨0x210024, 0, 30⟩, sa := (getR s 0x210028).toNat + 2 ^ 32 * getF s ⟨0x21002C, 0, 16⟩ } }

/-- The words of firmware's control word beside SEC_HI. -/
def withAnchor (fw : Option FwAnchor) (s : State) : State :=
  match fw with
  | some a => setR 0x210008 a.incr (setR 0x210028 a.secLo (setR 0x210024 (w32 (getBits a.ns 0 30)) (setR 0x210020 a.raw s)))
  | none => s

/-- TSU_ANCHOR_COMMIT (R401, R405, R406). -/
def execTsuAnchorCommit (who : Issuer) (fw : Option FwAnchor) (v : Word) (cycles : Nat) (s : State) :
    Host.Outcome State Fault Refusal :=
  .next (if !netOn s then s else
    let s := tsuAdvance cycles s
    match who with
    | .host => if tsuHost s then commitAnchor v s else s
    | .firmware c => if tsuHost s then s else tsuWord c (fun s => commitAnchor v (withAnchor fw s)) s)

/-- ANCHOR_EXPIRE (R406): raw time runs 2,000,000,000 ns past the anchor. (log 108 DEDUCED) -/
def execAnchorExpire (cycles : Nat) (s : State) : Host.Outcome State Fault Refusal := .next (tsuAdvance cycles s)

/-- TSU_SQ_FREE (R411): an owner frees an entry of its own; firmware's free reaches the twins. -/
def execTsuSqFree (who : Issuer) (e : Fin 64) (s : State) : Host.Outcome State Fault Refusal :=
  let free := fun o s => if sqValid s e.val && decide (sqOwner s e.val = o) then sqCount (setB ⟨sqReg e.val + 4, 6, 1⟩ false s) else s
  .next (if !netOn s then s else
    match who with
    | .host => free .host s
    | .firmware c => tsuWord c (fun s => capture (.stampFree e.val) (free .firmware s)) s)

/-- The 64-bit big-endian number at a place of a string. -/
def be64 (b : List Byte) (i : Nat) : Nat := ((b.drop i).take 8).foldl (fun a x => a * 256 + x.toNat) 0

/-- A string with bytes replaced from a place on. -/
def patch (b : List Byte) (i : Nat) (v : List Byte) : List Byte := b.take i ++ v ++ b.drop (i + v.length)

/-- R415: the correctionField of a Sync message takes d × 2^16 more; over UDP/IPv4 the UDP checksum becomes 0. -/
def correct (b : List Byte) (d : Int) : List Byte :=
  let udp := decide ((b.getD 12 0).toNat = 8) && decide ((b.getD 13 0).toNat = 0)
  let ip := 4 * ((b.getD 14 0).toNat % 16)
  let at0 := if udp then 14 + ip + 8 else 14
  let v := unsigned 64 ((be64 b (at0 + 8) : Nat) + d * 65536)
  let b := patch b (at0 + 8) (leBytes 8 v).reverse
  if udp then patch b (14 + ip + 6) [0, 0] else b

/-- R415: a Sync sent with LAUNCH on a one-step port carries the time at which it left, by its transmit stamp. -/
def oneStep (p : Nat) (stamp : Word) (e : TxEnt) (s : State) : TxEnt :=
  match e.launch, e.body with
  | some l, .bytes b =>
    if e.sync && flag s ⟨0x210100 + 0x10 * p, 0, 1⟩ then { e with body := .bytes (correct b (signed 32 (stamp - l).toNat)) } else e
  | _, _ => e

/-- R410 to R413: a stamp that was asked for is queued or dropped: the host's descriptor is told its entry, or 0xFF; firmware's
entry reaches the twins. -/
def giveStamp (p : Nat) (e : TxEnt) (stamp : Word) (s : State) : State :=
  match e.stamp with
  | none => s
  | some (who, i) =>
    let r := queueStamp p e.queue who e.launch.isSome i.toNat stamp s
    match who with
    | .host => ftxStamped i.toNat (r.1.getD 0xFF) r.2
    | .firmware => if r.1.isSome then capture (.stamp p e.queue i.toNat stamp) r.2 else r.2

/-- R410, R415: the frame's transmit stamp is taken: it is wanted, or it corrects a one-step Sync. -/
def takesStamp (s : State) (p : Nat) (e : TxEnt) : Bool :=
  e.stamp.isSome || (e.sync && e.launch.isSome && flag s ⟨0x210100 + 0x10 * p, 0, 1⟩)

/-- TX_STAMP (R409 to R413, R415): the timestamp point of the frame in service passes. -/
def execTxStamp (port : Fin 4) (cycles : Nat) (s : State) : Host.Outcome State Fault Refusal :=
  let s := tsuAdvance cycles s
  .next (match netOn s, (portOf s port.val).cur with
    | true, some e =>
      if !takesStamp s port.val e then s else
      let t := shiftedStamp port.val ((rawNow s).toNat + portTxLat s port.val) s
      let s := setPort port.val { portOf t.2 port.val with cur := some { oneStep port.val t.1 e t.2 with stamp := none } } t.2
      giveStamp port.val e t.1 s
    | _, _ => s)

/-- LAUNCH (R417 to R419): the frame at the head of its queue is sent once its time is reached; `held`: a pause or a down
link held the port at its time. -/
def execLaunch (p : Fin 4) (queue : BitVec 3) (cycles : Nat) (held : Bool) (s : State) : Host.Outcome State Fault Refusal :=
  let s := tsuAdvance cycles s
  .next (match headOf s p.val queue.toNat with
    | some e =>
      match e.launch with
      | some l =>
        if txFree s p.val && txReady s p.val e && ((e.late || held) && decide (e.delay ≤ (rawNow s - l).toNat) || rawReached s (l + w32 e.delay)) then
          let s := bump 0x21004C (startTx p.val e s)
          if e.late || held then raise 130 (bump 0x210048 s) else s
        else s
      | none => s
    | none => s)

end Sys2Proof.Machine
end

