-- ==== Sys2Proof/Machine/HostWrite.lean ====
section
/-! DEFINITION. What a host write of each block's registers does (R6 to R8, R18, and the rules of each block). A write that
a row of its own describes is carried out as that row is. -/

namespace Sys2Proof.Machine

/-- The state after a command that always completes, as an effect. -/
def run (f : State → Host.Outcome State Fault Refusal) (s : State) : State := after (f s) s

/-- A write of SYS (R82, R106). A module held in reset takes no reset command. -/
def writeSys (off : Nat) (v setNow : Word) (s : State) : State :=
  if off = 0 then hostPower v s
  else if off = 0x14 then
    match resetKind (getBits v 0 2) with
    | some k => if s.sys.held then s else resetRequest k false s
    | none => s
  else writeReg off v setNow s

/-- A write of IMG (R153, R155). -/
def writeImg (off : Nat) (v setNow : Word) (s : State) : State :=
  if off = 0x10000 then
    match getBits v 0 3 with
    | 1 => run (execImgBegin .host) s
    | 2 => run (execImgCommit .host) s
    | 3 => run (execImgAbort .host) s
    | 4 => run execImgVerify s
    | 5 => run execImgDiscard s
    | _ => s
  else if off = 0x1000C then run (execImgStgData v) s
  else writeReg off v setNow s

/-- A write of UPD (R575, R588, R589). -/
def writeUpd (off : Nat) (v setNow : Word) (s : State) : State :=
  if off = 0x50000 then
    match getBits v 0 3 with
    | 1 => run (execUpdBegin .host) s
    | 2 => run (execUpdCommit .host) s
    | 3 => run (execUpdAbort .host) s
    | 4 => run execUpdDiscard s
    | 5 => run execSaveSettings s
    | 6 => run execDefaults s
    | 7 => run execRecoverNext s
    | _ => s
  else if off = 0x5000C then run (execUpdStgData v) s
  else writeReg off v setNow s

/-- R200: the host-route pending bit of a source whose HOST is 3 may read anything, until a correct write of its register.
(log 48 DEDUCED) -/
def hostRouteScope (n : Nat) (bad : Bool) (s : State) : State :=
  let k := srcOff 0x20120 n + 2
  let m := tabGet (fun _ => 0) s.unpred k
  let bit := w32 (2 ^ (n % 32))
  { s with unpred := tabSet (fun _ => 0) s.unpred k (if bad then m ||| bit else m &&& ~~~bit) }

/-- What follows a write of INTC_SRC_CFG (R200). -/
def afterIntc (off : Nat) (s : State) : State :=
  if isSrcCfgReg off && srcDefined ((off - 0x20400) / 4) then
    let bad := decide (getF s ⟨off, 2, 2⟩ = 3)
    let s := hostRouteScope ((off - 0x20400) / 4) bad s
    if bad then spoilReg off s else s
  else s

/-- A write of INTC (R202, R203, R206, R207). -/
def writeIntc (off : Nat) (v setNow : Word) (s : State) : State :=
  if off = 0x2020C then writeDone .h0 v s
  else if off = 0x2024C then writeDone .h1 v s
  else if 0x20120 ≤ off ∧ off < 0x20140 then writeHpendSet (off / 4 % 8) v s
  else if 0x20140 ≤ off ∧ off < 0x20160 then writeHpendClr (off / 4 % 8) v setNow s
  else afterIntc off (writeReg off v setNow s)

/-- A write of CAL_CMD (R312, R313): the command waits for the next tick. (log 50 DESIGN CHOICE, 170 DESIGN CHOICE) -/
def writeCalCmd (v : Word) (s : State) : State :=
  let op := getBits v 0 3
  if op = 0 then s
  else if 5 < op then spoilLong 0x30000 0xFF00 s
  else if flag s calBusy then calAnswer .busy s
  else if (op = 2 ∨ op = 3 ∨ op = 5) ∧ calHost s = false then calAnswer .state s
  else setB calBusy true { s with cal := { s.cal with pend := some op } }

/-- A write of CAL (R313, R317, R318, R325, R328, R332). (log 51 DEDUCED) -/
def writeCal (off : Nat) (v setNow : Word) (s : State) : State :=
  if off = 0x30004 then writeCalCmd v s
  else if off = 0x30040 then (if calHost s then writeReg off v setNow s else s)
  else if off = 0x30044 then
    if calHost s then
      let s := writeReg off v setNow s
      setDisc (flag s ⟨0x30044, 1, 1⟩) s
    else
      let d := getF s ⟨0x30044, 1, 1⟩
      setF ⟨0x30044, 1, 1⟩ d (writeReg off v setNow s)
  else if 0x31000 ≤ off then
    let e := (off - 0x31000) / 0x20
    if 32 ≤ e then s
    else if off % 0x20 = 0x1C then
      let s := if bitOf v 0 then run (execSchedArm .host (Fin.ofNat 64 e) 0) s else s
      if bitOf v 1 then run (execSchedCancel .host (Fin.ofNat 64 e)) s else s
    else if schState s e = 1 then s
    else writeReg off v setNow s
  else writeReg off v setNow s

/-- A write of KEY_CMD (R555, R556). (log 50 DESIGN CHOICE) -/
def writeKeyCmd (v : Word) (s : State) : State :=
  let op := getBits v 0 4
  if op = 0 then s
  else if !ctrlRun s then keyAnswer .state s
  else if 10 < op then spoilLong 0x40000 0xFF00 s
  else if twinDead s .a && twinDead s .b then s
  else captureReq (.keyCmd v (keyWords s) .equal (randomBits s).1) (randomBits s).2

/-- A write of KEY (R556, R558, R561, R565): labels and operands are kept, and read 0. -/
def writeKey (off : Nat) (v setNow : Word) (s : State) : State :=
  if off = 0x40004 then writeKeyCmd v s
  else if off = 0x40000 then
    writeReg off (if flag s keyOpen then v &&& ~~~2 else v) setNow s
  else if 0x40010 ≤ off ∧ off < 0x40060 then setR off v s
  else if off = 0x40100 then
    let bad := decide (v &&& ~~~3 ≠ 0)
    let s := if bitOf v 0 then armLoop .loop0 s else s
    let s := if bitOf v 1 then armLoop .loop1 s else s
    if bad then spoilReg off s else unspoil off s
  else writeReg off v setNow s

/-- What follows a write of DRV_CH_CFG where the channel's lead has been `was` (R237, R239). -/
def afterDrv (was off : Nat) (s : State) : State :=
  let n := (off - 0x100000) / 0x100
  if off % 0x100 = 8 then joinLead was n (followEnable n s) else s

/-- A write of DRV (R227, R237, R245, R251). (log 51 DEDUCED) -/
def writeDrv (off : Nat) (v setNow : Word) (s : State) : State :=
  let n : Fin 64 := Fin.ofNat 64 ((off - 0x100000) / 0x100)
  match off % 0x100 with
  | 0 => run (execDrvChSet n v) s
  | 0x28 =>
    let s := if bitOf v 0 then run (execClear n) s else s
    let s := if bitOf v 1 then run (execPhaseRetry n) s else s
    if bitOf v 2 then run (execProbeNow n) s else s
  | _ => afterDrv (leadOf s n.val) off (writeReg off v setNow s)

/-- What follows a write of CHN_PORT_CFG where ENABLE has been `was` (R266). -/
def afterChn (was : Bool) (off : Nat) (s : State) : State :=
  let k := (off - 0x110000) / 0x1000
  if off % 0x1000 = 0 && chnEnable s k && !was then chnEnableRise k s else s

/-- A write of CHN (R260, R264, R271). (log 51 DEDUCED) -/
def writeChn (off : Nat) (v setNow : Word) (s : State) : State :=
  let k : Fin 4 := Fin.ofNat 4 ((off - 0x110000) / 0x1000)
  let o := off % 0x1000
  if o = 0x10 then
    let s := if bitOf v 0 then run (execReshift k) s else s
    if bitOf v 1 then run (execMeasure k) s else s
  else if 0x800 ≤ o ∧ o % 8 = 4 then run (execChnDrvSet k (Fin.ofNat 128 ((o - 0x800) / 8)) v) s
  else afterChn (chnEnable s k.val) off (writeReg off v setNow s)

/-- A write of MTR (R357, R365). (log 51 DEDUCED) -/
def writeMtr (off : Nat) (v setNow : Word) (s : State) : State :=
  if off = 0x12000C then
    let s := if bitOf v 0 then run execSaveNow s else s
    if bitOf v 1 then run (execZero (Fin.ofNat 128 (getBits v 8 7))) s else s
  else writeReg off v setNow s

/-- What follows a write of RFX_IN_CFG: the fabric takes a presence input's new active level silently (R277), and an analogue input
that is disabled reads 0 (R278). -/
def afterRfx (off : Nat) (s : State) : State :=
  let i := (off - 0x130100) / 4
  if 0x130100 ≤ off ∧ off < 0x130180 then
    { s with rfx := { s.rfx with seen := putBits s.rfx.seen i 1 (b2n (prsActive s i)) } }
  else if 0x130180 ≤ off ∧ off < 0x1301A0 ∧ inEnabled s i = false then setR (0x130200 + 4 * (i - 32)) 0 s
  else s

/-- A write of RFX (R282, R291, R300). -/
def writeRfx (off : Nat) (v setNow : Word) (s : State) : State :=
  let s := wakesFabric off s
  if off = 0x130004 then run (execRfxModeWrite v) s
  else if off = 0x130008 then run (execRfxLockClr false v) s
  else if off = 0x13000C then run (execRfxLockClr true v) s
  else afterRfx off (writeReg off v setNow s)

/-- What follows a write of NET_PORT_CTL: with EN 0 the link is held down (R397). -/
def afterNet (off : Nat) (s : State) : State :=
  let p := (off - 0x200000) / 0x1000
  if off < 0x204000 ∧ off % 0x1000 = 8 ∧ bitOf (getR s off) 0 = false then setLink p false s else s

/-- A write of NET (R374, R375). -/
def writeNet (off : Nat) (v setNow : Word) (s : State) : State :=
  let s := afterNet off (writeReg off v setNow s)
  if off < 0x204000 ∧ off % 0x1000 = 8 ∧ bitOf v 1 = true then
    run (execRestartAn (Fin.ofNat 4 ((off - 0x200000) / 0x1000))) s
  else s

/-- A write of TSU_CMD (R401, R402): the command waits for the next cycle. (log 50 DESIGN CHOICE, 106 DESIGN CHOICE) -/
def writeTsuCmd (v : Word) (s : State) : State :=
  let op := getBits v 0 3
  if !tsuHost s then tsuAnswer .state s
  else if op = 0 then s
  else if 3 < op then spoilLong 0x210014 0xFF00 s
  else if s.tsu.pend.isSome then tsuAnswer .busy s
  else setB tsuBusy true { s with tsu := { s.tsu with pend := some (op, getR s 0x21000C) } }

/-- A write of TSU (R401, R406, R411). -/
def writeTsu (off : Nat) (v setNow : Word) (s : State) : State :=
  if off = 0x210010 then writeTsuCmd v s
  else if off = 0x210034 then run (execTsuSqFree .host (Fin.ofNat 64 (getBits v 0 6))) s
  else if off = 0x210008 ∨ (0x210020 ≤ off ∧ off < 0x21002C) then (if tsuHost s then writeReg off v setNow s else s)
  else if off = 0x21002C then
    (if tsuHost s then run (execTsuAnchorCommit .host none v 0) (writeReg off v setNow s) else s)
  else writeReg off v setNow s

/-- Descriptors in host memory that no command carries: any contents. (log 44 DESIGN CHOICE) -/
def freeDescs : Nat → State → List Desc × State
  | 0, s => ([], s)
  | n + 1, s =>
    let w := fun i => Config.freeWord (s.free + i)
    let d : Desc := ⟨w 0 ++ w 1, (w 2).setWidth 16, (w 2 >>> 16).setWidth 16, w 3 ++ w 4⟩
    let r := freeDescs n { s with free := s.free + 5 }
    (d :: r.1, r.2)

/-- What follows a write of a DMA register (R158, R191). -/
def afterDma (off : Nat) (s : State) : State :=
  if 0x220100 ≤ off then judgeRing ((off - 0x220100) / 0x40) s else if off = 0x220000 then resumeDma s else s

/-- A write of DMA (R179, R189 to R191). (log 44 DESIGN CHOICE) -/
def writeDma (off : Nat) (v setNow : Word) (s : State) : State :=
  let r := (off - 0x220100) / 0x40
  if 0x220100 ≤ off ∧ off % 0x40 = 8 then run (execDmaRingEnable (Fin.ofNat 4 r) v) s
  else if 0x220100 ≤ off ∧ off % 0x40 = 0x10 then
    let n := (getBits v 0 12 + ringSize s r - ringTail s r) % ringSize s r
    let x := freeDescs n s
    run (execDmaTailWrite (Fin.ofNat 4 r) v x.1) x.2
  else afterDma off (writeReg off v setNow s)

/-- What follows a write of AIR_SF_CFG: what R423 and R428 give for the slotframe. -/
def afterAir (off : Nat) (s : State) : State :=
  let r := (off - 0x300000) / 0x1000
  let o := off % 0x1000
  if off < 0x304000 ∧ 0x100 ≤ o ∧ o < 0x180 then
    let h := (o - 0x100) / 0x10
    let on := sfValid s r h
    let rate := getF s ⟨sfReg r h 2, 0, 2⟩
    let s := setF ⟨sfReg r h 2, 16, 11⟩ (if on then maxPsdu r rate (sfSlotUs s r h) else 0) s
    let s := setF ⟨sfReg r h 3, 16, 8⟩ (if on then planChannels r rate (getF s ⟨sfReg r h 2, 2, 1⟩) else 0) s
    setB ⟨airReg r 8, 8 + h, 1⟩ on s
  else s

/-- A word of the cell window is written, until sealing (R148, R452). -/
def setCellWord (off : Nat) (v : Word) (s : State) : State :=
  if isSealed s .air then s
  else
    let i := cellIndex s off
    let c := tabGet (fun _ => 0) s.air.cells i
    let d := v &&& w32 (definedMask off)
    let c := if off % 8 = 0 then c.extractLsb' 32 32 ++ d else d ++ c.extractLsb' 0 32
    { s with air := { s.air with cells := tabSet (fun _ => 0) s.air.cells i c } }

/-- A write of AIR (R448, R452): the cell window shows the page that PAGE names. -/
def writeAir (off : Nat) (v setNow : Word) (s : State) : State :=
  if 0x308000 ≤ off ∧ off < 0x30C000 ∧ off % 0x10 = 4 then
    run (execLeaseEuiWrite (Fin.ofNat 1024 ((off - 0x308000) / 0x10)) v) s
  else if 0x30C000 ≤ off then writeScope off v (setCellWord off v s)
  else if off < 0x304000 ∧ 0x100 ≤ off % 0x1000 ∧ off % 0x1000 < 0x180 ∧ isSealed s .air = true then writeReg off v setNow s
  else afterAir off (writeReg off v setNow s)

/-- A write of TWN (R534, R544). -/
def writeTwn (off : Nat) (v setNow : Word) (s : State) : State :=
  if off = 0x500004 then
    let t : Twin := if bitOf v 2 then .b else .a
    match getBits v 0 2 with
    | 1 => run (execRejoin t) s
    | 2 => run (execForceFail t) s
    | 3 => run execClearHist s
    | _ => s
  else writeReg off v setNow s

/-- R596, R602: a write of a slot's EN begins a new count; APPLIED of a kind that acts continuously reads 0. -/
def newCount (i : Nat) (s : State) : State :=
  let s := if [6, 11, 17].contains (getF s ⟨tstCfg i, 1, 5⟩) then setF ⟨tstCfg i + 12, 0, 16⟩ 0 s else s
  setF ⟨tstCfg i + 12, 16, 1⟩ 0
    { s with tstSeen := tabSet (fun _ => 0) s.tstSeen i 0, tstDone := tabSet (fun _ => 0) s.tstDone i 0 }

/-- A write of TST (R591 to R593, R602). -/
def writeTst (off : Nat) (v setNow : Word) (s : State) : State :=
  if off = 0xF00000 then run (execTstUnlock v) s
  else if !tstUnlocked s then s
  else if off = 0xF00008 then tstCtlWrite v s
  else
    let s := writeReg off v setNow s
    if 0xF00100 ≤ off ∧ off % 0x10 = 0 then newCount ((off - 0xF00100) / 0x10) s else s

/-- A write of a register of a powered block. -/
def writeBlock (b : Block) (off : Nat) (v setNow : Word) (s : State) : State :=
  match b with
  | .sys => writeSys off v setNow s
  | .img => writeImg off v setNow s
  | .intc => writeIntc off v setNow s
  | .cal => writeCal off v setNow s
  | .key => writeKey off v setNow s
  | .upd => writeUpd off v setNow s
  | .drv => writeDrv off v setNow s
  | .chn => writeChn off v setNow s
  | .mtr => writeMtr off v setNow s
  | .rfx => writeRfx off v setNow s
  | .net => writeNet off v setNow s
  | .tsu => writeTsu off v setNow s
  | .dma => writeDma off v setNow s
  | .air => writeAir off v setNow s
  | .hier => hostUlust off v setNow s
  | .pln => hostUlust off v setNow s
  | .twn => writeTwn off v setNow s
  | .tst => writeTst off v setNow s

/-- What follows a change of a register that no command made, by an access of R5. -/
def afterBlock (b : Block) (wasChn : Bool) (lead off : Nat) (s : State) : State :=
  match b with
  | .intc => afterIntc off s
  | .drv => afterDrv lead off s
  | .chn => afterChn wasChn off s
  | .rfx => afterRfx off s
  | .net => afterNet off s
  | .dma => afterDma off s
  | _ => s

/-- R326: a schedule entry as its ACTION and WAKE stand moves a power domain at its release. -/
def movesPower (ctl : Word) : Bool := decide (getBits ctl 0 4 = 3) || decide (getBits ctl 0 4 = 4) || bitOf ctl 5

/-- R20: what the words of a schedule entry may become: an armed entry takes no write, and no entry comes to move a power domain
or moves one at another time. -/
def guardSch (s : State) (off : Nat) (old new : Word) : Word :=
  let e := (off - 0x31000) / 0x20
  if schState s e = 1 ∨ movesPower (getR s (schReg e 0xC)) = true then old
  else if off % 0x20 = 0xC ∧ movesPower new = true then putBits (putBits new 0 4 0) 5 1 0
  else new

/-- R20: what the limits of a channel may become: within the safe-level record's, which is the image's. -/
def guardLimit (s : State) (n : Nat) (new : Word) : Word :=
  let hi := min (getBits new 16 16) (safeLimit s n)
  putBits (putBits new 16 16 hi) 0 16 (min (getBits new 0 16) hi)

/-- R20: what the bits of a register may become where any value could be written: never a power command or a reset of an armed
wake, an alarm that wakes, a schedule entry or a hierarchy command, never a stopped time-stamp count, a reference beyond the
declared limits, or another scale of the metering totals. (log 47 DESIGN CHOICE, 185 DESIGN CHOICE) -/
def guardWord (s : State) (off : Nat) (old new : Word) : Word :=
  if off = 8 then old &&& ~~~0xFF
  else if off = 0xC then putBits new 0 12 (getBits old 0 12)
  else if off = 0x24 then old
  else if 0x201E0 ≤ off ∧ off < 0x20200 then old &&& new
  else if 0x30100 ≤ off ∧ off < 0x30140 then (if bitOf (getR s 8) ((off - 0x30100) / 0x20 + 1) then old else new)
  else if 0x31000 ≤ off ∧ off < 0x31800 then guardSch s off old new
  else if 0x100000 ≤ off ∧ off < 0x104000 ∧ off % 0x100 = 0xC then guardLimit s ((off - 0x100000) / 0x100) new
  else if 0x121000 ≤ off ∧ off < 0x125000 then old
  else if off = 0x400084 then (if getBits new 0 8 = 2 ∨ getBits new 0 8 = 3 then putBits new 0 8 0 else new)
  else if off = 0x400094 ∨ off = 0x400098 then
    (if getF s ⟨0x400084, 0, 8⟩ = 2 ∨ getF s ⟨0x400084, 0, 8⟩ = 3 then old else new)
  else if off = 0x210008 then (if new = 0 then old else new)
  else new

/-- R5: a write that is no aligned 32-bit one leaves the register unpredictable, within R20: the bits that it could have
written hold anything, and it reads back as anything. (log 47 DESIGN CHOICE) -/
def writeFree (off : Nat) (s : State) : State :=
  match blockOf off, regRow? off with
  | some b, some _ =>
    if !blockUp s b || (decide (b = .tst) && !tstUnlocked s) then s
    else
      let key := spoilKey s off
      let t := drawn s
      let t := if 0x30C000 ≤ off ∧ off < 0x310000 then setCellWord off (freeOf s) t
        else
          let was := chnEnable s ((off - 0x110000) / 0x1000)
          let lead := leadOf s ((off - 0x100000) / 0x100)
          let m := w32 (rwMask s off)
          let old := getR s (regHome off)
          afterBlock b was lead off (setR (regHome off) (guardWord s off old ((old &&& ~~~m) ||| (freeOf s &&& m))) t)
      spoil key (readMask off) t
  | _, _ => s

/-- R588: the host has written an item's register of the carrier in this step. -/
def noteItem (off : Nat) (s : State) : State :=
  if (off < 0x400000 ∨ 0x500000 ≤ off) ∧ settingItems.any (fun e => e.2.contains off) = true then
    { s with upd := { s.upd with wrote := off :: s.upd.wrote.filter (fun x => decide (x ≠ off)) } }
  else s

/-- A host write of a word at any offset (R4, R5, R32, R33). (log 50 DESIGN CHOICE) -/
def hostWrite (off : Nat) (v setNow : Word) (s : State) : State :=
  if off % 4 ≠ 0 then writeFree (off / 4 * 4 + 4) (writeFree (off / 4 * 4) s)
  else
    match blockOf off, regRow? off with
    | some b, some _ => if blockUp s b then noteItem off (writeBlock b off v setNow s) else s
    | _, _ => s

end Sys2Proof.Machine
end

