-- ==== Sys2Proof/Machine/Port.lean ====
section
/-! DEFINITION. Host accesses by PCI Express and QSPI, and the function's configuration (R4 to R10, R32 to R34, R156 to R172). -/

namespace Sys2Proof.Machine

/-- R28: a word of firmware's that the control port stores, in the fields that the host could write.
(log 162 DESIGN CHOICE) -/
def controlStore (off : Nat) (v : Word) (s : State) : State := setR off (writtenValue s off v 0) s

/-- R438: the radio tile that compares firmware's words for an AIR register; those of the common registers, radio 0's.
(log 151 DESIGN CHOICE) -/
def airTile (off : Nat) : Nat := if off < 0x304000 then (off - 0x300000) / 0x1000 else 0

/-- R437, R438: firmware's word for an AIR register passes the radio-frame route, which counts a word that differs or comes alone. -/
def airWord (c : Copies) (off : Nat) (v : Word) (s : State) : State :=
  if airOn s && (regRow? off).isSome then
    byPort true c (writeAir off v 0) (if bothInStep s && ctrlRun s then
      (match c with
        | .equal => s
        | .differ => airEvt (airTile off) 5 (bump (airCnt (airTile off) 12) s)
        | .alone _ => bump (airCnt (airTile off) 11) s) else s)
  else s

/-- R28, R313, R317, R325, R199, R154, R575: what firmware writes through the control port, and nothing else.
(log 158 DESIGN CHOICE, 162 DESIGN CHOICE) -/
def controlWrite (off : Nat) (v : Word) (s : State) : State :=
  if off = 0x30040 then (if calHost s then s else controlStore off v s)
  else if off = 0x30044 then (if calHost s then s else setDisc (bitOf v 1) s)
  else if 0x31400 ≤ off ∧ off < 0x31800 ∧ off % 4 = 0 then
    let e := (off - 0x31000) / 0x20
    if off % 0x20 = 0x1C then
      let s := if bitOf v 0 then schArm e s else s
      if bitOf v 1 then setSch e 0 (unhand e s) else s
    else if schState s e = 1 then s
    else controlStore off v s
  else if isSrcCfgReg off && srcDefined ((off - 0x20400) / 4) && decide (off % 4 = 0) then
    (if ctrlOn s then setF ⟨off, 0, 2⟩ (getBits v 0 2) s else s)
  else if 0x201C0 ≤ off ∧ off < 0x201E0 ∧ off % 4 = 0 then (if ctrlOn s then setR off (v &&& w32 (definedMask off)) s else s)
  else if off = 0x10008 ∨ off = 0x10010 ∨ off = 0x50008 ∨ off = 0x50010 then controlStore off v s
  else s

/-- R405: firmware's word for TSU_INCR passes the transmit merge, in firmware's mode (R401). -/
def tsuIncrWord (c : Copies) (v : Word) (s : State) : State :=
  if netOn s && !tsuHost s then tsuWord c (controlStore 0x210008 v) s else s

/-- REGISTER_WRITE (R6 to R8, R10, R28, R405). -/
def execRegisterWrite (writer : Writer) (off : Nat) (v setNow : Word) (s : State) : Host.Outcome State Fault Refusal :=
  .next (match writer with
    | .host route => if routeOpen s route then hostWrite off v setNow s else s
    | .control c =>
      if blockOf off = some .air then airWord c off v s
      else if off = 0x210008 then tsuIncrWord c v s
      else byPort false c (controlWrite off v) s)

/-- R9: the module sets the RC bits of a register in the cycle of the read. (log 150 DESIGN CHOICE) -/
def setInCycle (off : Nat) (now : Option Word) (s : State) : State :=
  match now, blockOf off with
  | some x, some b =>
    if blockUp s b then
      let c := w32 (accMask (fun a => decide (a = .rc)) off)
      setR off ((getR s off &&& ~~~c) ||| (x &&& c)) s
    else s
  | _, _ => s

/-- R202: the lines of kind E that pulse in the cycle of a read of INTC_RAW, each an event (R196).
(log 163 DESIGN CHOICE) -/
def pulses (off : Nat) (now : Option Word) : List Nat :=
  if 0x20100 ≤ off ∧ off < 0x20120 ∧ off % 4 = 0 then
    (sourcesIn ((off - 0x20100) / 4) (now.getD 0)).filter (fun n => !srcLevel n)
  else []

/-- R202: the pulses seen in the word just read. -/
def showPulses (ns : List Nat) (s : State) : State :=
  { s with hostData := s.hostData.map (fun v => ns.foldl (fun m n => m ||| w32 (2 ^ (n % 32))) v) }

/-- RC_READ (R9, R202): the new value is returned and then cleared. (log 163 DESIGN CHOICE) -/
def execRcRead (route : Route) (off : Nat) (now : Option Word) (s : State) : Host.Outcome State Fault Refusal :=
  .next (readBy route (fun s =>
    let ns := if intcUp s then pulses off now else []
    showPulses ns (hostRead off (each ns sourceEvent (setInCycle off now s)))) s)

/-- The words that an access of some length touches. -/
def wordsTouched (off len : Nat) : List Nat :=
  (List.range ((off + len - 1) / 4 - off / 4 + 1)).map (fun i => off / 4 * 4 + 4 * i)

/-- A string of bytes as words, the first byte lowest, the last word filled with zeros. -/
def packWords (bs : List Byte) : List Word := wordsOf ((bs.length + 3) / 4) bs

/-- R160: a read of BAR2 returns the bytes addressed, of the read-source twin's memory. -/
def barRead (off len : Nat) (s : State) : State :=
  let s := { s with hostData := packWords (regionBytes s 0 off len) }
  if hierBad s then { s with free := s.free + 2048 } else s

/-- UNALIGNED_ACCESS: an access of any size and alignment. Of the registers it is unpredictable (R5); of BAR2 a read returns the
bytes addressed, and a write has no effect (R160). (log 46 DEDUCED, 47 DESIGN CHOICE) -/
def execUnalignedAccess (win : Window) (off len : Nat) (isWrite : Bool) (s : State) : Host.Outcome State Fault Refusal :=
  .next (match win with
    | .regs route =>
      if isWrite then (if routeOpen s route then each (wordsTouched off len) writeFree s else s)
      else readBy route (readFree (wordsTouched off len).length) s
    | .bar2 => if isWrite then s else readBy .pcie (barRead off len) s)

/-- UNMAPPED_ACCESS (R32, R33): it reads 0, and writes nothing. -/
def execUnmappedAccess (route : Route) (off : Nat) (isWrite : Bool) (v : Word) (s : State) :
    Host.Outcome State Fault Refusal :=
  .next (if isWrite then (if routeOpen s route then hostWrite off v 0 s else s) else readBy route (hostRead off) s)

/-- What the function presents to a host's configuration reads beside its settings (R156). -/
structure PciIdent where
  vendor       : BitVec 16
  device       : BitVec 16
  revision     : BitVec 8
  classCode    : BitVec 24
  subVendor    : BitVec 16
  subsystem    : BitVec 16
  /-- The link's speed in GT/s and width. -/
  linkSpeed    : Nat
  linkWidth    : Nat
  /-- The maximum payload supported, and the largest read request issued, in bytes. -/
  maxPayload   : Nat
  maxRead      : Nat
  /-- Power states supported: D1, D2 and PME are not; ASPM states: L1 and not L0s. -/
  pme          : Bool
  aspmL0s      : Bool
  aspmL1       : Bool
  interruptPin : Nat
  /-- The vectors MSI can be granted. -/
  msiVectors   : Nat
  /-- The Device Serial Number. -/
  serial       : BitVec 64
  deriving DecidableEq, Repr

/-- R156: the identity of the function. -/
def pciIdent (s : State) : PciIdent :=
  ⟨0x1F5C, 0x6464, Config.revision, 0x118000, 0x1F5C, if s.fitS0 then 2 else 1, 5, 2, 256,
    min 512 (128 * 2 ^ s.port.cfg.maxRead.toNat), false, false, true, 0, 32, Config.serial⟩

/-- PCIE_CONFIG_WRITE (R158, R163, R164): a claim presented to H0 and not taken is sent as an MSI when MSI Enable rises, and
no MSI stays held when it falls; MSIs held pending go once they may, and the rings go on.
(log 5 PRESUMED, 43 DESIGN CHOICE) -/
def execPcieConfigWrite (cfg : PciCfg) (s : State) : Host.Outcome State Fault Refusal :=
  .next (if s.port.link then
    let rose := cfg.msiEnable && !s.port.cfg.msiEnable
    let s := { s with port := { s.port with cfg := cfg, msiPend := if cfg.msiEnable then s.port.msiPend else 0 } }
    let s := match s.intc.h0.claim with
      | some c => if rose then sendMsi c.vec s else s
      | none => s
    resumeDma (sendHeldMsi s)
  else s)

/-- R167 to R169: the words of a read transaction, each a read of its own. (log 49 DESIGN CHOICE) -/
def qspiReads (addr : Nat) : Nat → State → State
  | 0, s => { s with hostData := [] }
  | n + 1, s =>
    let s := readBy .qspi (hostRead addr) s
    let w := s.hostData
    let s := qspiReads (addr + 4) n s
    { s with hostData := w ++ s.hostData }

/-- R170: the words of a write transaction, each applied as its fourth byte arrives. (log 49 DESIGN CHOICE) -/
def qspiWrites (addr : Nat) : List Word → State → State
  | [], s => s
  | v :: vs, s => qspiWrites (addr + 4) vs (hostWrite addr v 0 s)

/-- QSPI_READ (R167 to R169). (log 12 DEDUCED) -/
def execQspiRead (addr words : Nat) (s : State) : Host.Outcome State Fault Refusal := .next (qspiReads addr words s)

/-- QSPI_QREAD (R167): as READ, on four lines. -/
def execQspiQread (addr words : Nat) (s : State) : Host.Outcome State Fault Refusal := .next (qspiReads addr words s)

/-- QSPI_WRITE (R170). (log 12 DEDUCED, 49 DESIGN CHOICE) -/
def execQspiWrite (addr : Nat) (data : List Word) (s : State) : Host.Outcome State Fault Refusal :=
  .next (qspiWrites addr data s)

/-- QSPI_QWRITE (R167): as WRITE, on four lines. -/
def execQspiQwrite (addr : Nat) (data : List Word) (s : State) : Host.Outcome State Fault Refusal :=
  .next (qspiWrites addr data s)

/-- The QSPI status byte (R171); a written word is applied before the next command, so WIP reads 0. -/
def qspiStatusByte (s : State) : Word :=
  w32 (2 * b2n s.port.partialWord + 4 * b2n s.port.badop + 8 * b2n (ctrlOn s))

/-- QSPI_STATUS (R171): PARTIAL and BADOP clear when the byte is read. (log 49 DESIGN CHOICE) -/
def execQspiStatus (s : State) : Host.Outcome State Fault Refusal :=
  .next { s with hostData := [qspiStatusByte s], port := { s.port with partialWord := false, badop := false } }

/-- The opcodes of R167. -/
def qspiOpcodes : List Byte := [0x0B, 0xEB, 0x02, 0x38, 0x05]

/-- QSPI_BADOP (R170): an opcode that the table does not hold. -/
def execQspiBadop (op : Byte) (s : State) : Host.Outcome State Fault Refusal :=
  .next (if op ∈ qspiOpcodes then s else { s with port := { s.port with badop := true } })

/-- QSPI_CS_ABORT (R169 to R171): a written word is discarded; a read cut short has no effect. -/
def execQspiCsAbort (writing : Bool) (s : State) : Host.Outcome State Fault Refusal :=
  .next (if writing then { s with port := { s.port with partialWord := true } } else s)

end Sys2Proof.Machine
end

