-- ==== Sys2Proof/Machine/Dispatch.lean ====
section
/-! DEFINITION. One arm per command: each is one direct call of its meaning. -/

namespace Sys2Proof.Machine

def exec (i : Instr) (s : State) : Host.Outcome State Fault Refusal :=
  match i with
  | .registerWrite writer off v setNow => Sys2Proof.Machine.execRegisterWrite writer off v setNow s
  | .rcRead route off now => Sys2Proof.Machine.execRcRead route off now s
  | .unalignedAccess win off len isWrite => Sys2Proof.Machine.execUnalignedAccess win off len isWrite s
  | .unmappedAccess route off isWrite v => Sys2Proof.Machine.execUnmappedAccess route off isWrite v s
  | .j1Loss => Sys2Proof.Machine.execJ1Loss s
  | .j1Return => Sys2Proof.Machine.execJ1Return s
  | .powerFailTrip chan => Sys2Proof.Machine.execPowerFailTrip chan s
  | .tripRideThrough => Sys2Proof.Machine.execTripRideThrough s
  | .brownOutReset => Sys2Proof.Machine.execBrownOutReset s
  | .powerOn j1Mv j2Mv absent aonCold => Sys2Proof.Machine.execPowerOn j1Mv j2Mv absent aonCold s
  | .holdupMeasure => Sys2Proof.Machine.execHoldupMeasure s
  | .holdupMeasureDone uf => Sys2Proof.Machine.execHoldupMeasureDone uf s
  | .supplyMonitorUpdate j1Mv j2Mv storeMv vbatMv baseT scap => Sys2Proof.Machine.execSupplyMonitorUpdate j1Mv j2Mv storeMv vbatMv baseT scap s
  | .limiterUpdate pOut pIn vBus temp => Sys2Proof.Machine.execLimiterUpdate pOut pIn vBus temp s
  | .powerCommand route v => Sys2Proof.Machine.execPowerCommand route v s
  | .domainChangeDone => Sys2Proof.Machine.execDomainChangeDone s
  | .powerGoodTimeout d => Sys2Proof.Machine.execPowerGoodTimeout d s
  | .wakeFire src => Sys2Proof.Machine.execWakeFire src s
  | .wakeCommandIssue => Sys2Proof.Machine.execWakeCommandIssue s
  | .controllerReset glob => Sys2Proof.Machine.execControllerReset glob s
  | .moduleReset glob => Sys2Proof.Machine.execModuleReset glob s
  | .resetEffect => Sys2Proof.Machine.execResetEffect s
  | .perstAssert => Sys2Proof.Machine.execPerstAssert s
  | .perstRelease => Sys2Proof.Machine.execPerstRelease s
  | .startup upto => Sys2Proof.Machine.execStartup upto s
  | .startStateLive => Sys2Proof.Machine.execStartStateLive s
  | .imgBegin who => Sys2Proof.Machine.execImgBegin who s
  | .imgBeginDone => Sys2Proof.Machine.execImgBeginDone s
  | .imgCommit who => Sys2Proof.Machine.execImgCommit who s
  | .imgAbort who => Sys2Proof.Machine.execImgAbort who s
  | .imgVerify => Sys2Proof.Machine.execImgVerify s
  | .imgVerifyDone => Sys2Proof.Machine.execImgVerifyDone s
  | .imgDiscard => Sys2Proof.Machine.execImgDiscard s
  | .imgStgData v => Sys2Proof.Machine.execImgStgData v s
  | .pcieConfigWrite cfg => Sys2Proof.Machine.execPcieConfigWrite cfg s
  | .qspiRead addr words => Sys2Proof.Machine.execQspiRead addr words s
  | .qspiQread addr words => Sys2Proof.Machine.execQspiQread addr words s
  | .qspiWrite addr data => Sys2Proof.Machine.execQspiWrite addr data s
  | .qspiQwrite addr data => Sys2Proof.Machine.execQspiQwrite addr data s
  | .qspiStatus => Sys2Proof.Machine.execQspiStatus s
  | .qspiBadop op => Sys2Proof.Machine.execQspiBadop op s
  | .qspiCsAbort writing => Sys2Proof.Machine.execQspiCsAbort writing s
  | .dmaTailWrite ring v descs => Sys2Proof.Machine.execDmaTailWrite ring v descs s
  | .dmaRingEnable ring v => Sys2Proof.Machine.execDmaRingEnable ring v s
  | .frxFrame => Sys2Proof.Machine.execFrxFrame s
  | .tlmBlock => Sys2Proof.Machine.execTlmBlock s
  | .ftxFrame data => Sys2Proof.Machine.execFtxFrame data s
  | .dmaWaitExpire ring => Sys2Proof.Machine.execDmaWaitExpire ring s
  | .ftxWaitExpire => Sys2Proof.Machine.execFtxWaitExpire s
  | .blkTransfer data => Sys2Proof.Machine.execBlkTransfer data s
  | .dmaReadError ring abort => Sys2Proof.Machine.execDmaReadError ring abort s
  | .dmaReadTimeout ring => Sys2Proof.Machine.execDmaReadTimeout ring s
  | .hostMerge tlm t item => Sys2Proof.Machine.execHostMerge tlm t item s
  | .hostMergeTimeout tlm => Sys2Proof.Machine.execHostMergeTimeout tlm s
  | .intcSourceEvent n => Sys2Proof.Machine.execIntcSourceEvent n s
  | .intcPresent t idle => Sys2Proof.Machine.execIntcPresent t idle s
  | .intcModExpire t idle => Sys2Proof.Machine.execIntcModExpire t idle s
  | .intcTgtClaim route t => Sys2Proof.Machine.execIntcTgtClaim route t s
  | .intcTgtDone t v => Sys2Proof.Machine.execIntcTgtDone t v s
  | .intcHpendSet k v => Sys2Proof.Machine.execIntcHpendSet k v s
  | .intcHpendClr k v events => Sys2Proof.Machine.execIntcHpendClr k v events s
  | .drvChSet ch v => Sys2Proof.Machine.execDrvChSet ch v s
  | .referenceArrival ch us => Sys2Proof.Machine.execReferenceArrival ch us s
  | .rampEnd ch => Sys2Proof.Machine.execRampEnd ch s
  | .softStartEnd ch => Sys2Proof.Machine.execSoftStartEnd ch s
  | .biasEstablished ch => Sys2Proof.Machine.execBiasEstablished ch s
  | .measWindowEnd ch vMv iCode => Sys2Proof.Machine.execMeasWindowEnd ch vMv iCode s
  | .probeDue ch => Sys2Proof.Machine.execProbeDue ch s
  | .probeNow ch => Sys2Proof.Machine.execProbeNow ch s
  | .probeEnd ch vMv iUa => Sys2Proof.Machine.execProbeEnd ch vMv iUa s
  | .retryDue ch vMv iUa => Sys2Proof.Machine.execRetryDue ch vMv iUa s
  | .clear ch => Sys2Proof.Machine.execClear ch s
  | .phaseRetry ch => Sys2Proof.Machine.execPhaseRetry ch s
  | .phaseFault ch phaseB => Sys2Proof.Machine.execPhaseFault ch phaseB s
  | .pwrClamp ch engaged => Sys2Proof.Machine.execPwrClamp ch engaged s
  | .kyoviLoss die => Sys2Proof.Machine.execKyoviLoss die s
  | .chnDrvSet port pos v => Sys2Proof.Machine.execChnDrvSet port pos v s
  | .chainFrameStart port => Sys2Proof.Machine.execChainFrameStart port s
  | .chainLatch port ret => Sys2Proof.Machine.execChainLatch port ret s
  | .chainRefreshDue port => Sys2Proof.Machine.execChainRefreshDue port s
  | .reshift port => Sys2Proof.Machine.execReshift port s
  | .measure port => Sys2Proof.Machine.execMeasure port s
  | .measureDone port edges => Sys2Proof.Machine.execMeasureDone port edges s
  | .measureNoret port => Sys2Proof.Machine.execMeasureNoret port s
  | .presenceEdge edges => Sys2Proof.Machine.execPresenceEdge edges s
  | .ainStrobe sums => Sys2Proof.Machine.execAinStrobe sums s
  | .fabricTimerExpire timers => Sys2Proof.Machine.execFabricTimerExpire timers s
  | .rfxModeWrite v => Sys2Proof.Machine.execRfxModeWrite v s
  | .rfxLockClr hi v => Sys2Proof.Machine.execRfxLockClr hi v s
  | .fabricClockStop => Sys2Proof.Machine.execFabricClockStop s
  | .mitreTwinReference t item edges => Sys2Proof.Machine.execMitreTwinReference t item edges s
  | .mitreSoloDeadline key => Sys2Proof.Machine.execMitreSoloDeadline key s
  | .calLoadFields who ticks => Sys2Proof.Machine.execCalLoadFields who ticks s
  | .calLoadSec who arg ticks => Sys2Proof.Machine.execCalLoadSec who arg ticks s
  | .calStep who arg ticks => Sys2Proof.Machine.execCalStep who arg ticks s
  | .calFieldStep who arg ticks => Sys2Proof.Machine.execCalFieldStep who arg ticks s
  | .calShift who arg ticks cycles => Sys2Proof.Machine.execCalShift who arg ticks cycles s
  | .calShiftDone => Sys2Proof.Machine.execCalShiftDone s
  | .calSecondBoundary cycles master traceable trim => Sys2Proof.Machine.execCalSecondBoundary cycles master traceable trim s
  | .discHoldoverExpire => Sys2Proof.Machine.execDiscHoldoverExpire s
  | .calShadowRead route reg ticks => Sys2Proof.Machine.execCalShadowRead route reg ticks s
  | .calShadowExpire => Sys2Proof.Machine.execCalShadowExpire s
  | .schedArm who e ticks => Sys2Proof.Machine.execSchedArm who e ticks s
  | .schedCancel who e => Sys2Proof.Machine.execSchedCancel who e s
  | .scheduleRelease ticks => Sys2Proof.Machine.execScheduleRelease ticks s
  | .fineRelease e cycles => Sys2Proof.Machine.execFineRelease e cycles s
  | .meterStep x => Sys2Proof.Machine.execMeterStep x s
  | .meterRetry p upsets => Sys2Proof.Machine.execMeterRetry p upsets s
  | .islandFrame crcOk samples adcFail clip freq => Sys2Proof.Machine.execIslandFrame crcOk samples adcFail clip freq s
  | .s0Pulse j => Sys2Proof.Machine.execS0Pulse j s
  | .meterSaveStart kind => Sys2Proof.Machine.execMeterSaveStart kind s
  | .meterSaveDone => Sys2Proof.Machine.execMeterSaveDone s
  | .saveNow => Sys2Proof.Machine.execSaveNow s
  | .zero p => Sys2Proof.Machine.execZero p s
  | .pulseStep => Sys2Proof.Machine.execPulseStep s
  | .pulseWidthExpire k => Sys2Proof.Machine.execPulseWidthExpire k s
  | .totalsLatchRead route p => Sys2Proof.Machine.execTotalsLatchRead route p s
  | .ringFrameReceive p f cycles => Sys2Proof.Machine.execRingFrameReceive p f cycles s
  | .edgeFrameReceive p f cycles => Sys2Proof.Machine.execEdgeFrameReceive p f cycles s
  | .pauseFrame p quanta opcode toModule us => Sys2Proof.Machine.execPauseFrame p quanta opcode toModule us s
  | .pauseExpire p us => Sys2Proof.Machine.execPauseExpire p us s
  | .deathwatchBreak p us => Sys2Proof.Machine.execDeathwatchBreak p us s
  | .holdoffExpire p => Sys2Proof.Machine.execHoldoffExpire p s
  | .linkChange p up anDone sfpPresent sfpLos sfpTxFault => Sys2Proof.Machine.execLinkChange p up anDone sfpPresent sfpLos sfpTxFault s
  | .restartAn p => Sys2Proof.Machine.execRestartAn p s
  | .mergeBlock t head bytes last => Sys2Proof.Machine.execMergeBlock t head bytes last s
  | .mergeSolo => Sys2Proof.Machine.execMergeSolo s
  | .txFrameStart p => Sys2Proof.Machine.execTxFrameStart p s
  | .txUnderrun p => Sys2Proof.Machine.execTxUnderrun p s
  | .windowEntryAge origin stream => Sys2Proof.Machine.execWindowEntryAge origin stream s
  | .tsuStep who adj cycles => Sys2Proof.Machine.execTsuStep who adj cycles s
  | .tsuSlew who adj cycles => Sys2Proof.Machine.execTsuSlew who adj cycles s
  | .tsuLoad who adj cycles => Sys2Proof.Machine.execTsuLoad who adj cycles s
  | .tsuSlewDone => Sys2Proof.Machine.execTsuSlewDone s
  | .tsuAnchorCommit who fw v cycles => Sys2Proof.Machine.execTsuAnchorCommit who fw v cycles s
  | .anchorExpire cycles => Sys2Proof.Machine.execAnchorExpire cycles s
  | .txStamp port cycles => Sys2Proof.Machine.execTxStamp port cycles s
  | .tsuSqFree who e => Sys2Proof.Machine.execTsuSqFree who e s
  | .launch p queue cycles held => Sys2Proof.Machine.execLaunch p queue cycles held s
  | .timeslotStart r asn acked => Sys2Proof.Machine.execTimeslotStart r asn acked s
  | .beaconReceive r pan asn offset => Sys2Proof.Machine.execBeaconReceive r pan asn offset s
  | .beaconMissed r => Sys2Proof.Machine.execBeaconMissed r s
  | .keepaliveMiss r slot => Sys2Proof.Machine.execKeepaliveMiss r slot s
  | .searchChannelHop r => Sys2Proof.Machine.execSearchChannelHop r s
  | .radioTxCopy r t f => Sys2Proof.Machine.execRadioTxCopy r t f s
  | .radioCopyTimeout r => Sys2Proof.Machine.execRadioCopyTimeout r s
  | .joinReq rx caps nonceG => Sys2Proof.Machine.execJoinReq rx caps nonceG s
  | .joinConf rx nonceM => Sys2Proof.Machine.execJoinConf rx nonceM s
  | .renew rx => Sys2Proof.Machine.execRenew rx s
  | .keepalive rx status => Sys2Proof.Machine.execKeepalive rx status s
  | .leave rx reason => Sys2Proof.Machine.execLeave rx reason s
  | .queradData rx m => Sys2Proof.Machine.execQueradData rx m s
  | .relay rx finalDst origSrc hops inner => Sys2Proof.Machine.execRelay rx finalDst origSrc hops inner s
  | .leaseEuiWrite slot v => Sys2Proof.Machine.execLeaseEuiWrite slot v s
  | .joinWaitExpire slot => Sys2Proof.Machine.execJoinWaitExpire slot s
  | .leaseSilent slot => Sys2Proof.Machine.execLeaseSilent slot s
  | .leaseExpire slot => Sys2Proof.Machine.execLeaseExpire slot s
  | .frameCounterExhaust => Sys2Proof.Machine.execFrameCounterExhaust s
  | .airAsnRead route r => Sys2Proof.Machine.execAirAsnRead route r s
  | .helloPeriod => Sys2Proof.Machine.execHelloPeriod s
  | .hello h srcMac epochOwn epochRoot window mtu helloMs => Sys2Proof.Machine.execHello h srcMac epochOwn epochRoot window mtu helloMs s
  | .announcePeriod => Sys2Proof.Machine.execAnnouncePeriod s
  | .announce h imgSeq sent first sld ctrlRun => Sys2Proof.Machine.execAnnounce h imgSeq sent first sld ctrlRun s
  | .parentLost => Sys2Proof.Machine.execParentLost s
  | .childLost idx => Sys2Proof.Machine.execChildLost idx s
  | .credit h limits => Sys2Proof.Machine.execCredit h limits s
  | .level h code rampMs log => Sys2Proof.Machine.execLevel h code rampMs log s
  | .power h stateWord => Sys2Proof.Machine.execPower h stateWord s
  | .reset h kind => Sys2Proof.Machine.execReset h kind s
  | .snapshot h snapId => Sys2Proof.Machine.execSnapshot h snapId s
  | .collect h snapId => Sys2Proof.Machine.execCollect h snapId s
  | .cancel h targetId => Sys2Proof.Machine.execCancel h targetId s
  | .ack h body => Sys2Proof.Machine.execAck h body s
  | .ackWaitExpire issuer epoch cmdId => Sys2Proof.Machine.execAckWaitExpire issuer epoch cmdId s
  | .telem h sent frameLen block => Sys2Proof.Machine.execTelem h sent frameLen block s
  | .snapdata h snapId firstEpa notrace last sent frameLen summaries => Sys2Proof.Machine.execSnapdata h snapId firstEpa notrace last sent frameLen summaries s
  | .barrier h => Sys2Proof.Machine.execBarrier h s
  | .arrive h modules missing => Sys2Proof.Machine.execArrive h modules missing s
  | .barrierWaitExpire issuer epoch cmdId => Sys2Proof.Machine.execBarrierWaitExpire issuer epoch cmdId s
  | .xferBegin h target len => Sys2Proof.Machine.execXferBegin h target len s
  | .xferData h target offset data => Sys2Proof.Machine.execXferData h target offset data s
  | .xferCommit h target len => Sys2Proof.Machine.execXferCommit h target len s
  | .xferAbort h target => Sys2Proof.Machine.execXferAbort h target s
  | .wake h => Sys2Proof.Machine.execWake h s
  | .hierMbGo => Sys2Proof.Machine.execHierMbGo s
  | .hierResFree v => Sys2Proof.Machine.execHierResFree v s
  | .collectWaitExpire => Sys2Proof.Machine.execCollectWaitExpire s
  | .planeSample => Sys2Proof.Machine.execPlaneSample s
  | .blockClose cls => Sys2Proof.Machine.execBlockClose cls s
  | .summaryRound => Sys2Proof.Machine.execSummaryRound s
  | .planeStart => Sys2Proof.Machine.execPlaneStart s
  | .splitterStep interp cycles => Sys2Proof.Machine.execSplitterStep interp cycles s
  | .stepDigest t step digest => Sys2Proof.Machine.execStepDigest t step digest s
  | .digestLate t second => Sys2Proof.Machine.execDigestLate t second s
  | .proofEnd => Sys2Proof.Machine.execProofEnd s
  | .twinFault t kind => Sys2Proof.Machine.execTwinFault t kind s
  | .borerFinding f => Sys2Proof.Machine.execBorerFinding f s
  | .rejoin t => Sys2Proof.Machine.execRejoin t s
  | .rejoinConverge => Sys2Proof.Machine.execRejoinConverge s
  | .forceFail t => Sys2Proof.Machine.execForceFail t s
  | .clearHist => Sys2Proof.Machine.execClearHist s
  | .healthRead route => Sys2Proof.Machine.execHealthRead route s
  | .twnStepRead route => Sys2Proof.Machine.execTwnStepRead route s
  | .genRoot who a random => Sys2Proof.Machine.execGenRoot who a random s
  | .derive who a => Sys2Proof.Machine.execDerive who a s
  | .importKey who a => Sys2Proof.Machine.execImportKey who a s
  | .destroy who a => Sys2Proof.Machine.execDestroy who a s
  | .sign who a => Sys2Proof.Machine.execSign who a s
  | .pubkey who a => Sys2Proof.Machine.execPubkey who a s
  | .load who a dst => Sys2Proof.Machine.execLoad who a dst s
  | .disarm who => Sys2Proof.Machine.execDisarm who s
  | .debugChal who random => Sys2Proof.Machine.execDebugChal who random s
  | .debugOpen who => Sys2Proof.Machine.execDebugOpen who s
  | .keyOpDone c => Sys2Proof.Machine.execKeyOpDone c s
  | .tamperTrip src => Sys2Proof.Machine.execTamperTrip src s
  | .updBegin who => Sys2Proof.Machine.execUpdBegin who s
  | .updCommit who => Sys2Proof.Machine.execUpdCommit who s
  | .updAbort who => Sys2Proof.Machine.execUpdAbort who s
  | .updDiscard => Sys2Proof.Machine.execUpdDiscard s
  | .updStgData v => Sys2Proof.Machine.execUpdStgData v s
  | .saveSettings => Sys2Proof.Machine.execSaveSettings s
  | .defaults => Sys2Proof.Machine.execDefaults s
  | .recoverNext => Sys2Proof.Machine.execRecoverNext s
  | .trialTimeout => Sys2Proof.Machine.execTrialTimeout s
  | .rcvHelloPeriod => Sys2Proof.Machine.execRcvHelloPeriod s
  | .rcvHello q => Sys2Proof.Machine.execRcvHello q s
  | .rcvBegin q => Sys2Proof.Machine.execRcvBegin q s
  | .rcvData q => Sys2Proof.Machine.execRcvData q s
  | .rcvCommit q => Sys2Proof.Machine.execRcvCommit q s
  | .rcvAbort q => Sys2Proof.Machine.execRcvAbort q s
  | .rcvBoot q => Sys2Proof.Machine.execRcvBoot q s
  | .rcvSessionTimeout => Sys2Proof.Machine.execRcvSessionTimeout s
  | .tstUnlock v => Sys2Proof.Machine.execTstUnlock v s
  | .tstUnlockTimeout => Sys2Proof.Machine.execTstUnlockTimeout s
  | .tstLock => Sys2Proof.Machine.execTstLock s
  | .tstLeaseWrite v => Sys2Proof.Machine.execTstLeaseWrite v s
  | .tstLeaseExpire => Sys2Proof.Machine.execTstLeaseExpire s
  | .tamperSourceClose src => Sys2Proof.Machine.execTamperSourceClose src s
  | .fineHandoff e => Sys2Proof.Machine.execFineHandoff e s
  | .updBeginDone => Sys2Proof.Machine.execUpdBeginDone s
  | .settingsSaveDone c => Sys2Proof.Machine.execSettingsSaveDone c s
  | .txFrameEnd p => Sys2Proof.Machine.execTxFrameEnd p s

end Sys2Proof.Machine
end

