-- ==== Sys2Proof/Machine/Step.lean ====
section
/-! DEFINITION. The step: the command at the front of the queue is carried out on the state with the queue's rest; with no
command the block idles. -/

namespace Sys2Proof.Machine

/-- The state with its queue replaced. (log 3 DESIGN CHOICE, 150 DESIGN CHOICE) -/
def State.withPending (s : State) (q : List Instr) : State := { s with pending := q }

/-- One step of the block. (log 7 DESIGN CHOICE, 150 DESIGN CHOICE) -/
def step (s : State) : Host.Outcome State Fault Refusal :=
  match s.pending with
  | [] => .next s
  | c :: rest => exec c (s.withPending rest)

/-- No row of the table gives bits, so no word spells a command: the state is unchanged.
(log 3 DESIGN CHOICE, 149 DESIGN CHOICE) -/
def State.withFetchWord (s : State) (_nbits _w : Nat) : State := s

end Sys2Proof.Machine
end

