-- ==== Sys2Proof/WellFormed.lean ====
section
/-! DEFINITION. Which commands are well formed: the bounds that the spec gives their operands. A command that is not well
formed spells nothing that can reach the module; it is still answered by `exec`, since the module checks little (R18). -/

namespace Sys2Proof

/-- An offset within BAR0 (R159), aligned (R4). -/
def offsetOk (off : Nat) : Bool := decide (off < 0x1000000) && decide (off % 4 = 0)

/-- A frame's length is that of its bytes at least (R377). -/
def frameOk (f : EthFrame) : Bool := decide (18 ≤ f.len) && decide (f.payload.length < f.len)

/-- Four instants of 64 channels (R336). -/
def meterOk (x : MeterStep) : Bool := decide (x.chan.length = 4) && x.chan.all (fun k => decide (k.length = 64))

/-- A recovery request carries at most a frame's data, and fields of their widths (R582). -/
def rcvOk (q : RcvReq) : Bool :=
  decide (q.data.length ≤ 1484) && decide (q.len < 65536) && decide (q.offset < 2 ^ 32) && decide (q.total < 2 ^ 32)

/-- A sender's slot (R440). -/
def radioOk (rx : RadioRx) : Bool := match rx.src with | .slot n => decide (n < 1024) | .eui _ => true

/-- The bounds of a command's operands. -/
def Instr.wf : Instr → Bool
  | .registerWrite _ off _ _ => offsetOk off
  | .rcRead _ off _ => offsetOk off
  | .unalignedAccess (.regs _) off len _ => decide (off + len ≤ 0x1000000) && decide (0 < len) && !(decide (off % 4 = 0) && decide (len = 4))
  | .unalignedAccess .bar2 off len _ => decide (off + len ≤ 0x10000000) && decide (0 < len)
  | .unmappedAccess _ off _ _ => offsetOk off
  | .limiterUpdate _ _ vBus _ => decide (vBus < 65536)
  | .startup upto => decide (upto ≠ .aon)
  | .qspiRead addr words => decide (addr < 0x1000000) && decide (0 < words)
  | .qspiQread addr words => decide (addr < 0x1000000) && decide (0 < words)
  | .qspiWrite addr data => decide (addr < 0x1000000) && decide (data ≠ [])
  | .qspiQwrite addr data => decide (addr < 0x1000000) && decide (data ≠ [])
  | .qspiBadop op => decide (op ≠ 0x0B) && decide (op ≠ 0xEB) && decide (op ≠ 0x02) && decide (op ≠ 0x38) && decide (op ≠ 0x05)
  | .dmaTailWrite _ _ descs => decide (descs.length < 4096)
  | .ftxFrame data => data.all (fun b => decide (b.length ≤ 65536))
  | .blkTransfer data => decide (data.length ≤ 65536)
  | .referenceArrival _ us => decide (us.length = 8)
  | .measWindowEnd _ _ iCode => decide (iCode < 65536)
  | .chainLatch _ ret => decide (ret.length ≤ 6144)
  | .measureDone _ edges => decide (0 < edges) && decide (edges ≤ 8192)
  | .ainStrobe sums => decide (sums.length = 8) && sums.all (fun x => decide (x ≤ 704000))
  | .meterStep x => meterOk x
  | .powerFailTrip chan => decide (chan.length ≤ 4) && chan.all (fun k => decide (k.length = 64))
  | .islandFrame _ samples _ _ _ => decide (samples.length = 12)
  | .ringFrameReceive _ f _ => frameOk f
  | .edgeFrameReceive _ f _ => frameOk f
  | .mergeBlock _ head bytes _ => decide (bytes ≠ []) && decide (bytes.length ≤ 256) && decide (bytes.length ≤ head.len) && decide (head.len ≤ 9216)
  | .joinReq rx _ _ => radioOk rx
  | .joinConf rx _ => radioOk rx
  | .renew rx => radioOk rx
  | .keepalive rx _ => radioOk rx
  | .leave rx _ => radioOk rx
  | .queradData rx m => radioOk rx && (match m with
      | .data _ => true
      | .unknown q _ => !([1, 2, 3, 4, 5, 6, 7, 0x10, 0x20] : List Byte).contains q)
  | .relay rx _ _ _ _ => radioOk rx
  | .credit _ limits => decide (limits.length ≤ 36)
  | .ack _ body => decide (body.counts.length = 8)
  | .snapdata _ _ _ _ _ _ _ sums => decide (sums.length ≤ 117)
  | .xferData _ _ _ data => decide (data ≠ [])
  | .rcvHello q => rcvOk q
  | .rcvBegin q => rcvOk q
  | .rcvData q => rcvOk q
  | .rcvCommit q => rcvOk q
  | .rcvAbort q => rcvOk q
  | .rcvBoot q => rcvOk q
  | _ => true

end Sys2Proof
end

