-- ==== Sys2Proof/Safety.lean ====
section
/-! DEFINITION. What counts as a safe run: every command that waits is well formed, every sparse table keeps its canonical
form, and a step answers a next state. -/

namespace Sys2Proof.Machine

/-- The registers and the unpredictable bits are held in canonical form. -/
def State.regsWf (s : State) : Bool := tabWf regReset s.regs && tabWf (fun _ => 0) s.unpred

/-- A step of the state answers a next state. -/
def State.goesOn (s : State) : Prop := ∃ t, step s = .next t

/-- The command is carried out: it answers a next state, and the condition holds of that state. -/
def Completes (c : Instr) (s : State) (q : State → Prop) : Prop := ∃ t, exec c s = .next t ∧ q t

/-- The RC bits of a register (R9). -/
def rcMask (off : Nat) : Word := w32 (accMask (fun a => decide (a = .rc)) off)

/-- The registers whose read has an effect of its own: the claims (R206), the calendar's shadow (R311), the latched totals (R370),
the ASN (R424), the step number and the health report (R544). -/
def readActs (off : Nat) : Bool :=
  decide (off = 0x20208) || decide (off = 0x20248) || shadowRegs.contains off ||
    (decide (0x121000 ≤ off) && decide (off < 0x125000) && decide (off % 0x80 = 0x10)) ||
    (decide (0x300000 ≤ off) && decide (off < 0x304000) && decide (off % 0x1000 = 0xC)) ||
    decide (off = 0x50000C) || decide (off = 0x500100)

/-- A write of the register stores, and has no other effect (R6 to R8, R10): no row of the table and no other rule gives the write one,
and the rules that shut the host out of it (R313, R325, R401, R591) do not hold. -/
def storesOnly (s : State) (off : Nat) : Bool :=
  match blockOf off with
  | some .sys => decide (off ≠ 0) && decide (off ≠ 0x14)
  | some .img => decide (off ≠ 0x10000) && decide (off ≠ 0x1000C)
  | some .upd => decide (off ≠ 0x50000) && decide (off ≠ 0x5000C)
  | some .intc => !(decide (0x20120 ≤ off) && decide (off < 0x20160)) && decide (off ≠ 0x2020C) && decide (off ≠ 0x2024C)
  | some .cal =>
    if off < 0x31000 then decide (off ≠ 0x30004) && decide (off ≠ 0x30044) && (decide (off ≠ 0x30040) || calHost s)
    else decide (off < 0x31400) && decide (off % 0x20 ≠ 0x1C) && decide (schState s ((off - 0x31000) / 0x20) ≠ 1)
  | some .key => decide (0x40080 ≤ off) && decide (off ≠ 0x40100)
  | some .drv => !([0, 8, 0x28] : List Nat).contains (off % 0x100)
  | some .chn => !([0, 0x10] : List Nat).contains (off % 0x1000) && !(decide (0x800 ≤ off % 0x1000) && decide (off % 8 = 4))
  | some .mtr => decide (off ≠ 0x12000C)
  | some .net => decide (0x204000 ≤ off) || decide (off % 0x1000 ≠ 8)
  | some .tsu =>
    decide (off ≠ 0x210010) && decide (off ≠ 0x210034) && decide (off ≠ 0x21002C) &&
      (tsuHost s || !(decide (off = 0x210008) || (decide (0x210020 ≤ off) && decide (off < 0x21002C))))
  | some .air =>
    (decide (off < 0x304000) && !(decide (0x100 ≤ off % 0x1000) && decide (off % 0x1000 < 0x180))) ||
      (decide (0x304000 ≤ off) && decide (off < 0x30C000) && !(decide (0x308000 ≤ off) && decide (off % 0x10 = 4)))
  | some .twn => decide (off ≠ 0x500004)
  | some .tst => tstUnlocked s && decide (0xF00100 ≤ off) && decide (off % 0x10 ≠ 0)
  | _ => false

/-- R300: the same of a register of the fabric, where a write starts the clock besides. -/
def storesFabric (off : Nat) : Bool :=
  decide (off = 0x130010) || decide (off = 0x130014) || (decide (0x130500 ≤ off) && decide (off < 0x140000))

/-- The blocks in which the write of a register's bits by an access of R5 has nothing that follows it. -/
def quietBlock (off : Nat) : Bool :=
  match blockOf off with
  | some .sys | some .img | some .upd | some .cal | some .key | some .mtr | some .tsu | some .air | some .hier | some .pln
  | some .twn | some .tst | none => true
  | _ => false

/-- A word of this issuer acts at its port: the host's; firmware's where both twins issue it equal, or the one twin whose copies count
issues it (R28, R405, R533), in RUN. -/
def issued (s : State) : Issuer → Bool
  | .host => true
  | .firmware .equal => ctrlRun s && (soleTwin s).isSome
  | .firmware (.alone t) => ctrlRun s && !bothInStep s && decide (soleTwin s = some t)
  | .firmware .differ => false

/-- A key operation of this issuer acts at the key port (R527, R555): the host's, as the twins issue it from READY on, or firmware's. -/
def keyIssued (s : State) : KeyIssuer → Bool
  | .host c => atReady s && issued s (.firmware c)
  | .firmware c => issued s (.firmware c)

/-- An operation whose result is a signature (R556). -/
def signs : KeyAct → Bool
  | .sign _ => true
  | _ => false

/-- A word of this issuer passes the transmit merge to the time-stamp unit, which it owns (R401, R405): firmware's also where the twins'
copies differ, or where one of two live twins alone issues it. -/
def tsuIssued (s : State) : Issuer → Bool
  | .host => tsuHost s
  | .firmware (.alone t) => !tsuHost s && ctrlRun s && (bothInStep s || decide (soleTwin s = some t))
  | .firmware _ => !tsuHost s && ctrlRun s && (soleTwin s).isSome

/-- The issuer owns the calendar, or the command needs no owner (R313). -/
def calOwner (s : State) (owned : Bool) : Issuer → Bool
  | .host => !owned || calHost s
  | .firmware _ => !calHost s

/-- The half of the schedule table that an issuer commands (R325). -/
def schHalf (e : Nat) : Issuer → Bool
  | .host => decide (e < 32)
  | .firmware _ => decide (32 ≤ e)

/-- A radio takes in a frame of lease entry `e` that is verified and newer than the last (R433, R443), while the twins run
(CTRL is RUN) and TST is locked. -/
def radioAccepts (rx : RadioRx) (e : Nat) (s : State) : Prop :=
  airOn s = true ∧ flag s ⟨airReg rx.radio.val 0, 0, 1⟩ = true ∧ radioBad s rx.radio.val = false ∧ (radioOf s rx.radio.val).rx = true ∧
  inRxWindow s rx.radio.val (flag s (leaseSearch e)) rx.off = true ∧ slotOf s rx.src = some e ∧ e < 1024 ∧ rx.micOk = true ∧
  (getR s (leaseReg e 3)).toNat < rx.fc.toNat ∧ ctrlRun s = true ∧ tstUnlocked s = false

/-- A hierarchy frame reaches the twins with an epoch that is not stale, and selects this module (R463, R465). -/
def hierAccepts (h : HierHdr) (s : State) : Prop :=
  hierUp s = true ∧ (∀ e, heldEpoch s h.issuer = some e → (h.epoch - e).toNat < 128) ∧ selected s h = true

/-- A command frame that reaches the twins has something to act on: a sealed image, and its record or its group (R464, R465). -/
def hierActs (h : HierHdr) (s : State) : Prop :=
  hierAccepts h s ∧ imgSealed s = true ∧ (h.scope = 0 → recAssigned s (epaRecord h.epa) = true) ∧
  (h.scope = 2 → ∃ r ∈ assigned s, recGroup s r = getBits h.epa 0 16)

/-- The commands of one channel (R227, R236 to R251). -/
def channelCommands (ch : Fin 64) (v i : Nat) (w : Word) (b : Bool) : List Instr :=
  [.drvChSet ch w, .rampEnd ch, .softStartEnd ch, .biasEstablished ch, .measWindowEnd ch v i, .probeDue ch, .probeNow ch,
   .probeEnd ch v i, .retryDue ch v i, .clear ch, .phaseRetry ch, .phaseFault ch b, .pwrClamp ch b]

/-- No first copy waits at any route that compares (R526, R527). -/
def routesIdle (s : State) : Prop :=
  s.twn.copies = [] ∧ s.port.mergeFrx = [] ∧ s.port.mergeTlm = [] ∧ (∀ r, (radioOf s r).copies = []) ∧ s.net.merge = {}

/-- R350: the residues beside the kept totals and sums agree with the values. -/
def residuesAgree (s : State) : Bool :=
  s.mtr.pts.all (fun e => residueOk e.2) && s.mtr.second.all (fun e => secondOk e.2)

/-- A state from which the next step is taken: its tables are canonical and its commands are well formed. -/
def State.safe (s : State) : Prop := s.regsWf = true ∧ s.pending.all Instr.wf = true

end Sys2Proof.Machine
end

