-- ==== Sys2Proof/Certificates/Slice0/Obligations.lean ====
section
/-! DEFINITION. The statements for the provers. A statement of a command says where it completes, what the next state holds,
and what it leaves alone. -/

open Sys2Proof Sys2Proof.Machine

/-! ### The queue and the step -/

/-- Every command at the front of the queue is carried out on the state with the queue's rest. The model's choice (log 7):
with no command waiting the block idles. -/
def Obligations.StepRunsCommand : Prop :=
  (∀ (c : Instr) (q : List Instr) (s : State), step (s.withPending (c :: q)) = exec c (s.withPending q)) ∧
  (∀ (s : State), s.pending = [] → step s = .next s)

/-- No command stops, and none touches the queue: every command of the table answers a next state from every state. -/
def Obligations.EveryCommandAnswers : Prop :=
  ∀ (c : Instr) (s : State), Completes c s fun t => t.pending = s.pending

/-- The invariant: the register table and the table of unpredictable bits keep their canonical form (keys strictly rising, no
entry equal to what an unlisted offset reads as), and a step takes exactly the command at the front of the queue. -/
def Obligations.StepKeepsTables : Prop :=
  ∀ (s t : State), s.regsWf = true → step s = .next t → t.regsWf = true ∧ t.pending = s.pending.tail

/-- Right after reset both tables are canonical, no command waits, and nothing has been sent out. R6, R108: after a power-on
reset every register holds the reset value of its table, but SYS_RST_CAUSE, which records the power-on reset in bit 0; CTRL
reads RUN and every other domain OFF (R90). That State.reset is this instant is the choice of the model (log 3). -/
def Obligations.ResetState : Prop :=
  (State.reset.regsWf = true ∧ State.reset.pending = [] ∧ State.reset.out = []) ∧
  ((∀ off, off ≠ 0x18 → getR State.reset off = regReset off) ∧ getR State.reset 0x18 = 1 ∧ ctrl State.reset = .run ∧
  domState State.reset .net = 0 ∧ domState State.reset .air = 0 ∧ domState State.reset .drive = 0 ∧
  domState State.reset .mtr = 0 ∧ domState State.reset .fab = 0)

/-! ### Host accesses -/

/-- R6 to R8, R10: a write of a register by an open route, where the write does nothing but store, gives the register the
value of its access codes, and leaves every other register alone; in the fabric it also starts the clock. R10: where a host
write clears a W1C bit of SYS_WAKE_STAT in the cycle in which the module asserts it, the bit is 1. R35, R101: in RUN after
READY a write of a HIER or PLN register is captured for both twins. R28: a word of firmware's that both twins issue equal
reaches the control port, where CORE of a defined source takes it. -/
def Obligations.RegisterWriteCompletes : Prop :=
  (∀ (r : Route) (off : Nat) (v now : Word) (s : State), routeOpen s r = true → off % 4 = 0 → (regRow? off).isSome = true →
    ∀ b, blockOf off = some b → blockUp s b = true →
    (storesOnly s off = true → Completes (.registerWrite (.host r) off v now) s fun t =>
      getR t (regHome off) = writtenValue s off v now ∧ (∀ o, o ≠ regHome off → getR t o = getR s o) ∧
      t.hostData = s.hostData) ∧
    (b = .rfx → storesFabric off = true → Completes (.registerWrite (.host r) off v now) s fun t =>
      getR t off = writtenValue s off v now ∧ flag t clkRun = true ∧
      (∀ o, o ≠ off → o ≠ 0x130000 → getR t o = getR s o)) ∧
    (b = .hier ∨ b = .pln → ctrlRun s = true → atReady s = true → (twinDead s .a && twinDead s .b) = false →
      Completes (.registerWrite (.host r) off v now) s fun t =>
        t = { s with twn := { s.twn with inbox := s.twn.inbox ++ [.hostReg off v now] } })) ∧
  (∀ (r : Route) (v now : Word) (s : State), routeOpen s r = true → Completes (.registerWrite (.host r) 0x10 v now) s fun t =>
    getR t 0x10 &&& (now &&& 0xFF) = now &&& 0xFF ∧ getR t 0x10 &&& ~~~(now &&& 0xFF) = getR s 0x10 &&& ~~~(v &&& 0xFF) &&& ~~~(now &&& 0xFF)) ∧
  (∀ (n : Fin 256) (v now : Word) (s : State), ctrlRun s = true → bothInStep s = true → srcDefined n.val = true →
    Completes (.registerWrite (.control .equal) (0x20400 + 4 * n.val) v now) s fun t =>
      srcCore t n.val = v.toNat % 4 ∧ srcHost t n.val = srcHost s n.val ∧
      ∀ o, o ≠ 0x20400 + 4 * n.val → getR t o = getR s o)

/-- R4, R6: a write of a register to which a row of the table gives a command carries out that command. -/
def Obligations.WritesAreCommands : Prop :=
  ∀ (r : Route) (v now : Word) (s : State), routeOpen s r = true →
    (exec (.registerWrite (.host r) 0 v now) s = exec (.powerCommand r v) s) ∧
    (getBits v 0 2 = 1 → exec (.registerWrite (.host r) 0x14 v now) s = exec (.controllerReset false) s) ∧
    (getBits v 0 2 = 2 → exec (.registerWrite (.host r) 0x14 v now) s = exec (.moduleReset false) s) ∧
    (ctrlOn s = true →
      (getBits v 0 3 = 1 → exec (.registerWrite (.host r) 0x10000 v now) s = exec (.imgBegin .host) s ∧
        exec (.registerWrite (.host r) 0x50000 v now) s = exec (.updBegin .host) s) ∧
      (getBits v 0 3 = 2 → exec (.registerWrite (.host r) 0x10000 v now) s = exec (.imgCommit .host) s ∧
        exec (.registerWrite (.host r) 0x50000 v now) s = exec (.updCommit .host) s) ∧
      (getBits v 0 3 = 3 → exec (.registerWrite (.host r) 0x10000 v now) s = exec (.imgAbort .host) s ∧
        exec (.registerWrite (.host r) 0x50000 v now) s = exec (.updAbort .host) s) ∧
      (getBits v 0 3 = 4 → exec (.registerWrite (.host r) 0x10000 v now) s = exec .imgVerify s ∧
        exec (.registerWrite (.host r) 0x50000 v now) s = exec .updDiscard s) ∧
      (getBits v 0 3 = 5 → exec (.registerWrite (.host r) 0x10000 v now) s = exec .imgDiscard s ∧
        exec (.registerWrite (.host r) 0x50000 v now) s = exec .saveSettings s) ∧
      (getBits v 0 3 = 6 → exec (.registerWrite (.host r) 0x50000 v now) s = exec .defaults s) ∧
      (getBits v 0 3 = 7 → exec (.registerWrite (.host r) 0x50000 v now) s = exec .recoverNext s) ∧
      (exec (.registerWrite (.host r) 0x1000C v now) s = exec (.imgStgData v) s) ∧
      (exec (.registerWrite (.host r) 0x5000C v now) s = exec (.updStgData v) s) ∧
      (exec (.registerWrite (.host r) 0x2020C v now) s = exec (.intcTgtDone .h0 v) s) ∧
      (exec (.registerWrite (.host r) 0x2024C v now) s = exec (.intcTgtDone .h1 v) s) ∧
      (∀ k : Fin 8, exec (.registerWrite (.host r) (0x20120 + 4 * k.val) v now) s = exec (.intcHpendSet k v) s ∧
        exec (.registerWrite (.host r) (0x20140 + 4 * k.val) v now) s = exec (.intcHpendClr k v now) s) ∧
      (∀ k : Fin 4, exec (.registerWrite (.host r) (0x220108 + 0x40 * k.val) v now) s = exec (.dmaRingEnable k v) s) ∧
      (getBits v 0 2 = 1 → exec (.registerWrite (.host r) 0x500004 v now) s = exec (.rejoin (if bitOf v 2 then .b else .a)) s) ∧
      (getBits v 0 2 = 2 → exec (.registerWrite (.host r) 0x500004 v now) s = exec (.forceFail (if bitOf v 2 then .b else .a)) s) ∧
      (getBits v 0 2 = 3 → exec (.registerWrite (.host r) 0x500004 v now) s = exec .clearHist s) ∧
      (exec (.registerWrite (.host r) 0xF00000 v now) s = exec (.tstUnlock v) s) ∧
      (exec (.registerWrite (.host r) 0xF00008 v now) s = exec (.tstLeaseWrite v) s)) ∧
    (driveOn s = true →
      (∀ n : Fin 64, exec (.registerWrite (.host r) (0x100000 + 0x100 * n.val) v now) s = exec (.drvChSet n v) s ∧
        exec (.registerWrite (.host r) (0x100028 + 0x100 * n.val) 1 now) s = exec (.clear n) s ∧
        exec (.registerWrite (.host r) (0x100028 + 0x100 * n.val) 2 now) s = exec (.phaseRetry n) s ∧
        exec (.registerWrite (.host r) (0x100028 + 0x100 * n.val) 4 now) s = exec (.probeNow n) s) ∧
      (∀ (k : Fin 4) (d : Fin 128),
        exec (.registerWrite (.host r) (0x110804 + 0x1000 * k.val + 8 * d.val) v now) s = exec (.chnDrvSet k d v) s ∧
        exec (.registerWrite (.host r) (0x110010 + 0x1000 * k.val) 1 now) s = exec (.reshift k) s ∧
        exec (.registerWrite (.host r) (0x110010 + 0x1000 * k.val) 2 now) s = exec (.measure k) s)) ∧
    (mtrOn s = true →
      exec (.registerWrite (.host r) 0x12000C 1 now) s = exec .saveNow s ∧
      (∀ p : Fin 128, exec (.registerWrite (.host r) 0x12000C (w32 (2 + 256 * p.val)) now) s = exec (.zero p) s)) ∧
    (fabOn s = true →
      exec (.registerWrite (.host r) 0x130004 v now) s = exec (.rfxModeWrite v) s ∧
      exec (.registerWrite (.host r) 0x130008 v now) s = exec (.rfxLockClr false v) s ∧
      exec (.registerWrite (.host r) 0x13000C v now) s = exec (.rfxLockClr true v) s) ∧
    (netOn s = true → exec (.registerWrite (.host r) 0x210034 v now) s = exec (.tsuSqFree .host (Fin.ofNat 64 (getBits v 0 6))) s) ∧
    (airOn s = true → ∀ n : Fin 1024,
      exec (.registerWrite (.host r) (0x308004 + 16 * n.val) v now) s = exec (.leaseEuiWrite n v) s) ∧
    (∀ e : Fin 32, exec (.registerWrite (.host r) (0x3101C + 0x20 * e.val) 1 now) s = exec (.schedArm .host (Fin.ofNat 64 e.val) 0) s ∧
      exec (.registerWrite (.host r) (0x3101C + 0x20 * e.val) 2 now) s = exec (.schedCancel .host (Fin.ofNat 64 e.val)) s)

/-- R32: an aligned access outside every register reads 0 and writes nothing, by either command of the table; a read counts
as one of HOST_RD_DELAY (R594) where TST is unlocked. R33: a block whose domain is OFF reads 0 and ignores writes. R9: a read
of a register with RC fields returns its value, with what the module sets in the same cycle, and clears those fields; bits
that are unpredictable (R19) may read as anything. R4: a read of any other register returns what it shows. R5: a read that is
not one aligned word answers a word for each it touches, and such a write to registers that no rule makes do more changes
only the bits that a host could write, which read back unpredictably. R160: BAR2 reads the read-source twin's memory, and
ignores writes. -/
def Obligations.OtherAccessesComplete : Prop :=
  (∀ (r : Route) (off : Nat) (v now : Word) (s : State), routeOpen s r = true → off % 4 = 0 → regRow? off = none →
    (Completes (.unmappedAccess r off false v) s fun t => t = { (tstApply 1 (routeNum r) s).2 with hostData := [0] }) ∧
    (Completes (.unmappedAccess r off true v) s fun t => t = s) ∧
    (Completes (.registerWrite (.host r) off v now) s fun t => t = s)) ∧
  (∀ (r : Route) (off : Nat) (v now : Word) (s : State), routeOpen s r = true → off % 4 = 0 → tstUnlocked s = false →
    ∀ b, blockOf off = some b → blockUp s b = false →
      (Completes (.rcRead r off none) s fun t => t = { s with hostData := [0] }) ∧
      (Completes (.unmappedAccess r off false v) s fun t => t = { s with hostData := [0] }) ∧
      (Completes (.registerWrite (.host r) off v now) s fun t => t = s)) ∧
  (∀ (r : Route) (off : Nat) (now : Option Word) (s : State), routeOpen s r = true → tstUnlocked s = false →
    off % 4 = 0 → ∀ b, blockOf off = some b → blockUp s b = true → rcMask off ≠ 0 → readActs off = false →
    Completes (.rcRead r off now) s fun t =>
      (∃ x, t.hostData = [x] ∧ x &&& ~~~(hostUnpred s off) =
        ((getR s off &&& ~~~(rcMask off)) ||| (now.getD (getR s off) &&& rcMask off)) &&& w32 (readMask off) &&& ~~~(hostUnpred s off)) ∧
      getR t off = getR s off &&& ~~~(rcMask off) ∧
      ∀ o, o ≠ off → o ≠ 0x130000 → getR t o = getR s o) ∧
  (∀ (r : Route) (off : Nat) (s : State), routeOpen s r = true → tstUnlocked s = false →
    off % 4 = 0 → ∀ b, blockOf off = some b → b ≠ .rfx → blockUp s b = true → (regRow? off).isSome = true → rcMask off = 0 →
    readActs off = false → Completes (.rcRead r off none) s fun t =>
      t.regs = s.regs ∧ ∃ x, t.hostData = [x] ∧
        x &&& ~~~(hostUnpred s off) = viewReg s off &&& w32 (readMask off) &&& ~~~(hostUnpred s off)) ∧
  (∀ (r : Route) (off len : Nat) (s : State), routeOpen s r = true →
    (Completes (.unalignedAccess (.regs r) off len false) s fun t =>
      t.hostData.length = (wordsTouched off len).length ∧ (tstUnlocked s = false → t.regs = s.regs)) ∧
    (Completes (.unalignedAccess (.regs r) off len true) s fun t =>
      t.hostData = s.hostData ∧
      ((∀ w, w ∈ wordsTouched off len → quietBlock w = true) → ∀ o,
        (o ∉ wordsTouched off len → getR t o = getR s o) ∧
        (getR t o &&& ~~~(w32 (rwMask s o)) = getR s o &&& ~~~(w32 (rwMask s o))) ∧
        (∀ b, o ∈ wordsTouched off len → blockOf o = some b → blockUp s b = true → b ≠ .tst → b ≠ .air → (regRow? o).isSome = true →
          unpredAt t o &&& w32 (readMask o) = w32 (readMask o))))) ∧
  (∀ (off len : Nat) (s : State), routeOpen s .pcie = true →
    (tstUnlocked s = false → Completes (.unalignedAccess .bar2 off len false) s fun t =>
      t.hostData = packWords (regionBytes s 0 off len) ∧ t.regs = s.regs) ∧
    (Completes (.unalignedAccess .bar2 off len true) s fun t => t = s))

/-! ### Supply and power states -/

/-- R45, R46, R237: J1 falls: J1_OK reads 0 and the SENS_12V regulator stops; J1 returns: both come back, and a channel that
waited for J1 with its phases good goes to BIAS. R50, R53, R61, R62: a supply measurement writes SYS_SUPPLY_MON and the
fields of SYS_SUPPLY_STAT. R47 to R50: while DRIVE is HOLD or LIVE the limiter takes the new k, between 1 and 1,024, and
shows whether the ceiling or the input current reduced it. R46: when J1 falls every channel whose stage works goes to
WAIT_J1, its working value 0; the others stay as they were. -/
def Obligations.SupplyEventsComplete : Prop :=
  ((∀ s : State, (j1Ok s = true → Completes .j1Loss s fun t => j1Ok t = false ∧ t.sys.sens12 = false ∧ j1High t = false) ∧
    (j1Ok s = false → Completes .j1Loss s fun t => t = s)) ∧
  (∀ s : State, (j1High s = false → Completes .j1Return s fun t => j1Ok t = true ∧ t.sys.sens12 = true ∧ j1High t = true ∧
      ∀ n, n < 64 → (slice s n).st = .waitJ1 → (slice s n).phaseA = true → (slice s n).latentA = false → (slice s n).latentB = false →
        (slice t n).st = .bias ∧ (slice t n).ref = (slice s n).ref) ∧
    (j1High s = true → Completes .j1Return s fun t => t = s)) ∧
  (∀ (j1 j2 st vb : Nat) (temp : Int) (scap : Bool) (s : State), Completes (.supplyMonitorUpdate j1 j2 st vb temp scap) s fun t =>
    getR t 0x404 = w32 (min 65535 j1 + min 65535 j2 * 2 ^ 16) ∧ t.sys.storeMv = st ∧ t.sys.vbatMv = vb ∧
    getF t ⟨0x408, 0, 16⟩ = unsigned 16 temp ∧
    (9000 ≤ j1 → j1High t = true ∧ (j1High s = false ∨ j1Ok s = true → j1Ok t = true)) ∧ (j1 < 8500 → j1Ok t = false) ∧ (8500 ≤ j1 → j1 < 9000 → j1Ok t = j1Ok s) ∧
    (9000 ≤ j2 → flag t ⟨0x400, 1, 1⟩ = true) ∧ (j2 < 8500 → flag t ⟨0x400, 1, 1⟩ = false) ∧
    flag t ⟨0x400, 4, 1⟩ = decide (st < 12000) ∧ flag t ⟨0x400, 8, 1⟩ = decide (pTherm j1 temp < pCeil j1) ∧
    flag t ⟨0x400, 9, 1⟩ = decide (vb < 2200) ∧ flag t ⟨0x400, 10, 1⟩ = scap) ∧
  (∀ (pOut pIn vBus : Nat) (temp : Int) (s : State),
    (driveOn s = true → Completes (.limiterUpdate pOut pIn vBus temp) s fun t =>
      t.sys.k = newK s.sys.k pOut pIn vBus temp ∧ 1 ≤ t.sys.k ∧ t.sys.k ≤ 1024 ∧
      flag t ⟨0x400, 8, 1⟩ = decide (pTherm vBus temp < pCeil vBus) ∧
      (flag t ⟨0x400, 6, 1⟩ || flag t ⟨0x400, 7, 1⟩) = decide (t.sys.k < 1024) ∧
      (getR t 0x40C).toNat = (if s.sys.k = 1024 ∧ t.sys.k < 1024 then min (2 ^ 32 - 1) ((getR s 0x40C).toNat + 1) else (getR s 0x40C).toNat)) ∧
    (driveOn s = false → Completes (.limiterUpdate pOut pIn vBus temp) s fun t => t = s))) ∧
  (∀ (s : State) (n : Nat), j1Ok s = true → n < 64 → Completes .j1Loss s fun t =>
    if (slice s n).st ∈ [ChState.bias, .soft, .run, .probe] then
      (slice t n).st = .waitJ1 ∧ (slice t n).work = 0 ∧ (slice t n).ref = (slice s n).ref
    else slice t n = slice s n)

/-- R54, R58, R60: a trip abandons a capacitance measurement, whose results stay as they were, and starts the final save; a
trip during a final save starts no second one. R57, R359: a ride-through sets PF_SEEN, and the steps held are accumulated
unless the final save still writes. R56: a brown-out reset takes every domain to OFF. R53, R59: a measurement starts and
ends, and the store is recharged. R102, R108: a held module starts, the cause of the start is recorded, and the hierarchy
epoch rises by 1 (R462). -/
def Obligations.PowerFailCompletes : Prop :=
  (∀ (chan : List (List (Int × Int))) (s : State), s.sys.held = false → s.sys.trip = false → Completes (.powerFailTrip chan) s fun t =>
    t.sys.trip = true ∧ t.sys.measuring = false ∧ flag t ⟨0x400, 3, 1⟩ = flag s ⟨0x400, 3, 1⟩ ∧
    getF t ⟨0x408, 16, 16⟩ = getF s ⟨0x408, 16, 16⟩ ∧ (t.mtr.saving.map (·.kind)) = some .final ∧
    ((s.mtr.saving.map (·.kind)) = some .final → t.mtr = s.mtr)) ∧
  (∀ s : State, s.sys.trip = true → s.sys.held = false → Completes .tripRideThrough s fun t =>
    t.sys.trip = false ∧ flag t ⟨0x400, 5, 1⟩ = true ∧ (flag s pwrSave = true → t.mtr = s.mtr) ∧
    (flag s pwrSave = false → t.mtr.held = []) ∧ ∀ d : Dom, domState t d = domState s d) ∧
  (∀ s : State, s.sys.held = false → Completes .brownOutReset s fun t =>
    t.sys.held = true ∧ (∀ d : Dom, domState t d = 0) ∧ t.sealed = [] ∧ t.port.link = false ∧ t.sys.storeMv < 7000 ∧
    (∀ n, slice t n = slept (slice s n))) ∧
  (∀ s : State, s.sys.held = false → s.sys.trip = false → Completes .holdupMeasure s fun t =>
    t = { s with sys := { s.sys with measuring := true } }) ∧
  (∀ (uf : Nat) (s : State), s.sys.measuring = true → Completes (.holdupMeasureDone uf) s fun t =>
    t.sys.measuring = false ∧ getF t ⟨0x408, 16, 16⟩ = min 65535 uf ∧ flag t ⟨0x400, 3, 1⟩ = decide (uf < 1700) ∧
    storeTarget s ≤ t.sys.storeMv ∧ flag t ⟨0x400, 4, 1⟩ = decide (t.sys.storeMv < 12000)) ∧
  (∀ (j1 j2 : Nat) (absent aonCold : Bool) (s : State), s.sys.held = true →
    Completes (.powerOn j1 j2 absent aonCold) s fun t =>
      t.sys.held = false ∧ (if absent || aonCold then getR t 0x18 = 1 else getF t ⟨0x18, 1, 1⟩ = 1) ∧
      t.sys.start = some (if absent || aonCold then .powerOn else .brownOut) ∧ t.sys.snapOwed = true ∧
      t.port.link = !s.port.perst ∧ getR t 0x404 = w32 (min 65535 j1 + min 65535 j2 * 2 ^ 16) ∧
      (aonCold = true → t.key = { outside := s.key.outside }) ∧ t.hier.epoch = s.hier.epoch + 1)

/-- R84 to R87, R90: a host power command while BUSY is 0 that breaks no line of the table is answered OK with its TAG, and
its changes are those of R87; one that breaks a line is answered STATE and changes no domain; one while BUSY is 1 is answered
BUSY, and has no effect. -/
def Obligations.PowerCommandCompletes : Prop :=
  ∀ (r : Route) (v : Word) (s : State), routeOpen s r = true → s.sys.held = false →
    Completes (.powerCommand r v) s fun t =>
      getF t pwrTag = getBits v 16 8 ∧ flag t pwrSrc = false ∧ getR t 0x20 = 0 ∧
      getF t pwrResult = (if flag s pwrBusy then 1 else if pwrRefused s v then 2 else 0) ∧
      (∀ d : Dom, domState t d = domState s d) ∧
      t.sys.todo = (if flag s pwrBusy || pwrRefused s v then s.sys.todo else pwrChanges s v) ∧
      flag t pwrBusy = (flag s pwrBusy || (!pwrRefused s v && decide (pwrChanges s v ≠ [])))

/-- R87, R88: a change of a command completes: its domain has its new state, the next change begins, and after the last BUSY
clears. A rise of CTRL from OFF (R605) runs the stages, and ends in the state asked for where start-up reaches READY. R89: a
domain that rises from OFF and gives no power-good stays OFF and ends its command with FAULT, which holds the power-fault
source; the answer stays, and no other change is carried out. A timeout of a domain that is not the one rising does nothing
(R112). -/
def Obligations.DomainChangeCompletes : Prop :=
  (∀ (c : DomChange) (rest : List DomChange) (s : State), s.sys.todo = c :: rest → flag s pwrBusy = true →
    c.dest < 2 ∨ (c.dest = 2 ∧ (c.dom = .ctrl ∨ c.dom = .drive ∨ c.dom = .fab)) → c.dom ≠ .ctrl ∨ domState s .ctrl ≠ 0 →
    Completes .domainChangeDone s fun t => domState t c.dom = c.dest ∧ t.sys.todo = rest ∧
      flag t pwrBusy = decide (rest ≠ []) ∧ ∀ d : Dom, d ≠ c.dom → domState t d = domState s d) ∧
  (∀ (dest : Nat) (rest : List DomChange) (s : State), s.sys.todo = ⟨.ctrl, dest⟩ :: rest → domState s .ctrl = 0 →
    dest = 1 ∨ dest = 2 → Completes .domainChangeDone s fun t =>
      domState t .ctrl ≠ 0 ∧ (atReady t = true → domState t .ctrl = dest) ∧ t.port.link = !s.port.perst) ∧
  (∀ (c : DomChange) (rest : List DomChange) (s : State), s.sys.todo = c :: rest → domState s c.dom = 0 → c.dest ≠ 0 →
    (Completes (.powerGoodTimeout c.dom) s fun t => flag t pwrFault = true ∧ levelCond t 1 = true ∧ flag t pwrBusy = false ∧
      t.sys.todo = [] ∧ getF t pwrResult = getF s pwrResult ∧ ∀ d : Dom, domState t d = domState s d) ∧
    ∀ d : Dom, d ≠ c.dom → Completes (.powerGoodTimeout d) s fun t => t = s)

/-- R94, R95: an armed wake source clears the mask and shows itself in SYS_WAKE_STAT; its command is issued from the wake
logic, or waits while BUSY is 1 and is issued once it is 0; a source that is not armed, and one of a held module, do nothing.
R463, R469: in STANDBY a WAKE in scope is the NET wake source. -/
def Obligations.WakeCompletes : Prop :=
  (∀ (src : WakeSrc) (s : State),
    (s.sys.held = false → bitOf (getR s 8) (wakeBit src) = true → Completes (.wakeFire src) s fun t =>
      getR t 8 = 0 ∧ flag t ⟨0x10, wakeBit src, 1⟩ = true ∧
      (if flag s pwrBusy then t.sys.wakeWait = some (getR s 0xC) ∧ t.sys.todo = s.sys.todo
       else getF t pwrTag = getBits (getR s 0xC) 16 8 ∧ flag t pwrSrc = true ∧
        getF t pwrResult = (if pwrRefused s (getR s 0xC) then 2 else 0))) ∧
    (s.sys.held = true ∨ bitOf (getR s 8) (wakeBit src) = false → Completes (.wakeFire src) s fun t => t = s)) ∧
  (∀ (w : Word) (s : State), s.sys.wakeWait = some w → s.sys.held = false → flag s pwrBusy = false →
    Completes .wakeCommandIssue s fun t => t.sys.wakeWait = none ∧ flag t pwrSrc = true ∧ getF t pwrTag = getBits w 16 8 ∧
      getF t pwrResult = (if pwrRefused s w then 2 else 0)) ∧
  (∀ s : State, s.sys.wakeWait = none ∨ flag s pwrBusy = true → Completes .wakeCommandIssue s fun t => t = s) ∧
  (∀ (h : HierHdr) (s : State), netOn s = true → ctrl s = .standby → selected s h = true →
    (∀ e, heldEpoch s h.issuer = some e → (h.epoch - e).toNat < 128) → bitOf (getR s 8) (wakeBit .net) = true →
    Completes (.wake h) s fun t => getR t 8 = 0 ∧ flag t ⟨0x10, wakeBit .net, 1⟩ = true)

/-- R106, R107, R109: a reset is answered, and an accepted one waits for its metering save. R109 to R111, R117, R358: it
takes effect once that has completed, or at once with CTRL OFF: the seals are gone and a start begins, which adds 1 to the
module's hierarchy epoch (R462); a controller reset takes DRIVE from LIVE to HOLD on the present references. R157: PERST_N.
R102 to R105, R605: start-up goes from each stage to the next, through the one named; R97: the cores halt in ROM after
tamper. R104: the second start-state command, DRIVE to LIVE, is issued at READY. -/
def Obligations.ResetsAndStartComplete : Prop :=
  (∀ (glob : Bool) (s : State), s.sys.held = false →
    (Completes (.controllerReset glob) s fun t => getF t pwrResult = (resetAnswer s .controller).num ∧
      t.sys = (if resetAnswer s .controller = .ok then { s.sys with rstWait := some (.controller, glob), rstSaved := false } else s.sys) ∧
      ∀ d : Dom, domState t d = domState s d) ∧
    (Completes (.moduleReset glob) s fun t => getF t pwrResult = (resetAnswer s .module).num ∧
      t.sys = (if resetAnswer s .module = .ok then { s.sys with rstWait := some (.module, glob), rstSaved := false } else s.sys) ∧
      ∀ d : Dom, domState t d = domState s d) ∧
    (s.sys.rstWait = none → ctrlRun s = true → resetAnswer s .controller = .ok ∧ resetAnswer s .module = .ok)) ∧
  (∀ (glob : Bool) (s : State), s.sys.rstSaved = true ∨ ctrlOn s = false →
    (s.sys.rstWait = some (.module, glob) → Completes .resetEffect s fun t =>
      t.sys.rstWait = none ∧ t.sys.start = some .module ∧ t.sealed = [] ∧ flag t ⟨0x18, 2, 1⟩ = true ∧ t.hier.epoch = s.hier.epoch + 1 ∧
      (glob = true → flag t ⟨0x18, 5, 1⟩ = true) ∧
      (domState s .drive ≠ 0 → domState t .drive = (if (safeRecord s).isSome then 1 else 0))) ∧
    (s.sys.rstWait = some (.controller, glob) → Completes .resetEffect s fun t =>
      t.sys.rstWait = none ∧ t.sealed = [] ∧ flag t ⟨0x18, 3, 1⟩ = true ∧ (glob = true → flag t ⟨0x18, 5, 1⟩ = true) ∧
      (t.sys.start = some .controller ∨ getF t stageFld = 14) ∧ t.hier.epoch = s.hier.epoch + 1 ∧
      (driveLive s = true → domState t .drive = 1) ∧ ∀ n, slice t n = slice s n)) ∧
  (∀ s : State,
    (s.port.perst = false → Completes .perstAssert s fun t =>
      t.port.perst = true ∧ t.port.link = false ∧ t.port.cfg = {} ∧ flag t ⟨0x18, 4, 1⟩ = true) ∧
    (s.port.perst = true → Completes .perstAssert s fun t => t = s) ∧
    (Completes .perstRelease s fun t => t = { s with port := { s.port with perst := false, link := ctrlOn s } })) ∧
  (∀ (upto : Stage) (s : State), s.sys.held = false → s.sys.start ≠ some .raise →
    (upto ≠ .recovery → upto ≠ .haltTamper → Completes (.startup upto) s fun t => t = runStages (stageNum upto) 24 s) ∧
    (upto = .recovery ∨ upto = .haltTamper → exec (.startup upto) s = exec (.startup .rom) s) ∧
    (s.sys.start = none → Completes (.startup upto) s fun t => t = s)) ∧
  (∀ (k : StartKind) (s : State), s.sys.held = false → s.sys.start = some k → k ≠ .raise →
    (getF s stageFld = 0 → Completes (.startup .ref) s fun t => t = setF stageFld 1 s) ∧
    (getF s stageFld = 1 → Completes (.startup .safe) s fun t => getF t stageFld = 2 ∧
      flag t ⟨0x1C, 4, 1⟩ = (safeRecord s).isSome ∧ ((safeRecord s).isSome = true → driveOn t = true) ∧
      ((safeRecord s).isSome = false → domState t .drive = domState s .drive)) ∧
    (getF s stageFld = 2 → s.sys.haltDue = true → Completes (.startup .rom) s fun t =>
      ctrl t = .halted ∧ getF t stageFld = 15 ∧ t.sys.start = none) ∧
    (ctrlRun s = true →
      (getF s stageFld = 2 → s.sys.haltDue = false → Completes (.startup .rom) s fun t =>
        (getF t stageFld = 3 ∨ getF t stageFld = 14) ∧ t.sealed = []) ∧
      (getF s stageFld = 3 → Completes (.startup .img) s fun t => getF t stageFld = 4) ∧
      (getF s stageFld = 4 → Completes (.startup .fw) s fun t => getF t stageFld = 5) ∧
      (getF s stageFld = 5 → s.upd.trial = false → Completes (.startup .ready) s fun t =>
        atReady t = true ∧ t.sys.start = none ∧ t.hier.epoch = s.hier.epoch ∧ t.hier.owed = true ∧
        t.sys.liveWait = (imgSealed s && decide (getBits (startState s) 6 2 = 3))))) ∧
  (∀ s : State, s.sys.held = false → s.sys.liveWait = true → atReady s = true → flag s pwrBusy = false →
    Completes .startStateLive s fun t => t.sys.liveWait = false ∧ getF t pwrTag = 0 ∧ flag t pwrSrc = false ∧
      t.sys.todo = if pwrRefused s 0xC0 then s.sys.todo else pwrChanges s 0xC0)

/-! ### Interrupts -/

/-- R194, R196, R197, R212: an event of a kind E source, and a kind L source whose condition holds, becomes pending on each
route that names a target while CTRL is powered; outside STANDBY nothing else changes. A level source whose condition does
not hold, and a reserved one, raise nothing. R196, R204, R205, R208, R211: an evaluation gathers the level sources and
signals a core wake; the candidate of a target that holds no claim, serves none, is not asleep or is woken, and that
moderation permits, is presented: the claim has its source, PRIO and VECTOR, and the window starts unless MOD_US is 0; a core
target's claim is captured for the twins. Otherwise nothing is presented. The expiry of a window ends it, and an evaluation
follows. -/
def Obligations.EventsPresented : Prop :=
  (∀ (n : Fin 256) (s : State), ctrlOn s = true → srcDefined n.val = true → srcLevel n.val = false ∨ levelCond s n.val = true →
    Completes (.intcSourceEvent n) s fun t =>
      (srcHost s n.val = 1 ∨ srcHost s n.val = 2 → srcBit t 0x20120 n.val = true) ∧
      (srcCore s n.val = 1 ∨ srcCore s n.val = 2 → srcBit t 0x201A0 n.val = true) ∧
      (ctrl s ≠ .standby → ∀ off, off < 0x20120 ∨ 0x201C0 ≤ off → getR t off = getR s off)) ∧
  (∀ (n : Fin 256) (s : State), (srcLevel n.val = true ∧ levelCond s n.val = false) ∨ (srcDefined n.val = false ∧ ctrl s ≠ .standby) →
    Completes (.intcSourceEvent n) s fun t => t = s) ∧
  (∀ (g : Target) (idle : Bool) (s : State), ctrlOn s = true → ∀ w, w = coreWake (evalLevels s) →
    ∀ n, candidate w g = some n → (tgt w g).claim = none → (tgt w g).insvc = none →
    asleep w g = false ∨ wakesTarget w g = true → modPermits w g (targetIdle w g idle) n = true →
    Completes (.intcPresent g idle) s fun t =>
      (tgt t g).claim = some ⟨n, getF w ⟨0x20400 + 4 * n, 4, 4⟩, getF w ⟨0x20400 + 4 * n, 8, 5⟩⟩ ∧
      (tgt t g).window = decide (getBits (modWord w g) 0 16 ≠ 0) ∧
      (isCore g = true → ctrlRun w = true → t.twn.inbox = w.twn.inbox ++ [.irq g n]) ∧
      (isCore g = false → flag t ⟨tgtBase g, 5, 1⟩ = false ∧ flag t ⟨tgtBase g, 4, 1⟩ = false)) ∧
  (∀ (g : Target) (idle : Bool) (s : State), ctrlOn s = true → ∀ w, w = coreWake (evalLevels s) →
    candidate w g = none ∨ (tgt w g).claim.isSome = true ∨ (tgt w g).insvc.isSome = true ∨
      (asleep w g = true ∧ wakesTarget w g = false) →
    Completes (.intcPresent g idle) s fun t => t = w) ∧
  (∀ (g : Target) (idle : Bool) (s : State), ctrlOn s = true → ∀ w,
    w = coreWake (evalLevels (setTgt g { tgt s g with window := false } s)) →
    (candidate w g = none ∨ (tgt w g).claim.isSome = true ∨ (tgt w g).insvc.isSome = true →
      Completes (.intcModExpire g idle) s fun t => t = w ∧ (tgt t g).window = false) ∧
    (∀ n, candidate w g = some n → (tgt w g).claim = none → (tgt w g).insvc = none →
      asleep w g = false ∨ wakesTarget w g = true → Completes (.intcModExpire g idle) s fun t =>
        (tgt t g).claim = some ⟨n, getF w ⟨0x20400 + 4 * n, 4, 4⟩, getF w ⟨0x20400 + 4 * n, 8, 5⟩⟩ ∧
        (tgt t g).window = decide (getBits (modWord w g) 0 16 ≠ 0)))

/-- R202, R203: a write of INTC_HPEND_SET sets the pending bits of defined sources; a write of INTC_HPEND_CLR clears them,
but an event of the same cycle sets the bit of a source with a host route, and wins; a cleared level source whose condition
still holds is pending again at the next evaluation. R206: a read of INTC_TGT_CLAIM by an open route, by either command,
returns VALID, VECTOR, PRIO and SOURCE of the claim presented, takes it into service, and clears the pending bit of a kind E
source; with no claim it returns 0. R207: DONE with the source in service ends the service and clears the pending bit of a
level source; another DONE changes no target. No perturbation is applied (TST is locked). -/
def Obligations.ClaimsAndPendingComplete : Prop :=
  (∀ (k : Fin 8) (v ev : Word) (s : State), ctrlOn s = true →
    (Completes (.intcHpendSet k v) s fun t =>
      getR t (0x20120 + 4 * k.val) = getR s (0x20120 + 4 * k.val) ||| srcWritten k.val v ∧
      ∀ off, off ≠ 0x20120 + 4 * k.val → getR t off = getR s off) ∧
    (ctrl s ≠ .standby → Completes (.intcHpendClr k v ev) s fun t =>
      (∀ i, i < 32 → srcBit t 0x20120 (32 * k.val + i) =
        ((srcBit s 0x20120 (32 * k.val + i) && !bitOf (srcWritten k.val v) i) ||
          (bitOf (srcWritten k.val ev) i && (!srcLevel (32 * k.val + i) || levelCond s (32 * k.val + i)) &&
            decide (srcHost s (32 * k.val + i) = 1 ∨ srcHost s (32 * k.val + i) = 2)))) ∧
      ∀ off, off ≠ 0x20120 + 4 * k.val → off ≠ 0x201A0 + 4 * k.val → getR t off = getR s off)) ∧
  (∀ (g : Target) (idle : Bool) (n : Nat) (s : State), ctrlOn s = true → n < 256 → srcLevel n = true → levelCond s n = true →
    srcHost s n = 1 ∨ srcHost s n = 2 → Completes (.intcPresent g idle) s fun t => srcBit t 0x20120 n = true) ∧
  (∀ (r : Route) (h : HostTgt) (s : State), routeOpen s r = true → ctrlOn s = true → tstUnlocked s = false →
    (∀ c, (tgt s (hostTarget h)).claim = some c →
      (Completes (.intcTgtClaim r h) s fun t =>
        t.hostData = [w32 (c.src + c.prio * 2 ^ 8 + c.vec * 2 ^ 12 + 2 ^ 31)] ∧
        tgt t (hostTarget h) = { tgt s (hostTarget h) with claim := none, insvc := some c.src } ∧
        (srcLevel c.src = false → srcBit t 0x20120 c.src = false) ∧
        (∀ off, off ≠ srcOff 0x20120 c.src → getR t off = getR s off)) ∧
      (hostUnpred s (tgtBase (hostTarget h) + 8) = 0 →
        exec (.rcRead r (tgtBase (hostTarget h) + 8) none) s = exec (.intcTgtClaim r h) s)) ∧
    ((tgt s (hostTarget h)).claim = none →
      Completes (.intcTgtClaim r h) s fun t => t = { s with hostData := [0] })) ∧
  (∀ (h : HostTgt) (n : Nat) (v : Word) (s : State), ctrlOn s = true → (tgt s (hostTarget h)).insvc = some n →
    (getBits v 0 8 = n → Completes (.intcTgtDone h v) s fun t =>
      tgt t (hostTarget h) = { tgt s (hostTarget h) with insvc := none } ∧ (srcLevel n = true → srcBit t 0x20120 n = false)) ∧
    (getBits v 0 8 ≠ n → Completes (.intcTgtDone h v) s fun t => t.intc = s.intc ∧ t.regs = s.regs)) ∧
  (∀ (h : HostTgt) (v : Word) (s : State), (tgt s (hostTarget h)).insvc = none → Completes (.intcTgtDone h v) s fun t => t = s)

/-! ### The image store, firmware update and recovery -/

/-- R153 to R155: BEGIN opens the slot for its party and starts zeroing; COMMIT makes it PENDING with its length; ABORT
empties it; each that the slot's state permits is answered OK, and another is answered with its code and changes no slot; the
hierarchy's come as words of both twins, and with both failed none is taken (R28, R532). Zeroing completes; VERIFY runs while
the slot is PENDING, and R142: ends with its verdict; DISCARD empties the slot; a write of the data register while the host
holds the slot OPEN advances the offset by four. -/
def Obligations.ImageStagingCompletes : Prop :=
  (∀ (who : StgIssuer) (p : Party) (s : State), ctrlOn s = true → (who = .host ∧ p = .host) ∨ (who = .recovery ∧ p = .recovery) ∨
      (who = .hier .equal ∧ p = .hier ∧ ctrlRun s = true ∧ (soleTwin s).isSome = true) →
    (stgJudge .image p false s = .ok → Completes (.imgBegin who) s fun t =>
      t.img = { s.img with stg := ⟨.opened, p, true, []⟩ } ∧ getF t (stgResult .image) = 0 ∧ flag t (stgBusy .image) = true) ∧
    (stgJudge .image p false s ≠ .ok → Completes (.imgBegin who) s fun t =>
      t.img = s.img ∧ getF t (stgResult .image) = (stgJudge .image p false s).num) ∧
    (stgJudge .image p true s = .ok →
      (Completes (.imgCommit who) s fun t => t.img.stg = { s.img.stg with st := .pending } ∧ getF t (stgResult .image) = 0 ∧
        imgLen t (stagedIdx s) = stgLenReg s .image) ∧
      (Completes (.imgAbort who) s fun t =>
        t.img = { s.img with stg := { s.img.stg with st := .empty } } ∧ getF t (stgResult .image) = 0)) ∧
    (stgJudge .image p true s ≠ .ok →
      (Completes (.imgCommit who) s fun t => t.img = s.img ∧ getF t (stgResult .image) = (stgJudge .image p true s).num) ∧
      (Completes (.imgAbort who) s fun t => t.img = s.img ∧ getF t (stgResult .image) = (stgJudge .image p true s).num))) ∧
  (∀ (c : Copies) (s : State), (soleTwin s).isNone = true → ∀ x, x ∈ [Instr.imgBegin (.hier c), .imgCommit (.hier c), .imgAbort (.hier c)] →
    Completes x s fun t => t = s) ∧
  (∀ s : State, s.img.stg.zeroing = true → Completes .imgBeginDone s fun t =>
    t.img.stg = { s.img.stg with zeroing := false, held := [] } ∧ flag t (stgBusy .image) = false ∧
    (s.img.stg.held = [] → stagedOf t .image = [])) ∧
  (∀ s : State, ctrlOn s = true →
    (flag s (stgBusy .image) = false → s.img.stg.st = .pending → Completes .imgVerify s fun t =>
      t.img = { s.img with verifying := true } ∧ flag t (stgBusy .image) = true) ∧
    (flag s (stgBusy .image) = true ∨ s.img.stg.st ≠ .pending → Completes .imgVerify s fun t =>
      t.img = s.img ∧ getF t (stgResult .image) = (if flag s (stgBusy .image) then 1 else 2)) ∧
    (flag s (stgBusy .image) = false → s.img.stg.st = .pending ∨ s.img.stg.st = .rejected → Completes .imgDiscard s fun t =>
      t.img = { s.img with stg := { s.img.stg with st := .empty } } ∧ getF t (stgResult .image) = 0) ∧
    (flag s (stgBusy .image) = true ∨ s.img.stg.st = .empty ∨ s.img.stg.st = .opened → Completes .imgDiscard s fun t =>
      t.img = s.img ∧ getF t (stgResult .image) = (if flag s (stgBusy .image) then 1 else 2))) ∧
  (∀ s : State, s.img.verifying = true → Completes .imgVerifyDone s fun t =>
    t.img = { s.img with verifying := false } ∧ flag t (stgBusy .image) = false ∧
    getF t ⟨0x10004, 16, 8⟩ = (imgVerify s (stagedImg s) (imgLen s (stagedIdx s))).1 % 256 ∧
    getF t (stgResult .image) = (if (imgVerify s (stagedImg s) (imgLen s (stagedIdx s))).1 = 0 then 0 else 7)) ∧
  (∀ (v : Word) (s : State), ctrlOn s = true →
    (s.img.stg.st = .opened → s.img.stg.owner = .host → stgOff s .image < 163840 → Completes (.imgStgData v) s fun t =>
      getR t 0x10008 = w32 ((stgOff s .image + 4) % 2 ^ 18) ∧ (∀ o, o ≠ 0x10008 → getR t o = getR s o) ∧
      (if s.img.stg.zeroing then t.img = { s.img with stg := { s.img.stg with held := s.img.stg.held ++ [(stgOff s .image, wordBytes v)] } }
       else stgOff s .image + 4 ≤ 163840 → ∀ i, tabGet zeroByte (stagedOf t .image) i =
        if stgOff s .image ≤ i ∧ i < stgOff s .image + 4 then (wordBytes v).getD (i - stgOff s .image) 0
        else tabGet zeroByte (stagedOf s .image) i)) ∧
    (s.img.stg.st ≠ .opened ∨ s.img.stg.owner ≠ .host ∨ 163840 ≤ stgOff s .image → Completes (.imgStgData v) s fun t => t = s))

/-- R114, R115, R153, R154: staging from any party, and its verification, leave the ACTIVE image, its slot and the floor
alone. -/
def Obligations.StagingKeepsActive : Prop :=
  ∀ (c : Instr) (who : StgIssuer) (v : Word) (s t : State) (a : Bool), s.img.active = some a →
    c ∈ [Instr.imgBegin who, .imgBeginDone, .imgCommit who, .imgAbort who, .imgVerify, .imgVerifyDone, .imgDiscard, .imgStgData v] →
    exec c s = .next t →
      t.img.active = s.img.active ∧ imgSlot t a = imgSlot s a ∧ imgLen t a = imgLen s a ∧ t.img.floor = s.img.floor ∧
      t.img.safe0 = s.img.safe0 ∧ t.img.safe1 = s.img.safe1 ∧ t.sealed = s.sealed ∧ t.drv = s.drv ∧ t.upd = s.upd

/-- R567, R575: the same operations on the firmware store; BEGIN clears BACKUP. -/
def Obligations.FirmwareStagingCompletes : Prop :=
  (∀ (who : StgIssuer) (p : Party) (s : State), ctrlOn s = true → (who = .host ∧ p = .host) ∨ (who = .recovery ∧ p = .recovery) ∨
      (who = .hier .equal ∧ p = .hier ∧ ctrlRun s = true ∧ (soleTwin s).isSome = true) →
    (stgJudge .firmware p false s = .ok → Completes (.updBegin who) s fun t =>
      t.upd = { s.upd with stg := ⟨.opened, p, true, []⟩, backup := false } ∧ getF t (stgResult .firmware) = 0 ∧
      flag t (stgBusy .firmware) = true) ∧
    (stgJudge .firmware p false s ≠ .ok → Completes (.updBegin who) s fun t =>
      t.upd = s.upd ∧ getF t (stgResult .firmware) = (stgJudge .firmware p false s).num) ∧
    (stgJudge .firmware p true s = .ok →
      (Completes (.updCommit who) s fun t => t.upd.stg = { s.upd.stg with st := .pending } ∧ getF t (stgResult .firmware) = 0 ∧
        fwLen t (!s.upd.slot) = stgLenReg s .firmware) ∧
      (Completes (.updAbort who) s fun t =>
        t.upd = { s.upd with stg := { s.upd.stg with st := .empty } } ∧ getF t (stgResult .firmware) = 0)) ∧
    (stgJudge .firmware p true s ≠ .ok →
      (Completes (.updCommit who) s fun t => t.upd = s.upd ∧ getF t (stgResult .firmware) = (stgJudge .firmware p true s).num) ∧
      (Completes (.updAbort who) s fun t =>
        t.upd = s.upd ∧ getF t (stgResult .firmware) = (stgJudge .firmware p true s).num))) ∧
  (∀ (c : Copies) (s : State), (soleTwin s).isNone = true → ∀ x, x ∈ [Instr.updBegin (.hier c), .updCommit (.hier c), .updAbort (.hier c)] →
    Completes x s fun t => t = s) ∧
  (∀ s : State, ctrlOn s = true →
    (flag s (stgBusy .firmware) = false → s.upd.stg.st = .pending ∨ s.upd.stg.st = .rejected → Completes .updDiscard s fun t =>
      t.upd = { s.upd with stg := { s.upd.stg with st := .empty } } ∧ getF t (stgResult .firmware) = 0) ∧
    (flag s (stgBusy .firmware) = true ∨ s.upd.stg.st = .empty ∨ s.upd.stg.st = .opened → Completes .updDiscard s fun t =>
      t.upd = s.upd ∧ getF t (stgResult .firmware) = (if flag s (stgBusy .firmware) then 1 else 2))) ∧
  (∀ s : State, s.upd.stg.zeroing = true → Completes .updBeginDone s fun t =>
    t.upd.stg = { s.upd.stg with zeroing := false, held := [] } ∧ flag t (stgBusy .firmware) = false ∧
    (s.upd.stg.held = [] → stagedOf t .firmware = [])) ∧
  (∀ (v : Word) (s : State), ctrlOn s = true →
    (s.upd.stg.st = .opened → s.upd.stg.owner = .host → stgOff s .firmware < 90112 → Completes (.updStgData v) s fun t =>
      getR t 0x50008 = w32 ((stgOff s .firmware + 4) % 2 ^ 17) ∧ (∀ o, o ≠ 0x50008 → getR t o = getR s o) ∧
      (if s.upd.stg.zeroing then
        t.upd = { s.upd with stg := { s.upd.stg with held := s.upd.stg.held ++ [(stgOff s .firmware, wordBytes v)] } }
       else stgOff s .firmware + 4 ≤ 90112 → ∀ i, tabGet zeroByte (stagedOf t .firmware) i =
        if stgOff s .firmware ≤ i ∧ i < stgOff s .firmware + 4 then (wordBytes v).getD (i - stgOff s .firmware) 0
        else tabGet zeroByte (stagedOf s .firmware) i)) ∧
    (s.upd.stg.st ≠ .opened ∨ s.upd.stg.owner ≠ .host ∨ 90112 ≤ stgOff s .firmware → Completes (.updStgData v) s fun t => t = s))

/-- R575, R588: SAVE_SETTINGS and DEFAULTS, in READY with CTRL RUN, wait for the step boundary with BUSY set; each is
answered BUSY while BUSY is 1, and otherwise STATE outside READY and RUN. R585, R590: the save ends where a twin is live: the
record goes, with its MAGIC, over the copy of the lower WSEQ, its WSEQ one above the other copy's, the other copy stays, BUSY
clears, and UPD_EVT is raised; unequal copies of two twins IN_STEP are counted and written all the same (R527); with both
twins failed nothing is written (R532). R580: RECOVER_NEXT sets the recovery flag, and is answered BUSY while BUSY is 1.
R578: a trial that times out before READY fails: both seals are gone, stage ROM runs again and no domain changes state;
outside a trial's start the timeout does nothing. Which copy is damaged while it is written is the choice of the model (log
145). -/
def Obligations.SettingsComplete : Prop :=
  (∀ s : State, ctrlOn s = true →
    (flag s (stgBusy .firmware) = false → ctrlRun s = true → atReady s = true →
      (Completes .saveSettings s fun t => t.upd = { s.upd with setAsk := some false } ∧ flag t (stgBusy .firmware) = true) ∧
      (Completes .defaults s fun t => t.upd = { s.upd with setAsk := some true } ∧ flag t (stgBusy .firmware) = true)) ∧
    (flag s (stgBusy .firmware) = true ∨ ctrlRun s = false ∨ atReady s = false →
      (Completes .saveSettings s fun t => t.upd = s.upd ∧ getF t (stgResult .firmware) = (if flag s (stgBusy .firmware) then 1 else 2)) ∧
      (Completes .defaults s fun t => t.upd = s.upd ∧ getF t (stgResult .firmware) = (if flag s (stgBusy .firmware) then 1 else 2)))) ∧
  (∀ (xs : List (Nat × List Word)) (c : Copies) (s : State), s.upd.saving = some xs → ctrlRun s = true →
    (soleTwin s).isSome = true → c = .equal ∨ (c = .differ ∧ bothInStep s = true) →
    ∀ n, n = (if overSecond s then (readCopy s.upd.setA).wseq else if (readCopy s.upd.setB).good then (readCopy s.upd.setB).wseq else 0) + 1 →
    ∀ b, b = copyBytes n (getF s ⟨0x50028, 0, 16⟩) xs → Completes (.settingsSaveDone c) s fun t =>
      t.upd.saving = none ∧ flag t (stgBusy .firmware) = false ∧ getF t (stgResult .firmware) = 0 ∧ t.upd.stg = s.upd.stg ∧
      (srcHost s 15 = 1 ∨ srcHost s 15 = 2 → srcBit t 0x20120 15 = true) ∧
      (overSecond s = true → t.upd.setA = s.upd.setA ∧ ∀ i, i < b.length → tabGet zeroByte t.upd.setB i = b.getD i 0) ∧
      (overSecond s = false → t.upd.setB = s.upd.setB ∧ ∀ i, i < b.length → tabGet zeroByte t.upd.setA i = b.getD i 0) ∧
      (c = .equal → t.twn = s.twn) ∧ (c = .differ → t.twn.a = .proving ∧ t.twn.b = .proving)) ∧
  (∀ (c : Copies) (s : State), s.upd.saving = none ∨ (soleTwin s).isNone = true →
    Completes (.settingsSaveDone c) s fun t => t = s) ∧
  (∀ s : State, ctrlOn s = true →
    (flag s (stgBusy .firmware) = false → Completes .recoverNext s fun t =>
      t.upd = { s.upd with recFlag := true } ∧ getF t (stgResult .firmware) = 0) ∧
    (flag s (stgBusy .firmware) = true → Completes .recoverNext s fun t => t.upd = s.upd ∧ getF t (stgResult .firmware) = 1)) ∧
  (∀ s : State,
    (flag s ⟨0x50004, 5, 1⟩ = true → s.sys.start.isSome = true → 3 ≤ getF s stageFld → Completes .trialTimeout s fun t =>
      t.sealed = [] ∧ imgSealed t = false ∧ (getF t stageFld = 3 ∨ getF t stageFld = 14) ∧ ∀ d : Dom, domState t d = domState s d) ∧
    (flag s ⟨0x50004, 5, 1⟩ = false ∨ s.sys.start = none → Completes .trialTimeout s fun t => t = s))

/-- R583: in RECOVERY a request of VER 1 and of a LEN that R582 admits, that is not the last one answered, while no other's
session is open, is carried out and answered with its code: HELLO with the recovery data; BEGIN that is answered OK opens the
session; DATA at the next byte of the session advances it, and any other DATA is answered STATE; COMMIT and ABORT answered OK
end it; BOOT asks for a module reset. The last request is answered again without being carried out; another's request during
a session is answered BUSY. A request of another VER or LEN, and one outside RECOVERY, does nothing. HELLO is announced each
second; what stands in its SEQ, TARGET, OFFSET and TOTAL is left open; and a session that times out ends. -/
def Obligations.RecoveryRequestsComplete : Prop :=
  (∀ s : State, inRecovery s = true → Completes .rcvHelloPeriod s fun t =>
    ∃ (q : BitVec 16) (g : Byte) (x y : Word),
    t = emit (.recovery 0xFFFFFFFFFFFF (recoveryBody 1 q g 0 x y (helloData s))) { s with free := s.free + 3 }) ∧
  (∀ (q : RcvReq) (s : State), inRecovery s = true → rcvShape q = true → (∀ x, s.upd.sess = some x → x.owner = q.src) →
    (∀ x, s.upd.last = some x → x.1 ≠ q.seq) →
    (Completes (.rcvHello q) s fun t => t.upd = { s.upd with last := some (q.seq, 1, .ok) } ∧
      t.out = rcvReply 1 q .ok (helloData s) :: s.out) ∧
    (Completes (.rcvBegin q) s fun t =>
      t.upd.last = some (q.seq, 2, stgJudge (targetStore q.target) .recovery false s) ∧
      t.out = rcvReply 2 q (stgJudge (targetStore q.target) .recovery false s) [] :: s.out ∧
      t.upd.sess = (if stgJudge (targetStore q.target) .recovery false s = .ok then some ⟨q.src, targetStore q.target, 0⟩ else s.upd.sess) ∧
      (stgJudge (targetStore q.target) .recovery false s = .ok → staging t (targetStore q.target) = ⟨.opened, .recovery, true, []⟩)) ∧
    (∀ x, s.upd.sess = some x →
      (x.store = targetStore q.target → x.next = q.offset → (staging s x.store).st = .opened → (staging s x.store).owner = .recovery →
        q.offset < stgLimit x.store → Completes (.rcvData q) s fun t =>
          t.upd.sess = some { x with next := q.offset + q.len } ∧ t.upd.last = some (q.seq, 3, .ok) ∧
          t.out = rcvReply 3 q .ok [] :: s.out) ∧
      (x.store ≠ targetStore q.target ∨ x.next ≠ q.offset → Completes (.rcvData q) s fun t =>
        t.upd = { s.upd with last := some (q.seq, 3, .state) } ∧ t.out = rcvReply 3 q .state [] :: s.out)) ∧
    (s.upd.sess = none → Completes (.rcvData q) s fun t =>
      t.upd = { s.upd with last := some (q.seq, 3, .state) } ∧ t.out = rcvReply 3 q .state [] :: s.out) ∧
    (Completes (.rcvCommit q) s fun t =>
      t.upd.last = some (q.seq, 4, stgJudge (targetStore q.target) .recovery true s) ∧
      t.out = rcvReply 4 q (stgJudge (targetStore q.target) .recovery true s) [] :: s.out ∧
      (stgJudge (targetStore q.target) .recovery true s = .ok → t.upd.sess = none ∧ (staging t (targetStore q.target)).st = .pending) ∧
      (stgJudge (targetStore q.target) .recovery true s ≠ .ok → t.upd.sess = s.upd.sess)) ∧
    (Completes (.rcvAbort q) s fun t =>
      t.upd.last = some (q.seq, 5, stgJudge (targetStore q.target) .recovery true s) ∧
      t.out = rcvReply 5 q (stgJudge (targetStore q.target) .recovery true s) [] :: s.out ∧
      (stgJudge (targetStore q.target) .recovery true s = .ok → t.upd.sess = none ∧ (staging t (targetStore q.target)).st = .empty) ∧
      (stgJudge (targetStore q.target) .recovery true s ≠ .ok → t.upd.sess = s.upd.sess)) ∧
    (Completes (.rcvBoot q) s fun t => t.upd.last = some (q.seq, 6, resetAnswer s .module) ∧
      t.out = rcvReply 6 q (resetAnswer s .module) [] :: s.out ∧
      (resetAnswer s .module = .ok → t.sys.rstWait = some (.module, false)))) ∧
  (∀ (q : RcvReq) (o : Nat) (x : Code) (s : State), inRecovery s = true → rcvShape q = true →
    (∀ x, s.upd.sess = some x → x.owner = q.src) → s.upd.last = some (q.seq, o, x) → ∀ c, c ∈ [Instr.rcvBegin q, .rcvData q, .rcvCommit q, .rcvAbort q, .rcvBoot q] →
      Completes c s fun t => t = emit (rcvReply o q x []) s) ∧
  (∀ (q : RcvReq) (x : RcvSess) (s : State), inRecovery s = true → rcvShape q = true → s.upd.sess = some x →
    x.owner ≠ q.src →
    ∀ c, c ∈ [(2, Instr.rcvBegin q), (3, .rcvData q), (4, .rcvCommit q), (5, .rcvAbort q), (6, .rcvBoot q)] →
      Completes c.2 s fun t => t = emit (rcvReply c.1 q .busy []) s) ∧
  (∀ (q : RcvReq) (s : State), inRecovery s = false ∨ rcvShape q = false →
    ∀ c, c ∈ [Instr.rcvHello q, .rcvBegin q, .rcvData q, .rcvCommit q, .rcvAbort q, .rcvBoot q] → Completes c s fun t => t = s) ∧
  (∀ s : State, s.upd.sess.isSome = true → Completes .rcvSessionTimeout s fun t => t = { s with upd := { s.upd with sess := none } })

/-! ### The host port -/

/-- R156, R158, R163: a configuration write of a linked function is stored, and with MSI disabled none stays pending; without
the link it has no effect. R171: the status byte is answered, which clears PARTIAL and BADOP; R170: an opcode outside the
table, a write cut short, and a read cut short. R167 to R170: a QSPI read transaction is its words one after the other, each
read as the register is (R4, R9); a write transaction is its words one after the other, each a write of its register. The
forms on four lines do the same. -/
def Obligations.PortCommandsComplete : Prop :=
  ((∀ (cfg : PciCfg) (s : State),
    (s.port.link = true → Completes (.pcieConfigWrite cfg) s fun t => t.port.cfg = cfg ∧ (cfg.msiEnable = false → t.port.msiPend = 0)) ∧
    (s.port.link = false → Completes (.pcieConfigWrite cfg) s fun t => t = s)) ∧
  (∀ s : State, Completes .qspiStatus s fun t =>
    t = { s with hostData := [qspiStatusByte s], port := { s.port with partialWord := false, badop := false } }) ∧
  (∀ (op : Byte) (s : State),
    (op ∉ qspiOpcodes → Completes (.qspiBadop op) s fun t => t = { s with port := { s.port with badop := true } }) ∧
    (op ∈ qspiOpcodes → Completes (.qspiBadop op) s fun t => t = s)) ∧
  (∀ s : State, (Completes (.qspiCsAbort true) s fun t => t = { s with port := { s.port with partialWord := true } }) ∧
    (Completes (.qspiCsAbort false) s fun t => t = s))) ∧
  (∀ (addr n : Nat) (v : Word) (vs : List Word) (s : State),
    (Completes (.qspiRead addr 0) s fun t => t = { s with hostData := [] }) ∧
    (Completes (.rcRead .qspi addr none) s fun u => Completes (.qspiRead (addr + 4) n) u fun w =>
      exec (.qspiRead addr (n + 1)) s = .next { w with hostData := u.hostData ++ w.hostData }) ∧
    (Completes (.qspiRead addr n) s fun t => t.hostData.length = n) ∧
    (exec (.qspiQread addr n) s = exec (.qspiRead addr n) s) ∧
    (Completes (.qspiWrite addr []) s fun t => t = s) ∧
    (exec (.qspiWrite addr [v]) s = exec (.registerWrite (.host .qspi) addr v 0) s) ∧
    (Completes (.qspiWrite addr [v]) s fun t => exec (.qspiWrite addr (v :: vs)) s = exec (.qspiWrite (addr + 4) vs) t) ∧
    (exec (.qspiQwrite addr vs) s = exec (.qspiWrite addr vs) s))

/-- R190: a write of DMA_RING_CFG is stored, and a rise of EN clears the ring. R179, R182: a write of TAIL stores it, and
posts its descriptors to a ring that is enabled and not halted; it ends the wait, and a receive frame that waits goes on.
R182, R183, R185: the next frame queued for the receive ring, and the next block for the telemetry ring, is written into the
buffers posted, and waits for more where they do not hold it; a ring that is not served drops it, whatever is in progress
while the bus master may issue no request (R158). R183, R158: a wait that expires ends the frame, or waits for the bus. No
perturbation is applied (TST is locked), and none delays the ring any more. -/
def Obligations.RingWritesComplete : Prop :=
  (∀ (r : Fin 4) (v : Word) (s : State), ctrlOn s = true → Completes (.dmaRingEnable r v) s fun t =>
    getR t (ringReg r.val 8) = v &&& 0xFFFF001F ∧
    (ringEn s r.val = false → bitOf v 0 = true →
      (ring t r.val).desc = [] ∧ (ring t r.val).rx = none ∧ ringHead t r.val = 0 ∧ ringHalt t r.val = false) ∧
    (ringEn s r.val = true ∨ bitOf v 0 = false → ring t r.val = { ring s r.val with bad := (ring t r.val).bad } ∧
      ∀ o, o ≠ ringReg r.val 8 → getR t o = getR s o)) ∧
  (∀ (r : Fin 4) (v : Word) (ds : List Desc) (s : State), ctrlOn s = true → tstUnlocked s = false → (ring s r.val).tails = [] →
    Completes (.dmaTailWrite r v ds) s fun t =>
      getF t ⟨ringReg r.val 0x10, 0, 12⟩ = v.toNat % 4096 ∧
      (ringEn s r.val = false ∨ ringHalt s r.val = true → (ring t r.val).desc = (ring s r.val).desc) ∧
      (ringEn s r.val = true → ringHalt s r.val = false →
        ((ring s r.val).waiting = false ∨ r.val = 0 → (ring t r.val).desc = (ring s r.val).desc ++ ds) ∧
        (r.val = 0 → (ring s 0).expired = false → ds ≠ [] → (ring t 0).waiting = false) ∧
        (∀ f, (ring s r.val).rx = some f → r.val = 1 ∨ r.val = 2 → (ring s r.val).waiting = true → (ring s r.val).expired = false →
          (ring s r.val).stall = none → ds ≠ [] → dmaActive s = true →
          ∀ x, x = fillBuffers ((ring s r.val).desc ++ ds) f.rest → (ring t r.val).desc = x.2.2 ∧
            (x.2.1 = [] → (ring t r.val).rx = none ∧ (ring t r.val).waiting = false) ∧
            (x.2.1 ≠ [] → (ring t r.val).waiting = true ∧
              (ring t r.val).rx = some ⟨f.item, x.2.1, f.filled ++ x.1.map (fun e => (e.1, e.2.length))⟩)))) ∧
  (∀ (r : Nat) (s : State), ctrlOn s = true → tstUnlocked s = false → ∀ c, c ∈ [(1, Instr.frxFrame), (2, .tlmBlock)] → r = c.1 →
    (∀ x more, (ring s r).staging = x :: more →
      (ringLive s r = false → (ring s r).rx = none ∨ busAllowed s = false → Completes c.2 s fun t => ring t r = { ring s r with staging := more } ∧
        (getR t (ringReg r 0x20)).toNat = min (2 ^ 32 - 1) ((getR s (ringReg r 0x20)).toNat + 1)) ∧
      (ringLive s r = true → (ring s r).rx = none → (ring s r).stall = none → ∀ y, y = fillBuffers (ring s r).desc x.bytes →
        Completes c.2 s fun t => (ring t r).staging = more ∧ (ring t r).desc = y.2.2 ∧
          (y.2.1 = [] → (ring t r).rx = none ∧ (ring t r).waiting = false ∧
            (getR t (ringReg r 0x18)).toNat = min (2 ^ 32 - 1) ((getR s (ringReg r 0x18)).toNat + 1)) ∧
          (y.2.1 ≠ [] → (ring t r).waiting = true ∧
            (ring t r).rx = some ⟨x, y.2.1, y.1.map (fun e => (e.1, e.2.length))⟩))) ∧
    ((ring s r).staging = [] ∨ ((ring s r).rx.isSome = true ∧ busAllowed s = true) → Completes c.2 s fun t => t = s)) ∧
  (∀ (r : Fin 4) (f : RxFrame) (s : State),
    (r.val = 1 ∨ r.val = 2 → (ring s r.val).rx = some f → (ring s r.val).waiting = true → (ring s r.val).desc = [] →
      (dmaActive s = true ∨ f.filled = [] → Completes (.dmaWaitExpire r) s fun t =>
        (ring t r.val).rx = none ∧ (ring t r.val).waiting = false ∧ (ring t r.val).staging = (ring s r.val).staging) ∧
      (dmaActive s = false → f.filled ≠ [] → Completes (.dmaWaitExpire r) s fun t =>
        t = setRing r.val { ring s r.val with expired := true } s)) ∧
    ((ring s r.val).rx = none ∨ (ring s r.val).waiting = false ∨ (ring s r.val).desc ≠ [] ∨ r.val = 0 ∨ r.val = 3 →
      Completes (.dmaWaitExpire r) s fun t => t = s))

/-- R186, R174: descriptors with their bytes join the frame being gathered from FTX; with one that ends the frame it leaves
the ring, is counted, and reaches the splitter in RUN after READY unless its PORT is 4, 5 or 6. An expired wait discards the
part gathered, or waits for the bus (R158). R187: a BLK transfer takes its descriptor and advances HEAD. R189: a read error
or timeout halts a ring that has not halted, with its cause, whether it is still served or not, and abandons what is in
progress. No perturbation is applied (TST is locked), and none stalls the rings any more. -/
def Obligations.TransmitRingsComplete : Prop :=
  (∀ (data : List (List Byte)) (s : State), ctrlOn s = true → ringLive s 0 = true → tstUnlocked s = false →
    s.dma0.stall = none →
    ∀ new, new = (s.dma0.desc.zip data).map (fun e => (e.1, e.2.take (descCap e.1))) →
    (∀ x, takeFrame (s.dma0.gather ++ new) = some x → Completes (.ftxFrame data) s fun t =>
      t.dma0.desc = x.2.map (·.1) ++ s.dma0.desc.drop new.length ∧ t.dma0.gather = [] ∧ t.dma0.waiting = false ∧
      (getR t (ringReg 0 0x18)).toNat = min (2 ^ 32 - 1) ((getR s (ringReg 0 0x18)).toNat + 1) ∧
      (ctrlRun s = true → atReady s = true → t.twn.inbox.length = s.twn.inbox.length +
        (if 4 ≤ ((x.1.headD (⟨0, 0, 0, 0⟩, [])).1.ctrl.toNat >>> 10) % 8 ∧ ((x.1.headD (⟨0, 0, 0, 0⟩, [])).1.ctrl.toNat >>> 10) % 8 ≤ 6
         then 0 else 1))) ∧
    (takeFrame (s.dma0.gather ++ new) = none → s.dma0.gather ++ new ≠ [] → Completes (.ftxFrame data) s fun t =>
      t = setRing 0 { s.dma0 with
        desc := s.dma0.desc.drop new.length
        gather := s.dma0.gather ++ new
        waiting := decide (s.dma0.desc.drop new.length = []) } s)) ∧
  (∀ s : State, s.dma0.waiting = true → s.dma0.gather ≠ [] →
    (dmaActive s = true → Completes .ftxWaitExpire s fun t => t.dma0.gather = [] ∧ t.dma0.waiting = false ∧
      (getR t (ringReg 0 0x1C)).toNat = min (2 ^ 32 - 1) ((getR s (ringReg 0 0x1C)).toNat + 1)) ∧
    (dmaActive s = false → Completes .ftxWaitExpire s fun t => t = { s with dma0 := { s.dma0 with expired := true } })) ∧
  (∀ (d : Desc) (rest : List Desc) (data : List Byte) (s : State), ctrlOn s = true → ringLive s 3 = true → tstUnlocked s = false →
    s.dma3.stall = none → s.dma3.desc = d :: rest → d.ctrl.getLsbD 6 = false ∨ data.length = descCap d → Completes (.blkTransfer data) s fun t =>
      t.dma3.desc = rest ∧ ringHead t 3 = (ringHead s 3 + 1) % ringSize s 3 % 4096 ∧
      (getR t (ringReg 3 0x18)).toNat = min (2 ^ 32 - 1) ((getR s (ringReg 3 0x18)).toNat + 1)) ∧
  (∀ (r : Fin 4) (abort : Bool) (s : State), ctrlOn s = true → ringHalt s r.val = false →
    (Completes (.dmaReadError r abort) s fun t => ringHalt t r.val = true ∧
      getF t ⟨ringReg r.val 0x14, 1, 2⟩ = (if abort then 2 else 1) ∧ (ring t r.val).desc = [] ∧ (ring t r.val).rx = none ∧
      (ring t r.val).gather = [] ∧ (ring t r.val).waiting = false) ∧
    (Completes (.dmaReadTimeout r) s fun t => ringHalt t r.val = true ∧ getF t ⟨ringReg r.val 0x14, 1, 2⟩ = 3 ∧
      (ring t r.val).desc = [] ∧ (ring t r.val).rx = none ∧ (ring t r.val).gather = [] ∧ (ring t r.val).waiting = false))

/-- R175, R526, R527: while both twins are IN_STEP the first copy of a frame waits at the host merge; equal copies make one
frame for the ring; of unequal ones the read-source twin's is taken, the mismatch is counted, and a divergence proof begins
(R528); with one live twin its copy passes at once. A copy that stays alone is written at its deadline, and the mismatch
counted; so is one that waited for a twin that has left. The ring takes a frame as R185 says. TST is locked, and nothing is
late. -/
def Obligations.HostMergeCompletes : Prop :=
  (∀ (tlm : Bool) (t : Twin) (x y : HostItem) (s : State), ctrlRun s = true → tstUnlocked s = false → s.twn.late = [] →
    (bothInStep s = true → hostCopies s tlm = [] → Completes (.hostMerge tlm t x) s fun u => u = setHostCopies tlm [{ twin := t, item := x }] s) ∧
    (bothInStep s = true → hostCopies s tlm = [{ twin := t.other, item := y }] → Completes (.hostMerge tlm t x) s fun u =>
      hostCopies u tlm = [] ∧
      ring u (mergeRing tlm) = ring (queueRx (mergeRing tlm) (if x = y ∨ s.twn.readSrc = t then x else y) s) (mergeRing tlm) ∧
      (x = y → u.twn = s.twn) ∧
      (x ≠ y → u.twn.a = .proving ∧ u.twn.b = .proving ∧
        (getR u 0x220008).toNat = min (2 ^ 32 - 1) ((getR s 0x220008).toNat + 1))) ∧
    (bothInStep s = false → shadowTwin s = none → soleTwin s = some t → hostCopies s tlm = [] →
      Completes (.hostMerge tlm t x) s fun u => hostCopies u tlm = [] ∧
        ring u (mergeRing tlm) = ring (queueRx (mergeRing tlm) x s) (mergeRing tlm))) ∧
  (∀ (tlm : Bool) (t : Twin) (x : HostItem) (q : List (Copy HostItem)) (s : State), hostCopies s tlm = { twin := t, item := x } :: q →
    (bothInStep s = true → Completes (.hostMergeTimeout tlm) s fun u => hostCopies u tlm = q ∧
      ring u (mergeRing tlm) = ring (queueRx (mergeRing tlm) x s) (mergeRing tlm) ∧
      (getR u 0x220008).toNat = min (2 ^ 32 - 1) ((getR s 0x220008).toNat + 1) ∧ twinState u t.other = twinState s t.other) ∧
    (bothInStep s = false → shadowTwin s = none → Completes (.hostMergeTimeout tlm) s fun u => hostCopies u tlm = q ∧
      ring u (mergeRing tlm) = (if soleTwin s = some t then ring (queueRx (mergeRing tlm) x s) (mergeRing tlm) else ring s (mergeRing tlm)))) ∧
  (∀ (tlm : Bool) (s : State), hostCopies s tlm = [] → Completes (.hostMergeTimeout tlm) s fun u => u = s)

/-! ### The channel drive and the chain ports -/

/-- R227: a host write of DRV_CH_SET while DRIVE is not OFF stores the code; in RUN from READY on it is captured for both
twins with DRV_CH_RAMP; while DRIVE is OFF it does nothing. R223: the oldest reference on the bus for a channel leaves the
bus; without one nothing arrives, and a channel whose die is lost takes none. -/
def Obligations.ReferenceCommandsComplete : Prop :=
  (∀ (ch : Fin 64) (v : Word) (s : State),
    (driveOn s = true → Completes (.drvChSet ch v) s fun t =>
      getR t (chReg ch.val 0) = v &&& 0xFFFF ∧ (∀ off, off ≠ chReg ch.val 0 → getR t off = getR s off) ∧
      (ctrlRun s = true → atReady s = true → t.twn.inbox = s.twn.inbox ++
        [.drvReq ch.val (v.setWidth 16) ((getR s (chReg ch.val 4)).setWidth 16) (bitOf (getR s (chReg ch.val 4)) 16)])) ∧
    (driveOn s = false → Completes (.drvChSet ch v) s fun t => t = s)) ∧
  (∀ (ch : Fin 64) (us : List Nat) (s : State),
    (∀ x, takeBus ch.val s.drv.bus = some x → Completes (.referenceArrival ch us) s fun t => t.drv.bus = x.2 ∧
      (chPowered s ch.val = false → t.drv.slices = s.drv.slices)) ∧
    (takeBus ch.val s.drv.bus = none → Completes (.referenceArrival ch us) s fun t => t = s))

/-- R223, R225, R226, R233: a reference of a string's lead that reaches the slices is taken by every member of the string,
within that member's own limits: a running member steps to it (RAMP 0), or starts its ramp from its own present working
value; one in soft-start runs on to the new value in the time left; one in BIAS begins its soft-start. No other channel takes
it. The configurations are good (R255). -/
def Obligations.ReferenceTakesEffect : Prop :=
  ∀ (ch : Fin 64) (us : List Nat) (s : State) (x : Ref × List (Nat × Ref)), takeBus ch.val s.drv.bus = some x →
    chPowered s ch.val = true → leadOf s ch.val = ch.val → chBad s ch.val = false → chOn s ch.val = true →
    (∀ m, m ∈ members s ch.val → chBad s m = false) →
    Completes (.referenceArrival ch us) s fun t =>
      (∀ m, m ∈ members s ch.val → ∀ q, q = memberRef s ch.val m x.1 → ∀ w, w = workAt s m (us.getD (m % 8) 0) →
        (slice t m).ref = q ∧
        ((slice s m).st = .run → refUs q = 0 → q.code ≠ 0 → (slice t m).work = q.code.toNat ∧ (slice t m).ramp = none) ∧
        ((slice s m).st = .run → refUs q ≠ 0 → (slice t m).ramp = some ⟨w, q.code.toNat, refUs q, q.log, false⟩) ∧
        ((slice s m).st = .soft →
          (slice t m).ramp = some ⟨w, q.code.toNat, rampUs (slice s m) - us.getD (m % 8) 0, false, true⟩) ∧
        ((slice s m).st = .bias → (slice s m).biased = true → (slice s m).fresh = true → q.code ≠ 0 →
          (slice t m).st = .soft ∧ (slice t m).ramp = some ⟨0, q.code.toNat, 10000, false, true⟩)) ∧
      ∀ m, m ∉ members s ch.val → slice t m = slice s m

/-- R230, R237: a ramp reaches its end value, where 0 is BIAS; a soft-start ends in RUN, or in BIAS; an established bias lets
a held reference begin. R240 to R242: the end of a measurement window reports its means, and an Open or Short that has lasted
is reported. R245 to R247: a probe that is due or asked for starts where a phase is left to switch, and one that finds the
last phase defective makes the channel DEAD; a probe ends, and may blank the window that runs (R241); the retry probe of a
stopped channel that passes returns it to BIAS. -/
def Obligations.RampsAndProbesComplete : Prop :=
  (∀ (ch : Fin 64) (s : State),
    (∀ r, (slice s ch.val).ramp = some r →
      ((r.soft = false ∨ r.c1 = 0) → Completes (.rampEnd ch) s fun t =>
        (slice t ch.val).work = r.c1 ∧ (slice t ch.val).ramp = none ∧ (slice t ch.val).st = (if r.c1 = 0 then .bias else .run)) ∧
      (r.soft = true → r.c1 ≠ 0 → Completes (.rampEnd ch) s fun t => t = s) ∧
      ((slice s ch.val).st = .soft → Completes (.softStartEnd ch) s fun t =>
        (slice t ch.val).work = r.c1 ∧ (slice t ch.val).ramp = none ∧ (slice t ch.val).st = (if r.c1 = 0 then .bias else .run))) ∧
    ((slice s ch.val).ramp = none → Completes (.rampEnd ch) s fun t => t = s) ∧
    ((slice s ch.val).st ≠ .soft → Completes (.softStartEnd ch) s fun t => t = s)) ∧
  (∀ (ch : Fin 64) (s : State),
    ((slice s ch.val).st = .bias → Completes (.biasEstablished ch) s fun t => (slice t ch.val).biased = true ∧
      ((slice s ch.val).ref.code = 0 → (slice t ch.val).st = .bias) ∧
      ((slice s ch.val).ref.code ≠ 0 → (slice t ch.val).st = (if (slice s ch.val).fresh then .soft else .run))) ∧
    ((slice s ch.val).st = .probe → Completes (.biasEstablished ch) s fun t =>
      slice t ch.val = { slice s ch.val with biased := true }) ∧
    ((slice s ch.val).st ≠ .bias → (slice s ch.val).st ≠ .probe → Completes (.biasEstablished ch) s fun t => t = s)) ∧
  (∀ (ch : Fin 64) (v i : Nat) (s : State),
    (chPowered s ch.val = true → Completes (.measWindowEnd ch v i) s fun t =>
      getR t (chReg ch.val 0x2C) = w32 (min 65535 v + min 65535 i * 2 ^ 16) ∧
      ((slice s ch.val).ramp = none → (slice s ch.val).clamp = false → (slice s ch.val).blank = false → (slice s ch.val).st ≠ .soft →
        ∀ loop, loop = scaleCode s.sys.k (slice s ch.val).work → departed (slice s ch.val) loop s.sys.k = false →
          (windowVerdict (vShort s ch.val) (vOpen s ch.val) loop v i = none → (slice t ch.val).qcount = 0) ∧
          (∀ o, windowVerdict (vShort s ch.val) (vOpen s ch.val) loop v i = some o →
            getF s ⟨chReg ch.val 0x24, 0, 4⟩ ≤ (if (slice s ch.val).verdict = some o then (slice s ch.val).qcount + 1 else 1) →
            flag t ⟨chReg ch.val 0x20, if o then 0 else 1, 1⟩ = true))) ∧
    (chPowered s ch.val = false → Completes (.measWindowEnd ch v i) s fun t => t = s)) ∧
  (∀ (ch : Fin 64) (s : State) (c : Instr), c ∈ [Instr.probeDue ch, .probeNow ch] →
    (c = .probeDue ch → (slice s ch.val).failRun = true ∨
      (flag s ⟨chReg ch.val 8, 1, 1⟩ = true ∧ getF s ⟨chReg ch.val 0x24, 16, 8⟩ ≠ 0)) →
    ((slice s ch.val).st = .bias → fromSafe s ch.val = false →
      (((slice s ch.val).phaseA = true ∧ (slice s ch.val).latentA = false) ∨
        ((slice s ch.val).phaseB = true ∧ (slice s ch.val).latentB = false) → Completes c s fun t => (slice t ch.val).st = .probe) ∧
      ((slice s ch.val).phaseA = true → (slice s ch.val).latentA = true →
        (slice s ch.val).phaseB = false ∨ (slice s ch.val).latentB = true →
        Completes c s fun t => (slice t ch.val).st = .dead ∧ flag t ⟨chReg ch.val 0x20, 6, 1⟩ = true)) ∧
    ((slice s ch.val).st ≠ .bias ∨ fromSafe s ch.val = true → Completes c s fun t => t = s)) ∧
  (∀ (ch : Fin 64) (v i : Nat) (s : State),
    ((slice s ch.val).st = .probe → ∀ y, y = fromBias { slice s ch.val with st := .bias } →
      (probeVerdict (vShort s ch.val) (vOpen s ch.val) v i = none → Completes (.probeEnd ch v i) s fun t =>
        slice t ch.val = { y with failRun := false, blank := (slice t ch.val).blank } ∧ t.regs = s.regs) ∧
      (∀ o, probeVerdict (vShort s ch.val) (vOpen s ch.val) v i = some o →
        ((slice s ch.val).failRun = false → Completes (.probeEnd ch v i) s fun t =>
          slice t ch.val = { y with failRun := true, blank := (slice t ch.val).blank } ∧ t.regs = s.regs) ∧
        ((slice s ch.val).failRun = true → Completes (.probeEnd ch v i) s fun t =>
          slice t ch.val = { y with failRun := false, blank := (slice t ch.val).blank } ∧ flag t ⟨chReg ch.val 0x20, if o then 2 else 3, 1⟩ = true))) ∧
    ((slice s ch.val).st ≠ .probe → Completes (.probeEnd ch v i) s fun t => t = s)) ∧
  (∀ (ch : Fin 64) (v i : Nat) (s : State),
    ((slice s ch.val).st = .stopped → getF s ⟨chReg ch.val 0x24, 8, 8⟩ ≠ 0 → (slice s ch.val).latentA = false →
      (slice s ch.val).latentB = false →
      (probeVerdict (vShort s ch.val) (vOpen s ch.val) v i = none →
        (slice s ch.val).phaseA = true ∨ (slice s ch.val).phaseB = true →
        Completes (.retryDue ch v i) s fun t => (slice t ch.val).st = (if j1Ok s then .bias else .waitJ1)) ∧
      (probeVerdict (vShort s ch.val) (vOpen s ch.val) v i ≠ none →
        Completes (.retryDue ch v i) s fun t => (slice t ch.val).st = .stopped)) ∧
    ((slice s ch.val).st ≠ .stopped ∨ getF s ⟨chReg ch.val 0x24, 8, 8⟩ = 0 →
      Completes (.retryDue ch v i) s fun t => t = s))

/-- R244: CLEAR restarts a stopped channel with the phases it has, and a dead one with both, in WAIT_J1 where J1 is low.
R251: PHASE_RETRY returns both phases to service. R249: a phase defect of a stage that is off stays latent, one of a stage
that switches opens the phase. R220: the power clamp engages, is reported, and ceases, which blanks a window that it has
moved the loop reference in (R241). R250: with one phase out of service, a defect of the other makes a running channel DEAD,
with fault bit 6. R252: the eight channels of a lost Kyovi die stop. -/
def Obligations.ChannelFaultsComplete : Prop :=
  (∀ (ch : Fin 64) (s : State), (slice s ch.val).latentA = false → (slice s ch.val).latentB = false →
    ((slice s ch.val).st = .stopped → (slice s ch.val).phaseA = true ∨ (slice s ch.val).phaseB = true →
      Completes (.clear ch) s fun t => (slice t ch.val).st = (if j1Ok s then .bias else .waitJ1) ∧ (slice t ch.val).fresh = true ∧
        (slice t ch.val).phaseA = (slice s ch.val).phaseA ∧ (slice t ch.val).phaseB = (slice s ch.val).phaseB) ∧
    ((slice s ch.val).st = .dead → ∀ c, c ∈ [Instr.clear ch, .phaseRetry ch] → (c = .phaseRetry ch → chPowered s ch.val = true) →
      Completes c s fun t => (slice t ch.val).st = (if j1Ok s then .bias else .waitJ1) ∧
        (slice t ch.val).phaseA = true ∧ (slice t ch.val).phaseB = true)) ∧
  (∀ (ch : Fin 64) (s : State),
    ((slice s ch.val).st ≠ .stopped → (slice s ch.val).st ≠ .dead → Completes (.clear ch) s fun t => t = s) ∧
    (chPowered s ch.val = true → (slice s ch.val).st ≠ .dead → Completes (.phaseRetry ch) s fun t =>
      slice t ch.val = { slice s ch.val with phaseA := true, phaseB := true }) ∧
    (chPowered s ch.val = false → Completes (.phaseRetry ch) s fun t => t = s)) ∧
  (∀ (ch : Fin 64) (b : Bool) (s : State),
    (switching (slice s ch.val) = false ∨ chPowered s ch.val = false → Completes (.phaseFault ch b) s fun t =>
      slice t ch.val = (if b then { slice s ch.val with latentB := true } else { slice s ch.val with latentA := true }) ∧
      t.regs = s.regs) ∧
    (chPowered s ch.val = true → switching (slice s ch.val) = true →
      ∀ mine, mine = (if b then (slice s ch.val).phaseB else (slice s ch.val).phaseA) →
      ∀ other, other = (if b then (slice s ch.val).phaseA else (slice s ch.val).phaseB) →
      (mine = false → Completes (.phaseFault ch b) s fun t => t = s) ∧
      (mine = true → Completes (.phaseFault ch b) s fun t =>
        (if b then (slice t ch.val).phaseB else (slice t ch.val).phaseA) = false ∧
        flag t ⟨chReg ch.val 0x20, if b then 5 else 4, 1⟩ = true ∧ (∀ n, n ≠ ch.val → slice t n = slice s n) ∧
        (other = true → (slice t ch.val).st = (slice s ch.val).st) ∧
        (other = false → (slice s ch.val).st ≠ .stopped →
          (slice t ch.val).st = .dead ∧ flag t ⟨chReg ch.val 0x20, 6, 1⟩ = true)))) ∧
  (∀ (ch : Fin 64) (s : State),
    ((slice s ch.val).st = .run ∨ (slice s ch.val).st = .soft → (slice s ch.val).clamp = false →
      Completes (.pwrClamp ch true) s fun t => (slice t ch.val).clamp = true ∧ flag t ⟨chReg ch.val 0x20, 7, 1⟩ = true) ∧
    (((slice s ch.val).st ≠ .run ∧ (slice s ch.val).st ≠ .soft) ∨ (slice s ch.val).clamp = true →
      Completes (.pwrClamp ch true) s fun t => t = s) ∧
    (Completes (.pwrClamp ch false) s fun t => slice t ch.val = { slice s ch.val with clamp := false, blank := (slice t ch.val).blank } ∧
      t.regs = s.regs ∧ ((slice s ch.val).ramp = none → (slice t ch.val).blank = ((slice s ch.val).blank ||
        departed (slice s ch.val) (scaleCode s.sys.k (slice s ch.val).work) s.sys.k)))) ∧
  (∀ (die : Fin 8) (s : State),
    (driveOn s = true → s.drv.lost.contains die.val = false → Completes (.kyoviLoss die) s fun t =>
      t.drv.lost = die.val :: s.drv.lost ∧ t.regs = s.regs ∧ ∀ n, slice t n = (if n / 8 = die.val then stageOff .off (slice s n)
        else slice s n)) ∧
    (driveOn s = false ∨ s.drv.lost.contains die.val = true → Completes (.kyoviLoss die) s fun t => t = s))

/-- R25, R236, R253: a command of one channel leaves every other channel's slice alone, every register but those of the
channel and the pending words, the references on the bus and the mitre's outputs, and the blocks above the drive. -/
def Obligations.ChannelFrame : Prop :=
  ∀ (ch : Fin 64) (v i : Nat) (w : Word) (b : Bool) (s : State), ∀ c, c ∈ channelCommands ch v i w b →
    Completes c s fun t =>
      (∀ n, n ≠ ch.val → slice t n = slice s n) ∧
      (∀ off, off < 0x100000 + 0x100 * ch.val ∨ 0x100000 + 0x100 * ch.val + 0x100 ≤ off → off < 0x20120 ∨ 0x201C0 ≤ off →
        getR t off = getR s off) ∧
      t.drv.bus = s.drv.bus ∧ t.drv.mitre = s.drv.mitre ∧ t.drv.lost = s.drv.lost ∧ t.chain = s.chain ∧ t.rfx = s.rfx ∧
      t.img = s.img ∧ t.key = s.key ∧ t.cal = s.cal ∧ t.mtr = s.mtr ∧ t.out = s.out ∧ t.pending = s.pending

/-- R223, R29, R125, R239: 0 always passes the mitre's clamp as 0. Once an image has loaded the limits it passes no code
above I_MAX, and none but 0 for a disabled channel; before, it passes none above the safe-level record's LIMIT, nor above the
I_MAX of a channel that the host has enabled. R230: a linear ramp never leaves the range between its ends, starts at one and
ends at the other. -/
def Obligations.LinearRampBounds : Prop :=
  (∀ (s : State) (n c : Nat), clampCode s n 0 = 0 ∧ (chEnabled s n = true → clampCode s n c ≤ iMax s n) ∧
    (s.drv.loaded = true → clampCode s n c ≤ iMax s n ∧ (chEnabled s n = false → clampCode s n c = 0)) ∧
    (s.drv.loaded = false → clampCode s n c ≤ safeLimit s n)) ∧
  (∀ (imin us : Nat) (r : Ramp), r.log = false → 0 < r.us →
    min r.c0 r.c1 ≤ rampValue imin r us ∧ rampValue imin r us ≤ max r.c0 r.c1 ∧ rampValue imin r 0 = r.c0 ∧
    (r.us ≤ us → rampValue imin r us = r.c1))

/-- R260: a write of CHN_DRV_SET_HI while DRIVE is not OFF is stored, and captured with its LO word in RUN from READY on.
R261 to R264: a frame that is due starts with the words of its positions; R274: of a bad configuration they are free, as many
as there are drivers. R262, R268: a frame in progress latches its words, is sent in its bit order, and counts. R269, R270:
its return is compared where CHECK asks for it. R264, R265: a refresh that is due asks for a frame; during one it is an
overrun. R266: RESHIFT asks for one, from READY on. R271: MEASURE starts at once where no frame runs, else it waits for its
end; its end reports the count of drivers, or no return, and asks for a frame that is not compared. -/
def Obligations.ChainCompletes : Prop :=
  ((∀ (k : Fin 4) (d : Fin 128) (v : Word) (s : State),
    (driveOn s = true → Completes (.chnDrvSet k d v) s fun t => getR t (chnReg k.val (0x804 + 8 * d.val)) = v &&& 0xFFFF ∧
      (ctrlRun s = true → atReady s = true → t.twn.inbox = s.twn.inbox ++
        [.chnReq k.val d.val (v.setWidth 16 ++ getR s (chnReg k.val (0x800 + 8 * d.val)))])) ∧
    (driveOn s = false → Completes (.chnDrvSet k d v) s fun t => t = s)) ∧
  (∀ (k : Fin 4) (s : State),
    (frameDue s k.val = true → Completes (.chainFrameStart k) s fun t =>
      flag t (chnActive k.val) = true ∧ (chain t k.val).shifting.length = chnDrivers s k.val ∧ (chain t k.val).newWord = false ∧
      (chnBad s k.val = false → (chain t k.val).shifting = frameWords s k.val ∧
        getF t ⟨chnReg k.val 0x14, 16, 11⟩ = chnDiv (getF s ⟨chnReg k.val 4, 0, 16⟩) % 2048)) ∧
    (frameDue s k.val = false → Completes (.chainFrameStart k) s fun t => t = s)) ∧
  (∀ (k : Fin 4) (ret : List Bool) (s : State),
    (flag s (chnActive k.val) = true → chnUp s k.val = true → Completes (.chainLatch k ret) s fun t =>
      t.out = .chain k.val ((chain s k.val).shifting.flatMap (wordBits (chain s k.val).msb)) :: s.out ∧
      flag t (chnActive k.val) = false ∧ (chain t k.val).prev = (chain s k.val).shifting ∧
      (getR t (chnReg k.val 0x24)).toNat = min (2 ^ 32 - 1) ((getR s (chnReg k.val 0x24)).toNat + 1) ∧
      ∀ want, want = (chain s k.val).prev.flatMap (wordBits (chain s k.val).prevMsb) →
        ((flag s ⟨chnReg k.val 0, 1, 1⟩ && !(chain s k.val).skipNow) = flag t (chnChecked k.val)) ∧
        (flag s ⟨chnReg k.val 0, 1, 1⟩ = true → (chain s k.val).skipNow = false →
          (firstDiff want ret 0 = none → oneLevel ret = oneLevel want → getR t (chnReg k.val 0x18) = getR s (chnReg k.val 0x18)) ∧
          (firstDiff want ret 0 ≠ none → oneLevel ret = false → flag t ⟨chnReg k.val 0x18, 0, 1⟩ = true) ∧
          (oneLevel ret = true → oneLevel want = false → flag t ⟨chnReg k.val 0x18, 1, 1⟩ = true))) ∧
    (flag s (chnActive k.val) = false ∨ chnUp s k.val = false → Completes (.chainLatch k ret) s fun t => t = s))) ∧
  ((∀ (k : Fin 4) (s : State),
    (chnEnable s k.val = true → chnUp s k.val = true → getF s ⟨chnReg k.val 8, 0, 16⟩ ≠ 0 →
      Completes (.chainRefreshDue k) s fun t => chain t k.val = { chain s k.val with refresh := true } ∧
        (flag s (chnActive k.val) = true → flag t ⟨chnReg k.val 0x18, 4, 1⟩ = true) ∧
        (flag s (chnActive k.val) = false → t.regs = s.regs)) ∧
    (chnEnable s k.val = false ∨ chnUp s k.val = false ∨ getF s ⟨chnReg k.val 8, 0, 16⟩ = 0 →
      Completes (.chainRefreshDue k) s fun t => t = s)) ∧
  (∀ (k : Fin 4) (s : State),
    (chnUp s k.val = true → flag s (chnReady k.val) = true → Completes (.reshift k) s fun t =>
      t = setChain k.val { chain s k.val with reshift := true } s) ∧
    (chnUp s k.val = false ∨ flag s (chnReady k.val) = false → Completes (.reshift k) s fun t => t = s)) ∧
  (∀ (k : Fin 4) (s : State),
    (chnUp s k.val = true → flag s (chnMeasuring k.val) = false →
      (flag s (chnActive k.val) = false → Completes (.measure k) s fun t =>
        flag t (chnMeasuring k.val) = true ∧ chain t k.val = { chain s k.val with measReq := false }) ∧
      (flag s (chnActive k.val) = true → Completes (.measure k) s fun t =>
        t = setChain k.val { chain s k.val with measReq := true } s)) ∧
    (chnUp s k.val = false ∨ flag s (chnMeasuring k.val) = true → Completes (.measure k) s fun t => t = s)) ∧
  (∀ (k : Fin 4) (edges : Nat) (s : State),
    (flag s (chnMeasuring k.val) = true →
      (Completes (.measureDone k edges) s fun t =>
        flag t (chnMeasuring k.val) = false ∧ getF t ⟨chnReg k.val 0x14, 8, 8⟩ = edges / 48 % 256 ∧
        chain t k.val = { chain s k.val with reshift := true, skip := true } ∧
        ((edges % 48 ≠ 0 ∨ edges / 48 ≠ chnDrivers s k.val) → flag t ⟨chnReg k.val 0x18, 3, 1⟩ = true) ∧
        (edges % 48 = 0 → edges / 48 = chnDrivers s k.val → getR t (chnReg k.val 0x18) = getR s (chnReg k.val 0x18))) ∧
      (Completes (.measureNoret k) s fun t => flag t (chnMeasuring k.val) = false ∧
        chain t k.val = { chain s k.val with reshift := true, skip := true } ∧ flag t ⟨chnReg k.val 0x18, 2, 1⟩ = true)) ∧
    (flag s (chnMeasuring k.val) = false →
      (Completes (.measureDone k edges) s fun t => t = s) ∧ (Completes (.measureNoret k) s fun t => t = s))))

/-! ### The reflex fabric and the mitre -/

/-- R277: presence edges show on their pins, whatever FAB is; while it is OFF they change no register, where none of them
wakes. R278: the strobe reports the mean of every enabled input, with OVER, and 0 for a disabled one. R280: a timer whose
last strobe has come stops (no loaded cell starts one). R282: the mode word is stored. R291: locks are cleared. R300: the
clock stops in ARMED-COLD alone. While FAB is OFF nothing happens. -/
def Obligations.FabricCommandsComplete : Prop :=
  (∀ (es : List (Fin 32 × Bool)) (s : State),
    (Completes (.presenceEdge es) s fun t => t.rfx.pins = (setPins (plainEdges es) s).rfx.pins) ∧
    (fabOn s = false → (∀ e, e ∈ es → bitOf (getR s 0x24) e.1.val = false) →
      Completes (.presenceEdge es) s fun t => t.regs = s.regs ∧ t.drv = s.drv)) ∧
  (∀ (sums : List Nat) (s : State), fabOn s = true → Completes (.ainStrobe sums) s fun t => ∀ j, j < 8 →
    (inEnabled s (32 + j) = true → ∀ m, m = min 11000 (sums.getD j 0 / 64) →
      getR t (0x130200 + 4 * j) = w32 (m + b2n (decide (10500 < m)) * 2 ^ 16)) ∧
    (inEnabled s (32 + j) = false → getR t (0x130200 + 4 * j) = 0)) ∧
  (∀ (ts : List (Fin 64)) (s : State), fabOn s = true → (∀ c, c ∈ loadedCells s → (cellOf s c).op ≠ 5) →
    Completes (.fabricTimerExpire ts) s fun t => ∀ n, n ∈ ts → s.rfx.due.contains n.val = true →
      getR t (tmrReg n.val) = 0 ∧ t.rfx.due.contains n.val = false) ∧
  (∀ (v : Word) (s : State), fabOn s = true → Completes (.rfxModeWrite v) s fun t => getR t 0x130004 = v) ∧
  (∀ (hi : Bool) (v : Word) (s : State), fabOn s = true → Completes (.rfxLockClr hi v) s fun t =>
    flag t clkRun = true ∧
    ∀ i, i < 32 → getR t (lockReg ((if hi then 32 else 0) + i)) =
      (if bitOf v i then 0 else getR s (lockReg ((if hi then 32 else 0) + i)))) ∧
  (∀ s : State, (fab s = .cold → Completes .fabricClockStop s fun t => t = setB clkRun false s) ∧
    (fab s ≠ .cold → Completes .fabricClockStop s fun t => t = s)) ∧
  (∀ (sums : List Nat) (ts : List (Fin 64)) (v : Word) (hi : Bool) (s : State), fabOn s = false →
    ∀ c, c ∈ [Instr.ainStrobe sums, .fabricTimerExpire ts, .rfxModeWrite v, .rfxLockClr hi v] → Completes c s fun t => t = s)

/-- R283 to R287, R289, R293: the reflex. A rising edge of an enabled presence input meets the one loaded cell that names it,
ungated and enabled, whose action is SET: on every target channel that is enabled for the fabric and not locked, the mitre's
output is the cell's LEVEL, clamped; no other channel's output changes; and one firing is counted. No edge of the input wakes
the module. -/
def Obligations.ReflexSets : Prop :=
  ∀ (i : Fin 32) (n : Nat) (s : State), loadedCells s = [n] → ∀ c, c = cellOf s n →
    c.cls = 0 → c.src = i.val → (c.cond = 1 ∨ c.cond = 3) → c.op = 1 → c.argA.testBit 15 = false → c.argB.testBit 15 = false →
    cellEnabled s n = true → fabOn s = true → inEnabled s i.val = true → inInverted s i.val = false →
    bitOf s.rfx.pins i.val = false → bitOf s.rfx.seen i.val = false → bitOf (getR s 0x24) i.val = false →
    (∃ ch, ch ∈ c.targets ∧ locked s ch = false) →
    Completes (.presenceEdge [(i, true)]) s fun t =>
      (∀ ch, ch ∈ c.targets → locked s ch = false → rfxChEn s ch = true →
        tabGet (fun _ => 0) t.drv.mitre ch = BitVec.ofNat 16 (clampCode s ch c.level)) ∧
      (∀ ch, ch ∉ c.targets → tabGet (fun _ => 0) t.drv.mitre ch = tabGet (fun _ => 0) s.drv.mitre ch) ∧
      (getR t 0x130040).toNat = min (2 ^ 32 - 1) ((getR s 0x130040).toNat + 1)

/-- R526, R79: while DRIVE is LIVE and both twins are IN_STEP the first copy of an item waits at the mitre, and nothing
passes with no edge beside it; in HOLD the mitre ignores it. Of unequal copies the disagreement is counted and a divergence
proof begins (R528). A copy whose deadline comes leaves the mitre: while both twins are IN_STEP it passes, and the other
twin's is counted as missing. Copies meet by what they are for and by the step of issue. TST is locked. R526, R223, R226,
R258, R293: equal copies from both twins, no presence edge with them, pass the mitre. Of a reference: where the channel is
not locked, its clamped code is the mitre's output, and the reference is on the bus; while the channel is locked it is
withheld. Of a chain word: it is the word of its position. The one live twin's reference passes so at once. TST is locked. -/
def Obligations.MitreCommandsComplete : Prop :=
  ((∀ (t : Twin) (x y : MitreItem) (st : BitVec 64) (es : List (Fin 32 × Bool)) (s : State), ∀ w : MitreWait, w = ⟨x.key, st⟩ →
    (driveLive s = true → bothInStep s = true → tstUnlocked s = false →
      (copiesOf s w = [] → Completes (.mitreTwinReference t ⟨x, st⟩ es) s fun u =>
        copiesOf u w = [{ twin := t, item := x, step := st }] ∧ (es = [] → u.drv = s.drv ∧ u.chain = s.chain ∧ u.regs = s.regs)) ∧
      (copiesOf s w = [{ twin := t.other, item := y, step := st }] → x ≠ y → Completes (.mitreTwinReference t ⟨x, st⟩ es) s fun u =>
        copiesOf u w = [] ∧ u.twn.a = .proving ∧ u.twn.b = .proving ∧
        (getR u 0x500040).toNat = min (2 ^ 32 - 1) ((getR s 0x500040).toNat + 1))) ∧
    (driveLive s = false → Completes (.mitreTwinReference t ⟨x, st⟩ es) s fun u => u.twn.copies = s.twn.copies ∧ u.chain = s.chain ∧
      (es = [] → u = s))) ∧
  (∀ (key : MitreWait) (c : Copy MitreItem) (q : List (Copy MitreItem)) (s : State), copiesOf s key = c :: q →
    (driveLive s = false → Completes (.mitreSoloDeadline key) s fun u => u = setCopies key q s) ∧
    (driveLive s = true → bothInStep s = true → Completes (.mitreSoloDeadline key) s fun u => copiesOf u key = q ∧
      strikeCount u c.twin.other = strikeCount s c.twin.other + 1 ∧
      (∀ ch r, c.item = .ref ch r → ch < 64 → c.passed = false → locked s ch = false →
        u.drv.bus = s.drv.bus ++ [(ch, { r with code := BitVec.ofNat 16 (clampCode s ch r.code.toNat) })]) ∧
      (getR u 0x500044).toNat = min (2 ^ 32 - 1) ((getR s 0x500044).toNat + 1))) ∧
  (∀ (key : MitreWait) (s : State), copiesOf s key = [] → Completes (.mitreSoloDeadline key) s fun u => u = s)) ∧
  ((∀ (t : Twin) (ch : Fin 64) (r : Ref) (st : BitVec 64) (s : State), driveLive s = true → tstUnlocked s = false → twinDead s t = false →
    ((bothInStep s = true ∧ copiesOf s ⟨.ch ch.val, st⟩ = [{ twin := t.other, item := .ref ch.val r, step := st }]) ∨
      (bothInStep s = false ∧ shadowTwin s = none ∧ soleTwin s = some t ∧ copiesOf s ⟨.ch ch.val, st⟩ = [])) →
    Completes (.mitreTwinReference t ⟨.ref ch.val r, st⟩ []) s fun u =>
      copiesOf u ⟨.ch ch.val, st⟩ = [] ∧
      (locked s ch.val = true → u.drv.bus = s.drv.bus ∧ u.drv.mitre = s.drv.mitre) ∧
      (locked s ch.val = false →
        u.drv.bus = s.drv.bus ++ [(ch.val, { r with code := BitVec.ofNat 16 (clampCode s ch.val r.code.toNat) })] ∧
        tabGet (fun _ => 0) u.drv.mitre ch.val = BitVec.ofNat 16 (clampCode s ch.val r.code.toNat))) ∧
  (∀ (t : Twin) (k : Fin 4) (d : Fin 128) (w : BitVec 48) (st : BitVec 64) (s : State), driveLive s = true → bothInStep s = true →
    tstUnlocked s = false → ∀ x, x = MitreItem.word k.val d.val w → copiesOf s ⟨x.key, st⟩ = [{ twin := t.other, item := x, step := st }] →
    Completes (.mitreTwinReference t ⟨x, st⟩ []) s fun u =>
      copiesOf u ⟨x.key, st⟩ = [] ∧ chainWord (chain u k.val) d.val = w ∧ (chain u k.val).newWord = true))

/-! ### The calendar and the schedule table -/

/-- R309: the fields that a second of the 400-year cycle is shown as name a possible date, and name that second. -/
def Obligations.CalendarArithmetic : Prop :=
  ∀ n w : Nat, n < cycleSecs → w < 7 → possible (fieldsOf n w) = true ∧ fieldSecs (fieldsOf n w) = n

/-- R308, R310, R312 to R314: a calendar command that its issuer may give, with none waiting or withheld ticks, is answered
OK and sets, steps or shifts what R312 and R314 say. While BUSY it is answered BUSY and moves nothing; a command the host may
not give is answered STATE; firmware gives none while the host owns the calendar. `u`: the state once the ticks before the
command have passed. -/
def Obligations.CalendarCommandsComplete : Prop :=
  (∀ (who : Issuer) (ticks : Nat) (s : State), ∀ u, u = calTicks ticks s → issued u who = true → calOwner u false who = true →
    flag u calBusy = false →
    (Completes (.calLoadFields who ticks) s fun t =>
      getF t ⟨0x30000, 8, 8⟩ = 0 ∧ flag t ⟨0x30000, 0, 1⟩ = true ∧
      (possible (fieldsFrom (getR u 0x30030) (getR u 0x30034)) = true →
        calFields t = fieldsFrom (getR u 0x30030) (getR u 0x30034)) ∧
      (possible (fieldsFrom (getR u 0x30030) (getR u 0x30034)) = false → t.cal.bad = true)) ∧
    (∀ d : Word, Completes (.calFieldStep who (some d) ticks) s fun t =>
      getF t ⟨0x30000, 8, 8⟩ = 0 ∧ (u.cal.bad = false → fieldPos t = fieldPos u + signed 32 d.toNat)) ∧
    (Completes (.calFieldStep who none ticks) s fun t =>
      getF t ⟨0x30000, 8, 8⟩ = 0 ∧ (u.cal.bad = false → fieldPos t = fieldPos u + signed 32 (getR u 0x30008).toNat))) ∧
  (∀ (who : Issuer) (ticks cycles : Nat) (s : State), ∀ u, u = calTicks ticks s → issued u who = true → calOwner u true who = true →
    flag u calBusy = false →
    (∀ n : BitVec 16, signed 16 n.toNat < 0 → Completes (.calShift who (some n) ticks cycles) s fun t =>
      getF t ⟨0x30000, 8, 8⟩ = 0 ∧ flag t calBusy = true ∧ t.cal.hold = min 32767 (-signed 16 n.toNat).toNat) ∧
    (∀ n : BitVec 16, 0 < signed 16 n.toNat → Completes (.calShift who (some n) ticks cycles) s fun t =>
      getF t ⟨0x30000, 8, 8⟩ = 0 ∧
      (calSub u + n.toNat < 32767 → calSub t = calSub u + 1 + n.toNat ∧ calSec t = calSec u) ∧
      (32767 ≤ calSub u + n.toNat → calSub t = calSub u + 1 + n.toNat - 32768 ∧ calSec t = (calSec u + 1) % 2 ^ 48)) ∧
    (∀ v : BitVec 48, Completes (.calLoadSec who (some v) ticks) s fun t =>
      getF t ⟨0x30000, 8, 8⟩ = 0 ∧ flag t ⟨0x30000, 0, 1⟩ = true ∧ calSec t = v.toNat) ∧
    (∀ d : Word, Completes (.calStep who (some d) ticks) s fun t =>
      getF t ⟨0x30000, 8, 8⟩ = 0 ∧ calSec t = unsigned 48 ((calSec u : Int) + signed 32 d.toNat)) ∧
    (Completes (.calLoadSec who none ticks) s fun t => getF t ⟨0x30000, 8, 8⟩ = 0 ∧
      calSec t = (getR u 0x30038).toNat + 2 ^ 32 * getF u ⟨0x3003C, 0, 16⟩) ∧
    (Completes (.calStep who none ticks) s fun t => getF t ⟨0x30000, 8, 8⟩ = 0 ∧
      calSec t = unsigned 48 ((calSec u : Int) + signed 32 (getR u 0x30008).toNat)) ∧
    (Completes (.calShift who none ticks cycles) s fun t => getF t ⟨0x30000, 8, 8⟩ = 0)) ∧
  (∀ (who : Issuer) (n : BitVec 16) (v : BitVec 48) (d : Word) (ticks cycles : Nat) (s : State), ∀ u, u = calTicks ticks s →
    (issued u who = true → flag u calBusy = true →
      ∀ c, c ∈ [(true, Instr.calShift who (some n) ticks cycles), (true, .calLoadSec who (some v) ticks), (true, .calStep who (some d) ticks),
        (false, .calFieldStep who (some d) ticks), (false, .calLoadFields who ticks)] → (who = .host ∨ calHost u = false) →
        Completes c.2 s fun t => getF t ⟨0x30000, 8, 8⟩ = Code.busy.num ∧ calSec t = calSec u ∧ calSub t = calSub u ∧ calFields t = calFields u) ∧
    (flag u calBusy = false → who = .host → calHost u = false →
      ∀ c, c ∈ [Instr.calShift who (some n) ticks cycles, .calLoadSec who (some v) ticks, .calStep who (some d) ticks] →
        Completes c s fun t => t = calAnswer .state u) ∧
    (who ≠ .host → calHost u = true →
      ∀ c, c ∈ [Instr.calShift who (some n) ticks cycles, .calLoadSec who (some v) ticks, .calStep who (some d) ticks,
        .calFieldStep who (some d) ticks, .calLoadFields who ticks] → Completes c s fun t => t = u))

/-- R306, R311, R313, R314, R317: the withheld ticks pass; a second boundary, with no command waiting and no correction made
at it, advances SEC, clears SUBSEC and advances possible fields by one second, and is withheld while ticks are; a command
that waits is applied at it. A boundary at which firmware follows the network time sets DISC; HOLD_S seconds without a
correction clear it. The first read of a shadow register copies the five and answers its own, and a read of the copy answers
from it; the copy expires. TST is locked. -/
def Obligations.CalendarEventsComplete : Prop :=
  (∀ s : State, (s.cal.hold ≠ 0 → Completes .calShiftDone s fun t =>
      t = setB calBusy false { s with cal := { s.cal with hold := 0 } }) ∧
    (s.cal.hold = 0 → Completes .calShiftDone s fun t => t = s)) ∧
  (∀ (cycles : Nat) (master traceable : Bool) (trim : Option (BitVec 20)) (s : State),
    (s.cal.hold ≠ 0 → Completes (.calSecondBoundary cycles master traceable trim) s fun t => t = s) ∧
    (s.cal.hold = 0 → s.cal.pend ≠ none → Completes (.calSecondBoundary cycles master traceable trim) s fun t => t.cal.pend = none) ∧
    (s.cal.hold = 0 → s.cal.pend = none →
      (calHost s = true ∨ ctrlRun s = false ∨ netOn s = false ∨ master = false ∨ traceable = false ∨
          anchorValid (tsuAdvance cycles s) = false →
        Completes (.calSecondBoundary cycles master traceable trim) s fun t =>
          calSec t = (calSec s + 1) % 2 ^ 48 ∧ calSub t = 0 ∧
          (s.cal.bad = false → possible (calFields s) = true → fieldPos t = fieldPos s + 1) ∧
          (calHost s = false → ctrlRun s = true → bothInStep s = true → netOn s = true → master = false →
            flag t ⟨0x30044, 1, 1⟩ = false)) ∧
      (calHost s = false → ctrlRun s = true → bothInStep s = true → netOn s = true → master = true → traceable = true →
          anchorValid (tsuAdvance cycles s) = true →
        Completes (.calSecondBoundary cycles master traceable trim) s fun t =>
          flag t ⟨0x30044, 1, 1⟩ = true ∧ t.cal.idle = 0 ∧ ∀ v, trim = some v → getR t 0x30040 = v.setWidth 32))) ∧
  (∀ s : State, Completes .discHoldoverExpire s fun t =>
    t = if calHost s || decide (s.cal.idle < holdS s) then s else setDisc false s) ∧
  (∀ (r : Route) (i : Fin 5) (ticks : Nat) (s : State), tstUnlocked s = false →
    (routeOpen s r = true → ∀ u, u = calTicks ticks s →
      (u.cal.shadow = none → Completes (.calShadowRead r i ticks) s fun t =>
        t.hostData = [getR u (shadowRegs.getD i.val 0)] ∧ flag t shadowFld = true ∧
        t.cal.shadow = some (shadowRegs.map (getR u))) ∧
      (∀ c : List Word, u.cal.shadow = some c → Completes (.calShadowRead r i ticks) s fun t =>
        t.hostData = [c.getD i.val 0])) ∧
    (routeOpen s r = false → Completes (.calShadowRead r i ticks) s fun t => t = s)) ∧
  (∀ s : State, Completes .calShadowExpire s fun t =>
    t = setB shadowFld false { s with cal := { s.cal with shadow := none, seen := [] } })

/-- R325 to R331: arming an entry whose time has not come; one whose time has passed is released within its grace, and else
LATE; cancelling; the half of the table that is not the issuer's. An entry that falls due is released, by the calendar or by
the time-stamp unit: with action NONE it ends DONE with RESULT OK, or ARMED again one period on; with action FIRMWARE its TAG
and ARG reach the twins besides. A FINE entry is handed to the time-stamp unit while it is disciplined. No wake bit is set.
-/
def Obligations.ScheduleCompletes : Prop :=
  (∀ (who : Issuer) (e : Fin 64) (ticks : Nat) (s : State), ∀ u, u = calTicks ticks s →
    (schHalf e.val who = true → issued u who = true →
      (schState u e.val = 1 → Completes (.schedArm who e ticks) s fun t => schState t e.val = 1 ∧ calSec t = calSec u) ∧
      (schState u e.val ≠ 1 → schDue u e.val = false → Completes (.schedArm who e ticks) s fun t => schState t e.val = 1) ∧
      (schState u e.val ≠ 1 → schDue u e.val = true → getF u ⟨schReg e.val 0xC, 0, 4⟩ = 0 → flag u ⟨schReg e.val 0xC, 5, 1⟩ = false →
        schPeriod u e.val = 0 → Completes (.schedArm who e ticks) s fun t =>
          schState t e.val = (if schInGrace e.val u then 2 else 3) ∧
          getF t ⟨schReg e.val 0x18, 8, 8⟩ = (if schInGrace e.val u then 0 else Code.late.num))) ∧
    (schHalf e.val who = false → Completes (.schedArm who e ticks) s fun t => t = u)) ∧
  (∀ (who : Issuer) (e : Fin 64) (s : State),
    (schHalf e.val who = true → issued s who = true → Completes (.schedCancel who e) s fun t =>
      schState t e.val = 0 ∧ t.tsu.fine = s.tsu.fine.filter (fun x => decide (x.1 ≠ e.val))) ∧
    (schHalf e.val who = false → Completes (.schedCancel who e) s fun t => t = s)) ∧
  (∀ (e : Fin 64) (ticks cycles : Nat) (s : State),
    (∀ u, u = calTicks ticks s →
      (schFallDue u = [] → Completes (.scheduleRelease ticks) s fun t => t = u) ∧
      (schFallDue u = [e.val] → flag u ⟨schReg e.val 0xC, 5, 1⟩ = false → getF u ⟨schReg e.val 0xC, 0, 4⟩ = 0 ∨
          (getF u ⟨schReg e.val 0xC, 0, 4⟩ = 2 ∧ ctrlRun u = true ∧ atReady u = true) → Completes (.scheduleRelease ticks) s fun t =>
        getF t ⟨schReg e.val 0x18, 8, 8⟩ = 0 ∧
        (schPeriod u e.val = 0 → schState t e.val = 2) ∧
        (schPeriod u e.val ≠ 0 → schState t e.val = 1 ∧ schSec t e.val = (schSec u e.val + schPeriod u e.val) % 2 ^ 48) ∧
        (getF u ⟨schReg e.val 0xC, 0, 4⟩ = 2 → t.twn.inbox = u.twn.inbox ++
          [.sched e.val (getF u ⟨schReg e.val 0xC, 8, 8⟩) (getR u (schReg e.val 0x14))]))) ∧
    (∀ u, u = tsuAdvance cycles s →
      (∀ x : Word, u.tsu.fine = [(e.val, x)] → netOn u = true → schState u e.val = 1 → rawReached u x = true →
        getF u ⟨schReg e.val 0xC, 0, 4⟩ = 0 → flag u ⟨schReg e.val 0xC, 5, 1⟩ = false → schPeriod u e.val = 0 →
        Completes (.fineRelease e cycles) s fun t =>
          schState t e.val = 2 ∧ getF t ⟨schReg e.val 0x18, 8, 8⟩ = 0 ∧ t.tsu.fine = []) ∧
      (u.tsu.fine.all (fun x => decide (x.1 ≠ e.val)) = true → Completes (.fineRelease e cycles) s fun t => t = u))) ∧
  (∀ (e : Fin 64) (s : State),
    (schState s e.val = 1 → flag s ⟨schReg e.val 0xC, 4, 1⟩ = true → netOn s = true →
      flag s ⟨0x30044, 1, 1⟩ = true → anchorValid s = true → nowUnits s + 1000000 * 32768 ≤ schUnits s e.val →
      schUnits s e.val < nowUnits s + 2 ^ 31 * 32768 → Completes (.fineHandoff e) s fun t =>
        t = { s with tsu := { s.tsu with fine := s.tsu.fine.filter (fun x => decide (x.1 ≠ e.val)) ++
          [(e.val, rawOf s (schNs s e.val : Nat))] } }) ∧
    (schState s e.val ≠ 1 ∨ flag s ⟨schReg e.val 0xC, 4, 1⟩ = false ∨ netOn s = false ∨ flag s ⟨0x30044, 1, 1⟩ = false ∨
      anchorValid s = false → Completes (.fineHandoff e) s fun t => t = s))

/-! ### Energy metering -/

/-- R335 to R339, R345, R346, R348, R349, R365: a step that both twins' datapaths carry out without an upset adds its sample
energies and pulses to every sampled point, sets to zero those for which ZERO was written in an earlier step, and leaves the
others; what a trip within the step has taken already is not taken again (R357); at a second boundary the means of the second
are reported and begin again. From a trip on, and while the final save writes, the step is held instead (R359); with CTRL OFF
it is nothing. `m`: what the step delivers; `u`: the state with its feeder samples taken in. TST is locked, and the residues
of the kept values agree with them. -/
def Obligations.MeterStepCompletes : Prop :=
  (∀ (x : MeterStep) (s : State), ctrlOn s = true → bothInStep s = true → tstUnlocked s = false → x.upsets = [] →
    s.sys.trip = false → flag s pwrSave = false →
    residuesAgree s = true → ∀ m, m = MeterIn.mk s.twn.step.toNat x s.mtr.island s.mtr.freq s.mtr.s0 s.mtr.early s.mtr.fed →
    ∀ u, u = (if mtrOn s && !s.mtr.fed then feedFeeders s.mtr.island s else s) →
    Completes (.meterStep x) s fun t =>
      (∀ p, p < 128 → s.mtr.zero.any (fun z => decide (z.1 = p) && decide (z.2 < m.step)) = false →
        ptTot t p = (if ptSampled s p then addWork (ptTot s p) (ptWork u m p) else ptTot s p)) ∧
      (∀ p, p < 128 → s.mtr.zero.any (fun z => decide (z.1 = p) && decide (z.2 < m.step)) = true →
        (ptTot t p).imp = 0 ∧ (ptTot t p).exp = 0 ∧ (ptTot t p).s0 = 0 ∧ flag t ⟨ptReg p 0x44, 0, 1⟩ = false) ∧
      t.mtr.s0 = [] ∧ t.mtr.retry = s.mtr.retry ∧
      (m.step % 8000 ≠ 0 → ∀ p, p < 128 → ptSampled s p = true → secondOf t p = addSecond s p (secondOf s p) (ptWork u m p)) ∧
      (m.step % 8000 = 0 → t.mtr.second = [] ∧ ∀ p, p < 128 → ptSampled s p = true →
        ∀ y, y = addSecond s p (secondOf s p) (ptWork u m p) →
          getR t (ptReg p 0x38) = w32 (unsigned 32 (y.energy * 3600 / 2 ^ 32)) ∧
          getF t ⟨ptReg p 0x3C, 16, 16⟩ = (y.freq / 8000).toNat % 2 ^ 16 ∧
          (ptKind s p = 0 → getF t ⟨ptReg p 0x3C, 0, 16⟩ = y.volts.natAbs / (32000 * 10000) % 2 ^ 16))) ∧
  (∀ (x : MeterStep) (s : State),
    (ctrlOn s = true → bothInStep s = true → s.sys.trip = true ∨ flag s pwrSave = true → Completes (.meterStep x) s fun t =>
      t.mtr.held = s.mtr.held ++ [⟨s.twn.step.toNat, x, s.mtr.island, s.mtr.freq, s.mtr.s0, s.mtr.early, s.mtr.fed⟩] ∧
      t.mtr.s0 = [] ∧
      t.mtr.pts = s.mtr.pts) ∧
    (ctrlOn s = false → Completes (.meterStep x) s fun t => t = s))

/-- R350 to R353: an upset that the residues show in one twin's result leaves the other's to be kept, and is counted; one in
both holds the step for a retry. A retry keeps the point's oldest held step, which it takes out, or drops it where both fail
again. R343: a good frame replaces the feeder samples, a failed slice's by 0, and a bad one changes none and is counted.
R344: an S0 pulse counts, in a part that has the inputs. TST is locked. -/
def Obligations.MeteringCompletes : Prop :=
  (∀ (us : List MeterUpset) (p : Nat) (x : MeterStep) (s : State), ctrlOn s = true → bothInStep s = true → tstUnlocked s = false →
    s.sys.trip = false → flag s pwrSave = false → s.mtr.zero = [] → residuesAgree s = true → p < 128 → ptSampled s p = true →
    (∀ v, v ∈ us → v.point = p) →
    ∀ m, m = MeterIn.mk s.twn.step.toNat x s.mtr.island s.mtr.freq s.mtr.s0 s.mtr.early s.mtr.fed →
    ∀ u, u = (if mtrOn s && !s.mtr.fed then feedFeeders s.mtr.island s else s) →
    (∀ w : Twin, (datapath u us false w p (ptWork u m p)).1 = true → (datapath u us false w.other p (ptWork u m p)).1 = false →
      Completes (.meterStep { x with upsets := us }) s fun t =>
        ptTot t p = (datapath u us false w p (ptWork u m p)).2.tot ∧ t.mtr.retry = s.mtr.retry ∧
        (getR t 0x120020).toNat = min (2 ^ 32 - 1) ((getR s 0x120020).toNat + 1)) ∧
    ((datapath u us false .a p (ptWork u m p)).1 = false → (datapath u us false .b p (ptWork u m p)).1 = false →
      Completes (.meterStep { x with upsets := us }) s fun t =>
      ptTot t p = ptTot s p ∧ t.mtr.retry = s.mtr.retry ++ [(p, ptWork u m p)])) ∧
  (∀ (p : Fin 128) (us : List MeterUpset) (s : State), bothInStep s = true →
    (∀ e, s.mtr.retry.find? (fun e => decide (e.1 = p.val)) = some e →
      (residuesAgree s = true → Completes (.meterRetry p []) s fun t =>
        ptTot t p.val = addWork (ptTot s p.val) e.2 ∧ t.mtr.retry = s.mtr.retry.erase e ∧ ∀ q, q ≠ p.val → ptTot t q = ptTot s q) ∧
      ((datapath s us false .a p.val e.2).1 = false → (datapath s us false .b p.val e.2).1 = false → Completes (.meterRetry p us) s fun t =>
        ptTot t p.val = ptTot s p.val ∧ t.mtr.retry = s.mtr.retry.erase e ∧
        (getR t 0x12002C).toNat = min (2 ^ 32 - 1) ((getR s 0x12002C).toNat + 1))) ∧
    (s.mtr.retry.find? (fun e => decide (e.1 = p.val)) = none → Completes (.meterRetry p us) s fun t => t = s)) ∧
  (∀ (xs : List Int) (af cl : BitVec 12) (fr : Option Nat) (s : State),
    (mtrOn s = true →
      (Completes (.islandFrame true xs af cl fr) s fun t => flag t ⟨0x120000, 0, 1⟩ = true ∧
        t.mtr.island = xs.zipIdx.map (fun e => if af.getLsbD e.2 then 0 else e.1) ∧
        (af ≠ 0 → flag t ⟨0x120004, 1, 1⟩ = true) ∧ (cl ≠ 0 → flag t ⟨0x120004, 2, 1⟩ = true) ∧
        ∀ f, fr = some f → t.mtr.freq = f ∧ (f < 45000 ∨ 65000 < f → flag t ⟨0x120004, 3, 1⟩ = true)) ∧
      (Completes (.islandFrame false xs af cl fr) s fun t => t.mtr = { s.mtr with fresh := true } ∧ flag t ⟨0x120004, 0, 1⟩ = true ∧
        (getR t 0x120030).toNat = min (2 ^ 32 - 1) ((getR s 0x120030).toNat + 1))) ∧
    (mtrOn s = false → ∀ b, b ∈ [true, false] → Completes (.islandFrame b xs af cl fr) s fun t => t = s)) ∧
  (∀ (j : Fin 32) (s : State),
    (mtrOn s = true → s.fitS0 = true → Completes (.s0Pulse j) s fun t =>
      getR t (0x120100 + 4 * j.val) = getR s (0x120100 + 4 * j.val) + 1 ∧
      (∀ off, off ≠ 0x120100 + 4 * j.val → getR t off = getR s off) ∧
      tabGet (fun _ => 0) t.mtr.s0 j.val = tabGet (fun _ => 0) s.mtr.s0 j.val + 1 ∧
      (ctrlRun s = true → t.twn.inbox = s.twn.inbox ++ [.s0 j.val])) ∧
    (mtrOn s = false ∨ s.fitS0 = false → Completes (.s0Pulse j) s fun t => t = s))

/-- R345, R346, R348: a sample energy within 64 bits is rounded to the nearest U, ties away from zero, and adds to IMPORT or
to EXPORT alone, and R350: the residues beside the accumulators stay those of the values, over every step and retry; a KIND 4
point keeps its pulse count in its record, and where its RATIO is not 0 shows floor(c × 10^9 / RATIO) mWh as IMPORT with the
rest as its fraction, EXPORT 0, and NET and ABS equal to IMPORT, in a part that has the pulse inputs. -/
def Obligations.MeterArithmetic : Prop :=
  (∀ (n : Int) (d : Nat), 0 < d → n.natAbs + d < 2 ^ 63 * d →
    2 * (roundU (n, d) * d - n).natAbs ≤ d ∧ roundU (-n, d) = -roundU (n, d) ∧
    (2 * (roundU (n, d) * d - n).natAbs = d → n.natAbs < (roundU (n, d)).natAbs * d)) ∧
  (∀ (x : PointTot) (e : Int), addSample x 0 = x ∧
    (0 < e → (addSample x e).imp = (x.imp + e.toNat) % 2 ^ 96 ∧ (addSample x e).exp = x.exp ∧ (addSample x e).s0 = x.s0) ∧
    (e < 0 → (addSample x e).exp = (x.exp + (-e).toNat) % 2 ^ 96 ∧ (addSample x e).imp = x.imp ∧ (addSample x e).s0 = x.s0) ∧
    (residueOk x = true → residueOk (addSample x e) = true)) ∧
  (∀ (x : MeterStep) (p : Fin 128) (us : List MeterUpset) (s : State), residuesAgree s = true →
    (Completes (.meterStep x) s fun t => residuesAgree t = true) ∧ (Completes (.meterRetry p us) s fun t => residuesAgree t = true)) ∧
  (∀ x : PointTot, ((recBytes x).drop 24).take 4 = wordBytes x.s0) ∧
  (∀ (s : State) (p : Nat), ptValid s p = true → ptKind s p = 4 → ptRatio s p ≠ 0 → s.fitS0 = true →
    (ptShown s p).imp / 2 ^ 32 = (ptTot s p).s0.toNat * 10 ^ 9 / ptRatio s p ∧
    (ptShown s p).imp % 2 ^ 32 = (ptTot s p).s0.toNat * 10 ^ 9 % ptRatio s p * 2 ^ 32 / ptRatio s p ∧
    (ptShown s p).exp = 0 ∧ ptNet (ptShown s p) = (ptShown s p).imp ∧ ptAbs (ptShown s p) = (ptShown s p).imp)

/-- R54, R355 to R358: a save that is due takes its snapshot, and its bank is invalid until it ends; beside another it waits,
the final save excepted, which abandons the other and takes in what the present step has captured; one that is not due does
not begin. A save that ends leaves its bank with the next WSEQ; a reset's lets the reset go on, and the final one is over.
SAVE_NOW is answered OK, or BUSY while a save waits. R365: ZERO is answered OK and waits for the next step where RECONF is 1,
and STATE where it is 0. R366, R367: at a step an output with backlog that is open closes, its count one up; a backlog past
65,535 is cut to it, and the loss counted; an output of no constant owes nothing. A closed output opens after its width, and
may close again after the gap. R370: the read of a point's first total latches the ten words; a read while MTR is OFF is 0
(R33). No two points name the output (R134); TST is locked. -/
def Obligations.MeterSavesComplete : Prop :=
  ((∀ (k : SaveKind) (s : State),
    (ctrlOn s = true →
      (k = .periodic → s.twn.step.toNat % 8000 = 0 ∨ s.mtr.waiting = some .periodic) →
      (k = .host → s.mtr.hostDue = true ∨ s.mtr.waiting = some .host) → (k = .reset → s.sys.rstWait ≠ none) → k ≠ .final →
      (s.mtr.saving = none → Completes (.meterSaveStart k) s fun t =>
        t.mtr.saving = some ⟨k, nextBank s, stepNs s, snapTots s⟩ ∧ flag t savingFld = true ∧
        bankGood (bankOf t (nextBank s)) = false ∧ bankOf t (!nextBank s) = bankOf s (!nextBank s)) ∧
      (s.mtr.saving ≠ none → Completes (.meterSaveStart k) s fun t => t = saveWaits k s)) ∧
    (ctrlOn s = true → s.sys.trip = true → Completes (.meterSaveStart .final) s fun t =>
      (∀ x, s.mtr.saving = some x → x.kind = .final → t = s) ∧
      ((∀ x, s.mtr.saving = some x → x.kind ≠ .final) → flag t pwrSave = true ∧ t.mtr.waiting = none ∧
        ∀ y, t.mtr.saving = some y → y.kind = .final ∧ y.recs = snapTots (takePart [] s))) ∧
    (ctrlOn s = false ∨ (k = .final ∧ s.sys.trip = false) ∨ (k = .reset ∧ s.sys.rstWait = none) ∨
        (k = .host ∧ s.mtr.hostDue = false ∧ s.mtr.waiting ≠ some .host) ∨
        (k = .periodic ∧ s.twn.step.toNat % 8000 ≠ 0 ∧ s.mtr.waiting ≠ some .periodic) →
      Completes (.meterSaveStart k) s fun t => t = s)) ∧
  (∀ (x : Saving) (s : State), s.mtr.saving = some x → s.mtr.held = [] → Completes .meterSaveDone s fun t =>
    t.mtr.saving = none ∧ flag t savingFld = false ∧
    bankOf t x.bank = bankTab (bankSeq (bankOf s (!x.bank)) + 1) x.ns x.kind x.recs ∧ bankOf t (!x.bank) = bankOf s (!x.bank) ∧
    (getR t 0x120034).toNat = min (2 ^ 32 - 1) ((getR s 0x120034).toNat + 1) ∧
    (x.kind = .reset → t.sys.rstSaved = true) ∧ (x.kind = .final → flag t pwrSave = false)) ∧
  (∀ s : State, s.mtr.saving = none → Completes .meterSaveDone s fun t => t = s) ∧
  (∀ (p : Fin 128) (s : State),
    (mtrOn s = true →
      (Completes .saveNow s fun t =>
        t = if s.mtr.waiting.isSome then mtrAnswer .busy s else mtrAnswer .ok { s with mtr := { s.mtr with hostDue := true } }) ∧
      (flag s ⟨ptReg p.val 0x44, 0, 1⟩ = true → Completes (.zero p) s fun t =>
        getF t ⟨0x120010, 0, 8⟩ = 0 ∧ t.mtr.zero = s.mtr.zero ++ [(p.val, s.twn.step.toNat)] ∧ t.mtr.pts = s.mtr.pts) ∧
      (flag s ⟨ptReg p.val 0x44, 0, 1⟩ = false → Completes (.zero p) s fun t => t = mtrAnswer .state s)) ∧
    (mtrOn s = false → ∀ c, c ∈ [Instr.saveNow, .zero p] → Completes c s fun t => t = s))) ∧
  ((∀ (k : Fin 4) (s : State), plsBad s 0 = false → plsBad s 1 = false → plsBad s 2 = false → plsBad s 3 = false →
    (mtrOn s = true → ctrlOn s = true → ∀ due, due = owed s k.val - (pulse s k.val).emitted →
      (plsConst s k.val = 0 → Completes .pulseStep s fun t => pulse t k.val = { pulse s k.val with emitted := 0 }) ∧
      (plsConst s k.val ≠ 0 → (pulse s k.val).phase = 0 → 0 < due → due ≤ 65535 → Completes .pulseStep s fun t =>
        pulse t k.val = ⟨(pulse s k.val).emitted + 1, 1⟩) ∧
      (plsConst s k.val ≠ 0 → 65535 < due → Completes .pulseStep s fun t =>
        (pulse t k.val).emitted = owed s k.val - 65535 + (if (pulse s k.val).phase = 0 then 1 else 0) ∧
        (getR t (plsReg k.val 12)).toNat = min (2 ^ 32 - 1) ((getR s (plsReg k.val 12)).toNat + 1)) ∧
      (plsConst s k.val ≠ 0 → (pulse s k.val).phase ≠ 0 ∨ due ≤ 0 → due ≤ 65535 → Completes .pulseStep s fun t =>
        pulse t k.val = pulse s k.val)) ∧
    (mtrOn s = true →
      ((pulse s k.val).phase = 1 → Completes (.pulseWidthExpire k) s fun t =>
        pulse t k.val = { pulse s k.val with phase := 2 } ∧ t.regs = s.regs) ∧
      ((pulse s k.val).phase = 2 → Completes (.pulseWidthExpire k) s fun t =>
        pulse t k.val = (if 0 < owed s k.val - (pulse s k.val).emitted ∧ plsConst s k.val ≠ 0
          then ⟨(pulse s k.val).emitted + 1, 1⟩ else { pulse s k.val with phase := 0 })) ∧
      ((pulse s k.val).phase = 0 → Completes (.pulseWidthExpire k) s fun t => t = s)) ∧
    (mtrOn s = false → ∀ c, c ∈ [Instr.pulseStep, .pulseWidthExpire k] → Completes c s fun t => t = s)) ∧
  (∀ (r : Route) (p : Fin 128) (s : State), tstUnlocked s = false →
    (routeOpen s r = true → mtrOn s = true → Completes (.totalsLatchRead r p) s fun t =>
      t.hostData = [w32 ((ptShown s p.val).imp / 2 ^ 32)] ∧
      tabGet (fun _ => []) t.mtr.latch p.val = totalWords (ptShown s p.val) ∧ t.regs = s.regs) ∧
    (routeOpen s r = true → mtrOn s = false → Completes (.totalsLatchRead r p) s fun t => t = { s with hostData := [0] }) ∧
    (routeOpen s r = false → Completes (.totalsLatchRead r p) s fun t => t = s)))

/-! ### The wired ports and network time -/

/-- R377 to R379, R382, R385, R386, R409: a frame that an edge port receives is counted by the first check it fails; a good
one for the module is delivered to the twins with its stamp, and counted; one for others, and a PTP frame where PTP is off,
is filtered. A ring frame with a good tag that is for the module is delivered once: a first number opens its window entry, a
repeated one is counted and dropped; the module's own frames are counted and go no further; without a good tag the frame is
counted and dropped. TST is locked. -/
def Obligations.ReceiveCompletes : Prop :=
  (∀ (p : Fin 4) (f : EthFrame) (cycles : Nat) (s : State), netOn s = true → ctrlRun s = true → linkUp s p.val = true →
    portRole s p.val = 3 → tstUnlocked s = false →
    (∀ i, rxFault s p.val f = some i → Completes (.edgeFrameReceive p f cycles) s fun t => t.twn.inbox = s.twn.inbox ∧
      (getR t (portCnt p.val i)).toNat = min (2 ^ 32 - 1) ((getR s (portCnt p.val i)).toNat + 1)) ∧
    (rxFault s p.val f = none → f.etype ≠ 0x8808 →
      (f.ptp = false → addressed s f.dst = true ∨ f.ptp = true → f.etype ≠ 0xB7A2 ∨ hierGood f = true →
        Completes (.edgeFrameReceive p f cycles) s fun t =>
          t.twn.inbox = s.twn.inbox ++ [.net p.val (delivered s p.val f) (rxStamp p.val (tsuAdvance cycles s)).1] ∧
          (getR t (portCnt p.val 0)).toNat = min (2 ^ 32 - 1) ((getR s (portCnt p.val 0)).toNat + 1)) ∧
      (f.ptp = true → portPtp s p.val = true → f.etype ≠ 0xB7A2 → Completes (.edgeFrameReceive p f cycles) s fun t =>
          t.twn.inbox = s.twn.inbox ++ [.net p.val (delivered s p.val f) (rxStamp p.val (tsuAdvance cycles s)).1]) ∧
      ((f.ptp = true ∧ portPtp s p.val = false) ∨ (f.ptp = false ∧ addressed s f.dst = false) →
        Completes (.edgeFrameReceive p f cycles) s fun t => t.twn.inbox = s.twn.inbox ∧
          (getR t (portCnt p.val 5)).toNat = min (2 ^ 32 - 1) ((getR s (portCnt p.val 5)).toNat + 1)))) ∧
  (∀ (p : Fin 4) (f : EthFrame) (cycles : Nat) (s : State), netOn s = true → ctrlRun s = true → linkUp s p.val = true →
    isRing s p.val = true → tstUnlocked s = false →
    (∀ i, rxFault s p.val f = some i → Completes (.ringFrameReceive p f cycles) s fun t => t.twn.inbox = s.twn.inbox ∧
      (getR t (portCnt p.val i)).toNat = min (2 ^ 32 - 1) ((getR s (portCnt p.val i)).toNat + 1)) ∧
    (rxFault s p.val f = none → f.etype ≠ 0x8808 → f.ptp = false →
      (∀ g, f.tag = some g → tagGood g = true →
        (g.origin = swOrigin s → Completes (.ringFrameReceive p f cycles) s fun t => t.twn.inbox = s.twn.inbox ∧
          (getR t 0x204050).toNat = min (2 ^ 32 - 1) ((getR s 0x204050).toNat + 1)) ∧
        (g.origin ≠ swOrigin s → addressed s f.dst = true →
          (winFind s g.origin g.stream = none → s.net.win.length < 2048 → f.etype ≠ 0xB7A2 ∨ hierGood f = true →
            Completes (.ringFrameReceive p f cycles) s fun t =>
              t.twn.inbox = s.twn.inbox ++ [.net p.val (delivered s p.val f) (rxStamp p.val (tsuAdvance cycles s)).1] ∧
              t.net.win = ⟨g.origin, g.stream, g.seq, 1⟩ :: s.net.win) ∧
          (∀ w : WinEnt, winFind s g.origin g.stream = some w → w.h = g.seq → w.seen.getLsbD 0 = true → g.first = false →
            Completes (.ringFrameReceive p f cycles) s fun t => t.twn.inbox = s.twn.inbox ∧ t.net.win = s.net.win ∧
              (getR t 0x204040).toNat = min (2 ^ 32 - 1) ((getR s 0x204040).toNat + 1))) ∧
        (addressed s f.dst = false → Completes (.ringFrameReceive p f cycles) s fun t =>
          t.twn.inbox = s.twn.inbox ∧ t.net.win = s.net.win)) ∧
      ((∀ g, f.tag = some g → tagGood g = false) → Completes (.ringFrameReceive p f cycles) s fun t =>
        t.twn.inbox = s.twn.inbox ∧ (getR t (portCnt p.val 6)).toNat = min (2 ^ 32 - 1) ((getR s (portCnt p.val 6)).toNat + 1)))) ∧
  (∀ (p : Fin 4) (f : EthFrame) (cycles : Nat) (s : State),
    (netOn s = false ∨ linkUp s p.val = false ∨ portRole s p.val ≠ 3 → Completes (.edgeFrameReceive p f cycles) s fun t => t = s) ∧
    (netOn s = false ∨ linkUp s p.val = false ∨ isRing s p.val = false → Completes (.ringFrameReceive p f cycles) s fun t => t = s))

/-- R394: a PAUSE for the module stops the port at once, or at the end of the frame in service; 0 quanta resume it; it is
counted and ignored where the port does not obey or is held off, and other MAC control frames are counted. Its end resumes
the port. R395, R396: the deathwatch, and its holdoff. R375: LINK follows the line of an enabled port. R374: auto-negotiation
restarts. TST is locked. -/
def Obligations.PauseAndLinkComplete : Prop :=
  (∀ (p : Fin 4) (q op : BitVec 16) (mine : Bool) (us : Nat) (s : State), tstUnlocked s = false →
    (netOn s = true → portRole s p.val ≠ 0 → linkUp s p.val = true →
      (op = 1 → mine = true → pauseObey s p.val = true → flag s (holdoffFld p.val) = false →
        (q ≠ 0 → (portOf s p.val).cur = none → Completes (.pauseFrame p q op mine us) s fun t => flag t (pausedFld p.val) = true) ∧
        (q ≠ 0 → (portOf s p.val).cur ≠ none → flag s (pausedFld p.val) = false → Completes (.pauseFrame p q op mine us) s fun t =>
          flag t (pausedFld p.val) = false ∧ (portOf t p.val).pend = true) ∧
        (q = 0 → Completes (.pauseFrame p q op mine us) s fun t => flag t (pausedFld p.val) = false ∧ (portOf t p.val).pend = false)) ∧
      (op = 1 → mine = true → pauseObey s p.val = false ∨ flag s (holdoffFld p.val) = true →
        Completes (.pauseFrame p q op mine us) s fun t => t.net = s.net ∧ flag t (pausedFld p.val) = flag s (pausedFld p.val) ∧
          (getR t (portCnt p.val 8)).toNat = min (2 ^ 32 - 1) ((getR s (portCnt p.val 8)).toNat + 1)) ∧
      (op ≠ 1 ∨ mine = false → Completes (.pauseFrame p q op mine us) s fun t => t = bump (portCnt p.val 9) s)) ∧
    (netOn s = false ∨ portRole s p.val = 0 ∨ linkUp s p.val = false → Completes (.pauseFrame p q op mine us) s fun t => t = s)) ∧
  (∀ (p : Fin 4) (us : Nat) (s : State),
    (netOn s = true → flag s (pausedFld p.val) = true → Completes (.pauseExpire p us) s fun t =>
      t = bumpBy (portCnt p.val 14) us (setB (pausedFld p.val) false s)) ∧
    (netOn s = false ∨ flag s (pausedFld p.val) = false → Completes (.pauseExpire p us) s fun t => t = s) ∧
    (netOn s = true → flag s (pausedFld p.val) = true → pauseLimit s p.val ≠ 0 → Completes (.deathwatchBreak p us) s fun t =>
      flag t (pausedFld p.val) = false ∧ flag t (holdoffFld p.val) = true ∧ flag t (evtFld p.val 1) = true ∧
      (getR t (portCnt p.val 13)).toNat = min (2 ^ 32 - 1) ((getR s (portCnt p.val 13)).toNat + 1)) ∧
    (netOn s = false ∨ flag s (pausedFld p.val) = false ∨ pauseLimit s p.val = 0 →
      Completes (.deathwatchBreak p us) s fun t => t = s)) ∧
  (∀ (p : Fin 4) (up an pr los tf : Bool) (s : State),
    (Completes (.holdoffExpire p) s fun t => t = if netOn s then setB (holdoffFld p.val) false s else s) ∧
    (netOn s = true → Completes (.linkChange p up an pr los tf) s fun t => ∀ new,
      new = (up && decide (portRole s p.val ≠ 0) && flag s ⟨portReg p.val 8, 0, 1⟩) → linkUp t p.val = new ∧
        (linkUp s p.val ≠ new → flag t (evtFld p.val 0) = true) ∧ (flag t ⟨portReg p.val 0xC, 4, 1⟩ = pr) ∧
        flag t ⟨portReg p.val 0xC, 5, 1⟩ = los ∧ flag t ⟨portReg p.val 0xC, 6, 1⟩ = tf) ∧
    (netOn s = false → Completes (.linkChange p up an pr los tf) s fun t => t = s) ∧
    (netOn s = true → portRole s p.val ≠ 0 → portSpeed s p.val ≠ 2 → Completes (.restartAn p) s fun t =>
      t = setB ⟨portReg p.val 0xC, 1, 1⟩ false s) ∧
    (netOn s = false ∨ portRole s p.val = 0 ∨ portSpeed s p.val = 2 → Completes (.restartAn p) s fun t => t = s))

/-- R387 to R390, R392, R533: with both twins IN_STEP the first copy of a block waits, and an equal second copy is released:
a frame that opens enters its egress queue where it fits, and is counted as dropped where it does not. Of unequal blocks the
mismatch is counted and a divergence proof begins. The one live twin's block is released at once. A copy left alone is
counted, and costs the other twin a strike. A dead twin's, and a frame of more than 9,216 bytes, is not taken. TST is locked,
and no copy is on its way late. -/
def Obligations.MergeCompletes : Prop :=
  (∀ (t : Twin) (hd : TxHead) (bytes : List Byte) (last : Bool) (y : TxBlock) (s : State), netOn s = true → ctrlRun s = true →
    tstUnlocked s = false → mergeSkip s t = 0 → s.net.merge.only = none → s.twn.late = [] → hd.len ≤ 9216 → twinDead s t = false →
    (bothInStep s = true → s.net.merge.wait = [] → Completes (.mergeBlock t hd bytes last) s fun u =>
      u = { s with net := { s.net with merge := { s.net.merge with wait := [{ twin := t, item := ⟨hd, bytes, last⟩ }] } } }) ∧
    (bothInStep s = true → s.net.merge.wait = [{ twin := t.other, item := y }] → y ≠ ⟨hd, bytes, last⟩ → Completes (.mergeBlock t hd bytes last) s fun u =>
      u.net.merge.wait = [] ∧ u.twn.a = .proving ∧ u.twn.b = .proving ∧
      (getR u 0x204058).toNat = min (2 ^ 32 - 1) ((getR s 0x204058).toNat + 1)) ∧
    ((bothInStep s = true ∧ s.net.merge.wait = [{ twin := t.other, item := ⟨hd, bytes, last⟩ }]) ∨
        (bothInStep s = false ∧ shadowTwin s = none ∧ soleTwin s = some t ∧ s.net.merge.wait = []) →
      Completes (.mergeBlock t hd bytes last) s fun u =>
        u.net.merge.wait = [] ∧ u.net.merge.busy = !last ∧
        u.net.merge.sofar = (if last then [] else s.net.merge.sofar ++ bytes) ∧
        (∀ p, egress s hd = some p → onRing s hd bytes = false → s.net.merge.busy = false → hd.launch = none → (portOf s p).queue = [] →
          ∀ e, e = newEnt hd false false (ptpBytes bytes) none [] →
          (getF s (qDepthFld p e.queue) + e.cells ≤ qLimit s p e.queue ∧ e.cells ≤ getF s cellsFree →
            (portOf u p).queue = [extend bytes last { e with stamp := hd.stamp }]) ∧
          (qLimit s p e.queue < getF s (qDepthFld p e.queue) + e.cells → (portOf u p).queue = [] ∧
            (getR u (portReg p (0x240 + 4 * e.queue))).toNat =
              min (2 ^ 32 - 1) ((getR s (portReg p (0x240 + 4 * e.queue))).toNat + 1))))) ∧
  (∀ (t : Twin) (hd : TxHead) (bytes : List Byte) (last : Bool) (s : State),
    netOn s = false ∨ ctrlRun s = false ∨ twinDead s t = true ∨ 9216 < hd.len →
    Completes (.mergeBlock t hd bytes last) s fun u => u = s) ∧
  (∀ (c : Copy TxBlock) (q : List (Copy TxBlock)) (s : State), netOn s = true → s.net.merge.wait = c :: q →
    Completes .mergeSolo s fun u => u.net.merge.wait = s.net.merge.wait.drop (firstFrame s.net.merge.wait).length ∧
      (bothInStep s = true → (getR u 0x204054).toNat = min (2 ^ 32 - 1) ((getR s 0x204054).toNat + 1) ∧
        strikeCount u c.twin.other = strikeCount s c.twin.other + 1)) ∧
  (∀ s : State, netOn s = false ∨ s.net.merge.wait = [] → Completes .mergeSolo s fun u => u = s)

/-- R386, R391, R393: a ready frame of a free port is taken into service; it ends whole, with its FCS good, and leaves the
port free and counted; or it underruns, with its FCS inverted, and is reported. Where START is out of range its bytes are
free (R393). An aged window entry is freed. -/
def Obligations.TransmitCompletes : Prop :=
  (∀ (p : Fin 4) (s : State),
    (∀ e, nextFrame s p.val = some e → txFree s p.val = true → Completes (.txFrameStart p) s fun t =>
      (portOf t p.val).cur = some e ∧ (portOf t p.val).queue.length + 1 = (portOf s p.val).queue.length) ∧
    (nextFrame s p.val = none ∨ txFree s p.val = false → Completes (.txFrameStart p) s fun t => t = s)) ∧
  (∀ (p : Fin 4) (s : State),
    (∀ e, (portOf s p.val).cur = some e → netOn s = true →
      (e.opn = false → Completes (.txFrameEnd p) s fun t => (portOf t p.val).cur = none ∧
        (startBad s p.val = false → t.out = .frame p.val (bodyBytes e.body) (txVlan s p.val e.queue) true :: s.out ∧
          (getR t (portCnt p.val 10)).toNat = min (2 ^ 32 - 1) ((getR s (portCnt p.val 10)).toNat + 1)) ∧
        (startBad s p.val = true → t.out.length = s.out.length + 1)) ∧
      (e.opn = true → Completes (.txUnderrun p) s fun t => (portOf t p.val).cur = none ∧ flag t (evtFld p.val 2) = true ∧
        (startBad s p.val = false → t.out = .frame p.val (bodyBytes e.body) (txVlan s p.val e.queue) false :: s.out ∧
          (getR t (portCnt p.val 11)).toNat = min (2 ^ 32 - 1) ((getR s (portCnt p.val 11)).toNat + 1) ∧
          startBytes t p.val = min 9216 (startBytes s p.val + 512))) ∧
      (e.opn = true → Completes (.txFrameEnd p) s fun t => t = s) ∧
      (e.opn = false → Completes (.txUnderrun p) s fun t => t = s)) ∧
    ((portOf s p.val).cur = none ∨ netOn s = false → ∀ c, c ∈ [Instr.txFrameEnd p, .txUnderrun p] → Completes c s fun t => t = s)) ∧
  (∀ (o : BitVec 16) (k : BitVec 3) (s : State),
    (netOn s = true → Completes (.windowEntryAge o k) s fun t => winFind t o k = none ∧
      t.net.win = winOthers s o k ∧ getF t ⟨0x20401C, 0, 12⟩ = t.net.win.length % 4096) ∧
    (netOn s = false → Completes (.windowEntryAge o k) s fun t => t = s))

/-- R399 to R406: the unit's commands by its owner act on the counter as it has run on: STEP and LOAD end the anchor, SLEW
replaces what remains; the anchor is committed, with firmware's other words where firmware issues it. While a command waits
another is answered BUSY; the host's is answered STATE while firmware owns the unit. A slew ends; an anchor expires
2,000,000,000 ns on. `u`: the state at the command. R409 to R413: the stamp that the frame in service waits for is queued in
the lowest free entry where its owner's share has room, with the raw time and the transmit latency, and given up by the
frame; where it has not, the loss is counted; a frame that waits for none gets none. An entry is freed by its owner alone.
R417 to R419: a launched frame that heads its queue is sent once its time is reached, a late one however long ago that was.
TST is locked. -/
def Obligations.TimeStampCompletes : Prop :=
  ((∀ (who : Issuer) (a : Option Word) (cycles : Nat) (s : State), netOn s = true → ∀ u, u = tsuAdvance cycles s →
    ∀ v, v = (match a with | some x => x | none => getR u 0x21000C) →
    (tsuIssued u who = true → u.tsu.pend = none →
      (Completes (.tsuStep who a cycles) s fun t =>
        rawNow t = rawNow u + v ∧ anchorValid t = false ∧ getF t ⟨0x210014, 8, 8⟩ = 0) ∧
      (Completes (.tsuSlew who a cycles) s fun t =>
        getR t 0x210018 = v ∧ rawNow t = rawNow u ∧ getF t ⟨0x210014, 8, 8⟩ = 0) ∧
      (Completes (.tsuLoad who a cycles) s fun t =>
        rawNow t = v ∧ anchorValid t = false ∧ getF t ⟨0x210014, 8, 8⟩ = 0)) ∧
    (tsuIssued u who = true → u.tsu.pend ≠ none →
      ∀ c, c ∈ [Instr.tsuStep who a cycles, .tsuSlew who a cycles, .tsuLoad who a cycles] → Completes c s fun t =>
        getF t ⟨0x210014, 8, 8⟩ = Code.busy.num ∧ rawNow t = rawNow u ∧ t.tsu = u.tsu) ∧
    (who = .host → tsuHost u = false →
      ∀ c, c ∈ [Instr.tsuStep who a cycles, .tsuSlew who a cycles, .tsuLoad who a cycles] → Completes c s fun t => t = tsuAnswer .state u) ∧
    (who ≠ .host → tsuHost u = true →
      ∀ c, c ∈ [Instr.tsuStep who a cycles, .tsuSlew who a cycles, .tsuLoad who a cycles] → Completes c s fun t => t = u)) ∧
  (∀ (who : Issuer) (fw : FwAnchor) (v a : Word) (cycles : Nat) (s : State),
    (netOn s = true → ∀ u, u = tsuAdvance cycles s →
      (tsuIssued u who = true →
        (Completes (.tsuAnchorCommit who none v cycles) s fun t => anchorValid t = true ∧
          getF t ⟨0x21002C, 0, 16⟩ = v.toNat % 2 ^ 16 ∧ getR t 0x210020 = getR u 0x210020) ∧
        (who ≠ .host → Completes (.tsuAnchorCommit who (some fw) v cycles) s fun t => anchorValid t = true ∧
          getF t ⟨0x21002C, 0, 16⟩ = v.toNat % 2 ^ 16 ∧ getR t 0x210020 = fw.raw ∧ getR t 0x210028 = fw.secLo ∧
          getR t 0x210008 = fw.incr)) ∧
      ((who = .host ∧ tsuHost u = false) ∨ (who ≠ .host ∧ tsuHost u = true) →
        Completes (.tsuAnchorCommit who none v cycles) s fun t => t = u)) ∧
    (netOn s = false → ∀ c, c ∈ [Instr.tsuStep who (some a) cycles, .tsuSlew who (some a) cycles, .tsuLoad who (some a) cycles,
      .tsuAnchorCommit who (some fw) v cycles, .tsuSlewDone] → Completes c s fun t => t = s)) ∧
  (∀ s : State, netOn s = true →
    (slewRem s ≠ 0 → Completes .tsuSlewDone s fun t =>
      getR t 0x210018 = 0 ∧ rawNow t = w32 (unsigned 32 ((rawNow s).toNat + slewRem s))) ∧
    (slewRem s = 0 → Completes .tsuSlewDone s fun t => t = s)) ∧
  (∀ (cycles : Nat) (s : State),
    (Completes (.anchorExpire cycles) s fun t => t = tsuAdvance cycles s) ∧
    (netOn s = true → s.tsu.pend = none → slewRem s = 0 → (rawNow s - getR s 0x210020).toNat < 2000000000 →
      2000000000 ≤ (rawNow s - getR s 0x210020).toNat + (s.tsu.frac + tsuIncr s * cycles) / 2 ^ 28 →
      Completes (.anchorExpire cycles) s fun t => anchorValid t = false))) ∧
  ((∀ (p : Fin 4) (cycles : Nat) (x : TxEnt) (s : State), tstUnlocked s = false → (portOf s p.val).cur = some x → ∀ u, u = tsuAdvance cycles s →
    (netOn s = true → x.stamp = none → Completes (.txStamp p cycles) s fun t => t.regs = u.regs ∧ t.twn = u.twn) ∧
    (netOn s = true → ∀ o i, x.stamp = some (o, i) →
      (∀ e, (List.range 64).find? (fun e => !sqValid u e) = some e → sqHeld u o < sqShare u o → Completes (.txStamp p cycles) s fun t =>
        sqValid t e = true ∧ sqOwner t e = o ∧
        getR t (sqReg e) = w32 (unsigned 32 ((rawNow u).toNat + portTxLat u p.val)) ∧
        (portOf t p.val).cur.map (·.stamp) = some none ∧
        (o = .firmware → ctrlRun u = true → t.twn.inbox = u.twn.inbox ++
          [.stamp p.val x.queue i.toNat (w32 (unsigned 32 ((rawNow u).toNat + portTxLat u p.val)))])) ∧
      ((List.range 64).find? (fun e => !sqValid u e) = none ∨ sqShare u o ≤ sqHeld u o → Completes (.txStamp p cycles) s fun t =>
        (getR t 0x210044).toNat = min (2 ^ 32 - 1) ((getR u 0x210044).toNat + 1) ∧ (portOf t p.val).cur.map (·.stamp) = some none)) ∧
    (netOn s = false → Completes (.txStamp p cycles) s fun t => t = u)) ∧
  (∀ (p : Fin 4) (cycles : Nat) (s : State), (portOf s p.val).cur = none → Completes (.txStamp p cycles) s fun t => t = tsuAdvance cycles s) ∧
  (∀ (e : Fin 64) (s : State),
    (netOn s = true → sqValid s e.val = true → sqOwner s e.val = .host → Completes (.tsuSqFree .host e) s fun t =>
      sqValid t e.val = false) ∧
    (netOn s = true → sqValid s e.val = false ∨ sqOwner s e.val ≠ .host → Completes (.tsuSqFree .host e) s fun t => t = s) ∧
    (netOn s = true → tsuHost s = false → bothInStep s = true → ctrlRun s = true → Completes (.tsuSqFree (.firmware .equal) e) s fun t =>
      sqValid t e.val = (sqValid s e.val && decide (sqOwner s e.val = .host)) ∧ t.twn.inbox = s.twn.inbox ++ [.stampFree e.val]) ∧
    (netOn s = false → ∀ who, who ∈ [Issuer.host, .firmware .equal] → Completes (.tsuSqFree who e) s fun t => t = s)) ∧
  (∀ (p : Fin 4) (q : BitVec 3) (cycles : Nat) (held : Bool) (s : State), tstUnlocked s = false → ∀ u, u = tsuAdvance cycles s →
    (∀ e, headOf u p.val q.toNat = some e → ∀ l, e.launch = some l →
      ∀ go, go = (((e.late || held) && decide (e.delay ≤ (rawNow u - l).toNat)) || rawReached u (l + w32 e.delay)) →
      (txFree u p.val = true → txReady u p.val e = true → go = true →
        Completes (.launch p q cycles held) s fun t => (portOf t p.val).cur = some e ∧
          (getR t 0x21004C).toNat = min (2 ^ 32 - 1) ((getR u 0x21004C).toNat + 1) ∧
          (e.late = true ∨ held = true → (getR t 0x210048).toNat = min (2 ^ 32 - 1) ((getR u 0x210048).toNat + 1))) ∧
      (txFree u p.val = false ∨ txReady u p.val e = false ∨ go = false →
        Completes (.launch p q cycles held) s fun t => t = u)) ∧
    (headOf u p.val q.toNat = none → Completes (.launch p q cycles held) s fun t => t = u)))

/-! ### The wireless cells -/

/-- R424, R426, R431, R439: a timeslot takes its ASN, moves the grid by at most 100 µs towards its source, and has a receive
window where its cell receives and nothing is sent; a frame that its cell may take is sent on the channel of the cell, and
leaves the queue when acknowledged. R430 to R433: a beacon of the PAN followed, in a receive window or while the radio
listens without a cell, is heard, and its ASN and phase taken where the neighbour is the time source; one more than a
timeslot off, and one that does not come, is a miss, the third of which loses the neighbour. R434: the third keepalive missed
starts the search. R431: a search hops. R442: an exhausted frame counter starts a new key epoch. R452: the ASN is read. TST
is locked. R437 to R439, R527, R533: a first copy of a radio frame waits; an equal second copy, and the one live twin's copy
at once, joins the queue, unless that is full or the frame fits no slotframe; of unequal copies of one spline tag the
mismatch is counted and a divergence proof begins. A copy left alone joins the queue and is counted, and costs the other twin
a strike. TST is locked, and no copy is on its way late. -/
def Obligations.RadiosComplete : Prop :=
  ((∀ (r : Fin 4) (asn : BitVec 40) (acked : Bool) (s : State), tstUnlocked s = false →
    (airOn s = true → Completes (.timeslotStart r asn acked) s fun t =>
      (radioOf t r.val).asn = asn ∧ getR t (airReg r.val 0xC) = asn.setWidth 32 ∧
      (∀ d, d = gridCorr s r.val asn.toNat (timeSrc s r.val) → (radioOf t r.val).corr = d - clampInt (-100) 100 d) ∧
      (flag s ⟨airReg r.val 0, 0, 1⟩ = true → radioBad s r.val = false → ∀ c, chooseCell s r.val asn.toNat = some c →
        (radioOf t r.val).rx = (cellOpt c 1 && !cellSends s r.val c)) ∧
      (flag s ⟨airReg r.val 0, 0, 1⟩ = false → t.out = s.out) ∧
      (flag s ⟨airReg r.val 0, 0, 1⟩ = true → radioBad s r.val = false → timeSrc s r.val ≠ 3 →
        ∀ c, chooseCell s r.val asn.toNat = some c → cellOpt c 0 = true → cellOpt c 5 = false → cellOpt c 2 = false →
        ∀ e, frameFor s r.val c = some e →
          t.out = .radio r.val (hopKhz s r.val (cellHandle c) asn.toNat (cellBits c 16 8)) (txDbm s r.val) (headTo s e.f.dst)
            e.f.msg :: s.out ∧ t.air.fc = s.air.fc + 1 ∧
          (acked = true ∨ e.f.dst = .short 0xFFFF → (radioOf t r.val).queue = (radioOf s r.val).queue.erase e))) ∧
    (airOn s = false → Completes (.timeslotStart r asn acked) s fun t => t = s)) ∧
  (∀ (r : Fin 4) (pan : BitVec 16) (asn : BitVec 40) (off : Int) (s : State), tstUnlocked s = false →
    (airOn s = true → followEn s r.val = true → pan = followPan s r.val → beaconHeard s r.val = true →
      radioBad s r.val = false → hearsBeacon s r.val off = true →
      ∀ apart, apart = (decide (asn.toNat + 1 < (radioOf s r.val).asn.toNat) || decide ((radioOf s r.val).asn.toNat + 1 < asn.toNat)) →
      (timeSrc s r.val ≠ 1 ∨ apart = false → Completes (.beaconReceive r pan asn off) s fun t =>
        (radioOf t r.val).heard = some pan ∧ (radioOf t r.val).misses = 0 ∧ flag t (lostFld r.val) = false ∧
        (timeSrc t r.val = 1 → (radioOf t r.val).asn = asn ∧ (radioOf t r.val).corr = off)) ∧
      (timeSrc s r.val = 1 → apart = true → Completes (.beaconReceive r pan asn off) s fun t =>
        (radioOf t r.val).misses = (radioOf s r.val).misses + 1)) ∧
    (airOn s = false ∨ followEn s r.val = false ∨ pan ≠ followPan s r.val ∨ beaconHeard s r.val = false ∨
        hearsBeacon s r.val off = false →
      Completes (.beaconReceive r pan asn off) s fun t => t = s)) ∧
  (∀ (r : Fin 4) (s : State),
    (airOn s = true → flag s ⟨airReg r.val 0, 0, 1⟩ = true → timeSrc s r.val = 1 → Completes (.beaconMissed r) s fun t =>
      (radioOf t r.val).misses = (radioOf s r.val).misses + 1 ∧
      ((radioOf s r.val).misses = 2 → flag t (lostFld r.val) = true)) ∧
    (airOn s = false ∨ flag s ⟨airReg r.val 0, 0, 1⟩ = false ∨ timeSrc s r.val ≠ 1 → Completes (.beaconMissed r) s fun t => t = s) ∧
    (∀ e : Fin 1024,
      (airOn s = true → flag s ⟨airReg r.val 0, 0, 1⟩ = true → leased s e.val = true → Completes (.keepaliveMiss r e) s fun t =>
        getF t (leaseMiss e.val) = min 3 (getF s (leaseMiss e.val) + 1) ∧
        (getF s (leaseMiss e.val) = 2 → flag t (leaseSearch e.val) = true)) ∧
      (airOn s = false ∨ flag s ⟨airReg r.val 0, 0, 1⟩ = false ∨ leased s e.val = false →
        Completes (.keepaliveMiss r e) s fun t => t = s))) ∧
  (∀ (r : Fin 4) (s : State),
    (∀ (h : Nat) (hs : List Nat), slotframes s r.val = h :: hs → airOn s = true → followEn s r.val = true → timeSrc s r.val = 3 →
      Completes (.searchChannelHop r) s fun t =>
        (radioOf t r.val).hop = ((radioOf s r.val).hop + 1) % max 1 (sfHopLen s r.val h) ∧ t.regs = s.regs) ∧
    (airOn s = false ∨ followEn s r.val = false ∨ timeSrc s r.val ≠ 3 ∨ slotframes s r.val = [] →
      Completes (.searchChannelHop r) s fun t => t = s)) ∧
  (∀ (route : Route) (r : Fin 4) (s : State), tstUnlocked s = false →
    (routeOpen s route = true → airOn s = true → Completes (.airAsnRead route r) s fun t =>
      t.hostData = [(radioOf s r.val).asn.setWidth 32] ∧
      getR t (airReg r.val 0x10) = w32 ((radioOf s r.val).asn.toNat / 2 ^ 32)) ∧
    (routeOpen s route = true → airOn s = false → Completes (.airAsnRead route r) s fun t => t = { s with hostData := [0] }) ∧
    (routeOpen s route = false → Completes (.airAsnRead route r) s fun t => t = s)) ∧
  (∀ s : State,
    (airOn s = true → 0xFFFF0000 ≤ s.air.fc.toNat → Completes .frameCounterExhaust s fun t =>
      t.air.epoch = s.air.epoch + 1 ∧ t.air.fc = 0 ∧ getR t 0x304008 = s.air.epoch + 1) ∧
    (airOn s = false ∨ s.air.fc.toNat < 0xFFFF0000 → Completes .frameCounterExhaust s fun t => t = s))) ∧
  ((∀ (r : Fin 4) (t : Twin) (f g : RadioTx) (s : State), tstUnlocked s = false → s.twn.late = [] →
    (airOn s = true → ctrlRun s = true →
      (bothInStep s = true → (radioOf s r.val).copies = [] → Completes (.radioTxCopy r t f) s fun u =>
        (radioOf u r.val).copies = [{ twin := t, item := f }] ∧ (radioOf u r.val).queue = (radioOf s r.val).queue) ∧
      ((bothInStep s = true ∧ (radioOf s r.val).copies = [{ twin := t.other, item := f }]) ∨
          (bothInStep s = false ∧ shadowTwin s = none ∧ soleTwin s = some t ∧ (radioOf s r.val).copies = []) →
        Completes (.radioTxCopy r t f) s fun u => (radioOf u r.val).copies = [] ∧
          ((radioOf s r.val).queue.length < 256 → (slotframes s r.val).any (fun h => decide (f.len ≤ sfMax s r.val h)) = true →
            (radioOf u r.val).queue = (radioOf s r.val).queue ++ [{ f := f }]) ∧
          (256 ≤ (radioOf s r.val).queue.length → (radioOf u r.val).queue = (radioOf s r.val).queue ∧
            (getR u (airCnt r.val 10)).toNat = min (2 ^ 32 - 1) ((getR s (airCnt r.val 10)).toNat + 1))) ∧
      (bothInStep s = true → (radioOf s r.val).copies = [{ twin := t.other, item := g }] → f ≠ g → f.tag = g.tag → Completes (.radioTxCopy r t f) s fun u =>
        (radioOf u r.val).copies = [] ∧ u.twn.a = .proving ∧ u.twn.b = .proving ∧
        (getR u (airCnt r.val 12)).toNat = min (2 ^ 32 - 1) ((getR s (airCnt r.val 12)).toNat + 1))) ∧
    (airOn s = false ∨ ctrlRun s = false ∨ twinDead s t = true → Completes (.radioTxCopy r t f) s fun u => u = s)) ∧
  (∀ (r : Fin 4) (s : State),
    (∀ c q, (radioOf s r.val).copies = c :: q → c.passed = false → bothInStep s = true → Completes (.radioCopyTimeout r) s fun u =>
      (radioOf u r.val).copies = q ∧ strikeCount u c.twin.other = strikeCount s c.twin.other + 1 ∧
      (getR u (airCnt r.val 11)).toNat = min (2 ^ 32 - 1) ((getR s (airCnt r.val 11)).toNat + 1) ∧
      ((radioOf s r.val).queue.length < 256 → (slotframes s r.val).any (fun h => decide (c.item.len ≤ sfMax s r.val h)) = true →
        (radioOf u r.val).queue = (radioOf s r.val).queue ++ [{ f := c.item }])) ∧
    ((radioOf s r.val).copies = [] → Completes (.radioCopyTimeout r) s fun u => u = s)))

/-- R443 to R451: an accepted frame of an entry: JOIN_REQ takes WAIT to JOINING, or a lease to its rejoin; JOIN_CONF under
the staged key makes the lease ACTIVE with that link key; RENEW refreshes REMAIN_S; KEEPALIVE, DATA, an unknown message and
RELAY reach the twins and set RX_FC, and a SILENT lease is ACTIVE again; LEAVE ends the lease. A frame that is not
authenticated is counted and reaches nothing, and a radio that is OFF or disabled, or whose timeslot has no receive window,
takes none in. R448, R452: the write of the high word commits a lease's EUI-64: a free entry waits for it, a new one ends the
lease of the old, 0 frees the entry. An unanswered join, silence and expiry change the lease's state as R448 gives it. -/
def Obligations.LeasesComplete : Prop :=
  ((∀ (rx : RadioRx) (e : Nat) (caps : Byte) (n : BitVec 64) (s : State), radioAccepts rx e s →
    ((leaseOf s e).join ≠ none →
      (leaseState s e = 1 → Completes (.joinReq rx caps n) s fun t => leaseState t e = 2 ∧ getR t (leaseReg e 3) = rx.fc) ∧
      (leased s e = true → Completes (.joinReq rx caps n) s fun t => flag t (joinPend e) = true ∧ leased t e = true)) ∧
    (∀ k, (leaseOf s e).staged = some k → leaseState s e = 2 ∨ flag s (joinPend e) = true →
      Completes (.joinConf rx k.2) s fun t => leaseState t e = 3 ∧ (leaseOf t e).link = some k.1 ∧
        (leaseOf t e).staged = none ∧ getF t (leaseRemain e) = leaseS s)) ∧
  (∀ (rx : RadioRx) (e : Nat) (m : QueradMsg) (st : Byte) (d o : BitVec 16) (hops : Byte) (b : List Byte) (s : State),
    radioAccepts rx e s → (leaseOf s e).link ≠ none →
    (leaseState s e = 3 →
      (Completes (.renew rx) s fun t => getF t (leaseRemain e) = leaseS s ∧ leaseState t e = 3) ∧
      (∀ c, c ∈ [(Instr.keepalive rx st, querad 6 rx [st]),
          (.queradData rx m, match m with | .data xs => querad 0x10 rx (xs.flatMap itemBytes) | .unknown q body => querad q.toNat rx body),
          (.relay rx d o hops b, querad 0x20 rx (leBytes 2 d.toNat ++ leBytes 2 o.toNat ++ [hops] ++ b))] →
        Completes c.1 s fun t => t.twn.inbox = s.twn.inbox ++ [.radio rx c.2] ∧ getR t (leaseReg e 3) = rx.fc)) ∧
    (leaseState s e = 4 → ∀ c, c ∈ [Instr.renew rx, .keepalive rx st, .queradData rx m, .relay rx d o hops b] →
      Completes c s fun t => leaseState t e = 3 ∧ getR t (leaseReg e 3) = rx.fc) ∧
    (joined s e = true → Completes (.leave rx st) s fun t => leaseState t e = 1 ∧ (leaseOf t e).link = none)) ∧
  (∀ (rx : RadioRx) (m : QueradMsg) (st : Byte) (n : BitVec 64) (d o : BitVec 16) (b : List Byte) (s : State),
    (airOn s = true → flag s ⟨airReg rx.radio.val 0, 0, 1⟩ = true → radioBad s rx.radio.val = false → (radioOf s rx.radio.val).rx = true →
      rx.micOk = false →
      ∀ e, slotOf s rx.src = some e → inRxWindow s rx.radio.val (flag s (leaseSearch e)) rx.off = true →
      ∀ c, c ∈ [Instr.joinReq rx st n, .joinConf rx n, .renew rx, .keepalive rx st, .leave rx st, .queradData rx m, .relay rx d o st b] →
        Completes c s fun t => t = bump (airCnt rx.radio.val 1) s) ∧
    (airOn s = false ∨ flag s ⟨airReg rx.radio.val 0, 0, 1⟩ = false ∨ (radioOf s rx.radio.val).rx = false →
      ∀ c, c ∈ [Instr.joinReq rx st n, .joinConf rx n, .renew rx, .keepalive rx st, .leave rx st, .queradData rx m, .relay rx d o st b] →
        Completes c s fun t => t = s))) ∧
  ((∀ (e : Fin 1024) (v : Word) (s : State), airOn s = true → ∀ x : BitVec 64, x = v ++ getR s (leaseReg e.val 0) →
    Completes (.leaseEuiWrite e v) s fun t => (leaseOf t e.val).eui = x ∧ getR t (leaseReg e.val 1) = v ∧
      (x = 0 → leaseState t e.val = 0 ∧ (leaseOf t e.val).join = none ∧ (leaseOf t e.val).link = none) ∧
      (x ≠ 0 → leaseState s e.val = 0 → leaseState t e.val = 1) ∧
      (x ≠ 0 → leaseState s e.val ≠ 0 → x ≠ (leaseOf s e.val).eui → leaseState t e.val = 1 ∧ (leaseOf t e.val).link = none) ∧
      (x ≠ 0 → leaseState s e.val ≠ 0 → x = (leaseOf s e.val).eui → leaseState t e.val = leaseState s e.val)) ∧
  (∀ (e : Fin 1024) (s : State), airOn s = true →
    (leaseState s e.val = 2 → Completes (.joinWaitExpire e) s fun t =>
      leaseState t e.val = 1 ∧ (leaseOf t e.val).staged = none) ∧
    (leased s e.val = true → flag s (joinPend e.val) = true → Completes (.joinWaitExpire e) s fun t =>
      leaseState t e.val = leaseState s e.val ∧ flag t (joinPend e.val) = false ∧ (leaseOf t e.val).staged = none) ∧
    (leaseState s e.val ≠ 2 → leased s e.val = false ∨ flag s (joinPend e.val) = false →
      Completes (.joinWaitExpire e) s fun t => t = s) ∧
    (leaseState s e.val = 3 → Completes (.leaseSilent e) s fun t => leaseState t e.val = 4 ∧ t.air.leases = s.air.leases) ∧
    (leaseState s e.val ≠ 3 → Completes (.leaseSilent e) s fun t => t = s) ∧
    (leased s e.val = true → getF s (leaseRemain e.val) = 0 → Completes (.leaseExpire e) s fun t =>
      leaseState t e.val = 1 ∧ (leaseOf t e.val).link = none ∧ (leaseOf t e.val).join = (leaseOf s e.val).join) ∧
    (leased s e.val = false ∨ getF s (leaseRemain e.val) ≠ 0 → Completes (.leaseExpire e) s fun t => t = s)) ∧
  (∀ (e : Fin 1024) (v : Word) (s : State), airOn s = false →
    ∀ c, c ∈ [Instr.leaseEuiWrite e v, .joinWaitExpire e, .leaseSilent e, .leaseExpire e] → Completes c s fun t => t = s))

/-! ### The hierarchy -/

/-- R460, R461: a manager sends a HELLO each period, and the full refresh of credit after it, of every child declared or
seen, 36 to a frame; a HELLO whose sender is the parent gives its address, its epochs and its MTU, and others change nothing;
a child sends its ANNOUNCE; a child's ANNOUNCE makes it present, and FIRST sets RELEASED to SENT; a parent and a child are
lost. With NET OFF or the twins not running none of these does anything, but that a frame received in STANDBY is held. -/
def Obligations.PresenceCompletes : Prop :=
  (∀ s : State,
    (hierUp s = true → isManager s = true → Completes .helloPeriod s fun t =>
      t = { s with out := t.out } ∧ ∃ fs : List Output,
        t.out = fs ++ .hier 6 groupAddr (hierBytes 0x01 { ownHdr s with down := true } ([s.hier.epoch, if hierRole s = 0 then s.hier.epoch
          else s.hier.heldRoot.getD 0] ++ leBytes 2 (window s) ++ leBytes 2 (downMtu s) ++ leBytes 2 (getF s ⟨0x400008, 0, 8⟩))) :: s.out ∧
        fs.length = min 4 (((allKids s).length + 35) / 36)) ∧
    (hierUp s = true → isChild s = true → Completes .announcePeriod s fun t =>
      t = { s with out := t.out, hier := { s.hier with first := false } } ∧
      t.out = .hier 5 groupAddr (hierBytes 0x02 (ownHdr s) (wordBytes (getR s 0x10014) ++ wordBytes s.hier.sent ++
        leBytes 2 (b2n s.hier.first + 2 * b2n (imgSealed s) + 4 * b2n (ctrlRun s)))) :: s.out) ∧
    (hierUp s = true → Completes .parentLost s fun t => t = setB ⟨0x400004, 0, 1⟩ false s) ∧
    (hierUp s = false ∨ isManager s = false → Completes .helloPeriod s fun t => t = s) ∧
    (hierUp s = false ∨ isChild s = false → Completes .announcePeriod s fun t => t = s) ∧
    (hierUp s = false → Completes .parentLost s fun t => t = s)) ∧
  (∀ (h : HierHdr) (mac : BitVec 48) (eo er : BitVec 8) (win mtu ms : BitVec 16) (s : State), hierUp s = true →
    ∀ tier, tier = (decide (hierRole s = 1 ∧ orgRole h.sender = 0) ||
      decide (hierRole s = 2 ∧ orgRole h.sender = 1 ∧ orgArea h.sender = hierArea s)) →
    (tier = true → Completes (.hello h mac eo er win mtu ms) s fun t =>
      flag t ⟨0x400004, 0, 1⟩ = true ∧ t.hier = { s.hier with heldParent := some eo, heldRoot := some er, parentMac := some mac } ∧
      upMtu t = mtu.toNat % 2 ^ 14 ∧ getF t ⟨0x400004, 16, 8⟩ = eo.toNat ∧ getF t ⟨0x400004, 24, 8⟩ = er.toNat) ∧
    (tier = false → Completes (.hello h mac eo er win mtu ms) s fun t => t = s)) ∧
  (∀ (h : HierHdr) (q n : Word) (f a c : Bool) (s : State), hierUp s = true →
    (∀ i, childIndex s h.sender = some i → Completes (.announce h q n f a c) s fun t =>
      (childOf t i).state = 1 ∧ (childOf t i).imgSeq = q ∧ (childOf t i).flags = b2n f + 2 * b2n a + 4 * b2n c ∧
      (f = true → (childOf t i).sent = n ∧ (childOf t i).released = n) ∧
      (f = false → (childOf t i).sent = (childOf s i).sent ∧ (childOf t i).released = (childOf s i).released) ∧
      ∀ j, j ≠ i → childOf t j = childOf s j) ∧
    (childIndex s h.sender = none → Completes (.announce h q n f a c) s fun t => t = s)) ∧
  (∀ (i : Fin 128) (s : State),
    (hierUp s = true → (childOf s i.val).state = 1 → Completes (.childLost i) s fun t =>
      (childOf t i.val).state = 2 ∧ (∀ j, j ≠ i.val → childOf t j = childOf s j) ∧
      (getR t (hierCnt 8)).toNat = min (2 ^ 32 - 1) ((getR s (hierCnt 8)).toNat + 1)) ∧
    (hierUp s = false ∨ (childOf s i.val).state ≠ 1 → Completes (.childLost i) s fun t => t = s)) ∧
  (∀ (h : HierHdr) (mac : BitVec 48) (eo er : BitVec 8) (win mtu ms : BitVec 16) (q n : Word) (f a c : Bool) (s : State),
    ∀ x, x ∈ [Instr.hello h mac eo er win mtu ms, .announce h q n f a c] →
      (netOn s = true → ctrl s = .standby → s.hier.held.length < 256 → Completes x s fun t =>
        t = { s with hier := { s.hier with held := s.hier.held ++ [x] } }) ∧
      (hierOn s = false → ctrl s ≠ .standby ∨ netOn s = false → Completes x s fun t => t = s))

/-- R478, R479, R483, R517: CREDIT from the parent sets this module's limit, and the frame that waited for it goes; the TELEM
and SNAPDATA frames of a child charge its cells, count lost ones, and show it present; a block's sequence number is noted
where its checks pass and the block is counted where they do not; the summaries of the collection that runs reach REGION 3 at
the root, and the last one expected ends it. Frames of no child change nothing; in STANDBY each is held, 256 at most. -/
def Obligations.UpwardFramesComplete : Prop :=
  (∀ (h : HierHdr) (ls : List (Byte × Word)) (s : State), hierUp s = true →
    ∀ mine, mine = ls.find? (fun x => decide (x.1.toNat = if hierRole s = 1 then hierArea s else hierWorker s)) →
    (∀ x, mine = some x → isChild s = true → parentOrigin s = some h.sender → Completes (.credit h ls) s fun t =>
      t.hier.limit = x.2 ∧ t.hier.children = s.hier.children ∧
      (s.hier.upq = [] → s.hier.sendNext = none → s.hier.packs = [] → s.hier.stuck = [] → s.pln.unsent = [] →
        t = { s with hier := { s.hier with limit := x.2 } }) ∧
      (∀ e, s.hier.upq = [e] → ∀ m, s.hier.parentMac = some m → s.hier.sendNext = none → s.hier.packs = [] → s.hier.stuck = [] →
        s.pln.unsent = [] →
        ((x.2 - s.hier.sent - w32 (upCells e.len)).toNat < 2 ^ 31 → t.hier.upq = [] ∧ t.hier.sent = s.hier.sent + w32 (upCells e.len) ∧
          t.out = .hier 1 m (hierBytes e.mtype { ownHdr s with own := BitVec.ofNat 2 e.own } (e.pre ++ wordBytes t.hier.sent ++ e.post)) ::
            s.out) ∧
        (2 ^ 31 ≤ (x.2 - s.hier.sent - w32 (upCells e.len)).toNat → t.hier.upq = [e] ∧ t.out = s.out))) ∧
    (mine = none ∨ isChild s = false ∨ parentOrigin s ≠ some h.sender → Completes (.credit h ls) s fun t => t = s)) ∧
  (∀ (h : HierHdr) (sent : Word) (n : Nat) (b : List Byte) (id : BitVec 16) (epa : Word) (nt last : Bool) (xs : List (BitVec 64)) (s : State),
    hierUp s = true → (∀ i, childIndex s h.sender = some i →
      ∀ gap, gap = (sent - w32 (upCells n) - (childOf s i).sent).toNat → ∀ lost, lost = (if gap < 2 ^ 31 then gap else 0) →
      (∀ c, c ∈ [Instr.telem h sent n b, .snapdata h id epa nt last sent n xs] → Completes c s fun t =>
        (childOf t i).state = 1 ∧ (childOf t i).sent = sent ∧
        (childOf t i).released = (childOf s i).released + w32 (upCells n + lost) ∧
        (getR t (hierCnt 5)).toNat = min (2 ^ 32 - 1) ((getR s (hierCnt 5)).toNat + lost)) ∧
      (Completes (.telem h sent n b) s fun t =>
        (blockGood b = true → tabGet (fun _ => none) (childOf t i).bseq ((b.getD 0 0).toNat / 16 % 4) = some (BitVec.ofNat 16 (leNat ((b.drop 8).take 2)) + 1)) ∧
        (blockGood b = false → (childOf t i).bseq = (childOf s i).bseq ∧ t.pln = s.pln ∧
          (getR t (plnCnt 8)).toNat = min (2 ^ 32 - 1) ((getR s (plnCnt 8)).toNat + 1))) ∧
      (∀ c, s.hier.coll = some c → c.id = id → hierRole s = 0 → Completes (.snapdata h id epa nt last sent n xs) s fun t =>
        (c.waiting = [i] → last = true → t.hier.coll = none ∧ flag t collDone = true ∧ flag t collRunning = false) ∧
        (last = false → c.waiting ≠ [] → t.hier.coll = some c) ∧
        (∀ v, xs = [v] → tabGet (fun _ => 0) t.hier.region3 (regionAt h.own.toNat epa) = v ∧
          (getR t 0x4000B4).toNat = min (2 ^ 32 - 1) ((getR s 0x4000B4).toNat + 1))) ∧
      (∀ c, s.hier.coll = some c → c.id ≠ id → Completes (.snapdata h id epa nt last sent n xs) s fun t =>
        t.hier.coll = some c ∧ t.hier.region3 = s.hier.region3 ∧ t.hier.packs = s.hier.packs) ∧
      (s.hier.coll = none → Completes (.snapdata h id epa nt last sent n xs) s fun t =>
        t.hier.coll = none ∧ t.hier.region3 = s.hier.region3 ∧ t.hier.packs = s.hier.packs)) ∧
    (childIndex s h.sender = none → ∀ c, c ∈ [Instr.telem h sent n b, .snapdata h id epa nt last sent n xs] → Completes c s fun t => t = s)) ∧
  (∀ (h : HierHdr) (ls : List (Byte × Word)) (sent : Word) (n m : Nat) (b : List Byte) (id : BitVec 16) (epa : Word) (nt last : Bool)
    (xs : List (BitVec 64)) (ab : AckBody) (s : State),
    ∀ c, c ∈ [Instr.credit h ls, .telem h sent n b, .snapdata h id epa nt last sent n xs, .ack h ab, .barrier h, .arrive h n m] →
      (netOn s = true → ctrl s = .standby →
        (s.hier.held.length < 256 → Completes c s fun t => t = { s with hier := { s.hier with held := s.hier.held ++ [c] } }) ∧
        (256 ≤ s.hier.held.length → Completes c s fun t => t = bump (hierCnt 6) s)) ∧
      (hierOn s = false → ctrl s ≠ .standby ∨ netOn s = false → Completes c s fun t => t = s))

/-- R464 to R468: a command that is accepted, selects this module and has something to act on is counted and acts as R464
gives it: a LEVEL on a string's lead, on a chain position, on a glowworm's luminaire; POWER and RESET as the host's commands;
COLLECT of the snapshot held, which a manager in whose subtree others are in scope passes through whether it holds it or not;
CANCEL of an armed entry; with SCHED, LEVEL, POWER, RESET and SNAPSHOT arm a firmware entry. What R464 to R468 answer STATE
or BUSY has no effect. A WAKE in RUN only judges its epoch, but that one of the module's own goes down its ring (R456, R459).
-/
def Obligations.HierCommandsComplete : Prop :=
  (∀ (h : HierHdr) (code ramp : BitVec 16) (log : Bool) (s : State), hierActs h s → h.sched = false →
    (∀ r, levelRecs s h = [r] →
      (recKind s r = 2 → Completes (.level h code ramp log) s fun t => (recOf t r).target = code.toNat ∧
        ∃ os, t.out = os ++ .glow (getF s (leaseRadio (recSource s r % 1024))) (.short (BitVec.ofNat 16 (recSource s r % 1024 + 1)))
          (0x10 :: s.air.qseq :: itemBytes (.level code ramp log)) :: s.out ∧ (h.ackReq = false → os = [])) ∧
      (recKind s r = 1 → Completes (.level h code ramp log) s fun t => (recOf t r).target = code.toNat ∧
        ∃ os, t.out = os ++ .issue (.word (recSource s r / 256 % 4) (recSource s r % 128)
          (levelWord (chnFields s (recSource s r / 256 % 4)) code.toNat)) :: s.out ∧ (h.ackReq = false → os = [])) ∧
      (∀ l, stringLead s (recSource s r) = some l → recKind s r = 0 → leadOf s l = l → chOn s l = true →
        Completes (.level h code ramp log) s fun t => (recOf t r).target = code.toNat ∧
          tabGet (fun _ => none) t.drv.held l = some ⟨code, ramp, true, log, 1⟩ ∧
          ∃ os, t.out = os ++ .issue (.ref l ⟨code, ramp, true, log, 1⟩) :: s.out ∧ (h.ackReq = false → os = []))) ∧
    (levelRecs s h = [] → Completes (.level h code ramp log) s fun t => t.drv = s.drv ∧ t.hier.recs = s.hier.recs)) ∧
  (∀ (h : HierHdr) (w : BitVec 12) (k : Byte) (s : State), hierActs h s → h.sched = false →
    ((soleTwin s).isSome = true → s.sys.held = false → flag s pwrBusy = false → pwrRefused s (w.setWidth 32) = false → Completes (.power h w) s fun t =>
      t.sys.todo = pwrChanges s (w.setWidth 32) ∧ getF t pwrTag = h.cmdId.toNat % 256 ∧ getF t pwrResult = 0 ∧
      getF t ⟨0x20, 0, 16⟩ = h.cmdId.toNat ∧ getF t ⟨0x20, 16, 16⟩ = h.issuer.toNat) ∧
    (flag s pwrBusy = true ∨ pwrRefused s (w.setWidth 32) = true → Completes (.power h w) s fun t => t.sys.todo = s.sys.todo) ∧
    (∀ kind, resetKind k.toNat = some kind →
      ((soleTwin s).isSome = true → resetAnswer s kind = .ok → Completes (.reset h k) s fun t => t.sys.rstWait = some (kind, false) ∧ t.sys.rstSaved = false) ∧
      (resetAnswer s kind ≠ .ok → Completes (.reset h k) s fun t => t.sys.rstWait = s.sys.rstWait)) ∧
    (resetKind k.toNat = none → Completes (.reset h k) s fun t => t.sys = s.sys)) ∧
  (∀ (h : HierHdr) (id : BitVec 16) (s : State), hierActs h s →
    (∀ kids, kids = (childrenFor s h).filter (fun i => decide ((childOf s i).state = 1)) →
      collecting s id = false → isManager s = true → kids ≠ [] → Completes (.collect h id) s fun t =>
        t.hier.coll = some ⟨id, kids, decide (s.hier.snap.map (·.id) = some id) && decide (h.issuer = ownOrigin s)⟩ ∧ flag t collRunning = true ∧ flag t collDone = false ∧
        getF t ⟨0x4000B0, 0, 16⟩ = id.toNat) ∧
    (∀ sn, s.hier.snap = some sn → ∀ n, n = min (snapCount s) 2048 → sn.id = id → collecting s id = false → hierRole s = 2 → n ≠ 0 →
      upRoom s (84 + 8 * n) = true → Completes (.collect h id) s fun t => t.hier.coll = none ∧
        s.hier.upq ++ [⟨0x21, 84 + 8 * n, leBytes 2 id.toNat ++ wordBytes (ownEpa s 0) ++ leBytes 2 n ++ [BitVec.ofNat 8 (b2n sn.notrace), 0],
          (ownSums sn 0 n).flatMap (fun v => leBytes 8 v.toNat), ownKind s⟩] <+: t.hier.upq) ∧
    (collecting s id = true ∨ (s.hier.snap.map (·.id) ≠ some id ∧ childrenFor s h = []) → Completes (.collect h id) s fun t =>
      t.hier.coll = s.hier.coll ∧ t.hier.sendNext = s.hier.sendNext ∧ t.hier.upq = s.hier.upq) ∧
    (h.sched = false → Completes (.snapshot h id) s fun t => t.hier.snap = s.hier.snap ∧ t.hier.armed = s.hier.armed) ∧
    (∀ a, (liveArmed s).find? (fun a => decide (a.hdr.cmdId = id) && decide (a.hdr.issuer = h.issuer) && decide (a.hdr.epoch = h.epoch) &&
        decide (schState s a.entry = 1)) = some a → Completes (.cancel h id) s fun t =>
      t.hier.armed = (liveArmed s).filter (fun b => decide (b.entry ≠ a.entry)) ∧ schState t a.entry = 0) ∧
    ((∀ a, a ∈ s.hier.armed → a.hdr.cmdId ≠ id) → Completes (.cancel h id) s fun t =>
      t.hier.armed = s.hier.armed ∧ ∀ e, schState t e = schState s e)) ∧
  (∀ (h : HierHdr) (code ramp : BitVec 16) (log : Bool) (w : BitVec 12) (k : Byte) (id : BitVec 16) (s : State), hierActs h s →
    h.sched = true → ∀ e, freeEntry s = some e → nowUnits s < (h.tSec.toNat * 1000000000 + h.tNs.toNat % 2 ^ 30) * 32768 →
    ∀ c op act, (c, op, act) ∈ [(Instr.level h code ramp log, HierOp.level code ramp log, 2), (.power h w, .power w, 3),
        (.reset h k, .reset k.toNat, 4), (.snapshot h id, .snapshot id, 2)] →
      (op = .level code ramp log → levelRecs s h ≠ []) → (op = .snapshot id → (liveArmed s).any (fun a => match a.op with | .snapshot _ => true | _ => false) = false) →
      Completes c s fun t => t.hier.armed = liveArmed s ++ [⟨e, h, op⟩] ∧ schState t e = 1 ∧ getF t ⟨schReg e 0xC, 0, 4⟩ = act ∧
        getF t ⟨schReg e 0xC, 8, 8⟩ = h.cmdId.toNat % 256) ∧
  (∀ (h : HierHdr) (code ramp : BitVec 16) (log : Bool) (w : BitVec 12) (k : Byte) (id : BitVec 16) (s : State), hierUp s = true →
    ∀ c, c ∈ [Instr.level h code ramp log, .power h w, .reset h k, .snapshot h id, .collect h id, .cancel h id] →
      (hierAccepts h s → Completes c s fun t => (getR t (hierCnt 1)).toNat = min (2 ^ 32 - 1) ((getR s (hierCnt 1)).toNat + 1)) ∧
      (∀ held, heldEpoch s h.issuer = some held → 128 ≤ (h.epoch - held).toNat → h.ackReq = false → Completes c s fun t =>
        t = raise 150 (bump (hierCnt 2) s)) ∧
      ((∀ held, heldEpoch s h.issuer = some held → (h.epoch - held).toNat < 128) → selected s h = false → (c ≠ .collect h id) →
        Completes c s fun t => t.sys = s.sys ∧ t.drv = s.drv ∧ t.hier.armed = s.hier.armed ∧ t.hier.coll = s.hier.coll)) ∧
  (∀ (h : HierHdr) (s : State), hierUp s = true →
    (h.issuer ≠ ownOrigin s ∨ isManager s = false ∨ (judgeEpoch h s).1 = false → Completes (.wake h) s fun t => t = (judgeEpoch h s).2) ∧
    (h.issuer = ownOrigin s → isManager s = true → (h.epoch - s.hier.epoch).toNat < 128 → Completes (.wake h) s fun t =>
      t = emit (.hier 6 wakeAddr (hierBytes 0x50 { h with down := true } [])) s)) ∧
  (∀ (h : HierHdr) (code ramp : BitVec 16) (log : Bool) (w : BitVec 12) (k : Byte) (id : BitVec 16) (s : State),
    ∀ c, c ∈ [Instr.level h code ramp log, .power h w, .reset h k, .snapshot h id, .collect h id, .cancel h id] →
      (netOn s = true → ctrl s = .standby → s.hier.held.length < 256 → Completes c s fun t =>
        t = { s with hier := { s.hier with held := s.hier.held ++ [c] } }) ∧
      (hierOn s = false → ctrl s ≠ .standby ∨ netOn s = false → Completes c s fun t => t = s))

/-- R35, R101, R473: writes of HIER_MB_GO and HIER_RES_FREE are captured for the twins, after the mailbox words written
before them, and held before READY and in STANDBY; taken, a free empties its slot, and GO sends the mailbox's command down
the ring in a slot that it ends, or finds no slot and answers BUSY, or answers STATE. R470, R471: a command that asks for it
is acknowledged; an ACK joins its entry, the last one closes it, and one that nothing awaits is counted; the wait for one
ends. R476: a barrier waits for its children, who arrive; the wait ends. R483: the wait of a collection ends. -/
def Obligations.HierGatherCompletes : Prop :=
  (∀ (v : Word) (s : State), ∀ c off w, (c, off, w) ∈ [(Instr.hierMbGo, 0x40009C, (1 : Word)), (.hierResFree v, 0x4000A4, v)] →
    (!(twinDead s .a && twinDead s .b) = true →
      (ctrlRun s = true → atReady s = true → Completes c s fun t =>
        t = { s with twn := { s.twn with inbox := s.twn.inbox ++ [.hostReg off w 0] } }) ∧
      (ctrl s = .standby ∨ (ctrlRun s = true ∧ atReady s = false) → Completes c s fun t =>
        t = { s with twn := { s.twn with heldReq := s.twn.heldReq ++ [.hostReg off w 0] } })) ∧
    ((twinDead s .a && twinDead s .b) = true ∨ (ctrlRun s = false ∧ ctrl s ≠ .standby) → Completes c s fun t => t = s)) ∧
  (∀ s : State,
    (∀ (v : Word) (t : State), t = takeInput (.hostReg 0x4000A4 v 0) s → slotState t (getBits v 0 6) = 0 ∧
      t.hier.acks = s.hier.acks.filter (fun a => decide (a.slot ≠ some (getBits v 0 6)))) ∧
    (∀ t : State, t = takeInput (.hostReg 0x40009C 1 0) s →
      ((∀ i, i < 64 → slotState s i ≠ 0) → getF t ⟨0x4000A0, 8, 8⟩ = 1 ∧ t.out = s.out) ∧
      (∀ i, (List.range 64).find? (fun i => decide (slotState s i = 0)) = some i → (∀ j, j < 64 → slotState s j ≠ 1) →
        getF t ⟨0x4000A0, 0, 6⟩ = i ∧ getF t ⟨0x4000A0, 8, 8⟩ = 0 ∧
        (mailOp s = none ∨ imgSealed s = false ∨ hierRole s = 3 ∨ inOwnSubtree s (mailHdr s) = false →
          slotState t i = 2 ∧ getF t ⟨slotReg i 0, 8, 8⟩ = 2) ∧
        (∀ op, imgSealed s = true → hierRole s ≠ 3 → mailOp s = some op → (∀ id, op ≠ .collect id) →
          inOwnSubtree s (mailHdr s) = true → selected s (mailHdr s) = false → childrenFor s (mailHdr s) ≠ [] →
          t.out = .hier 6 groupAddr (hierBytes 0x10 (mailHdr s) (mailBody s op)) :: s.out ∧
          ((mailHdr s).ackReq = false → slotState t i = 2))))) ∧
  (∀ (h : HierHdr) (code ramp : BitVec 16) (log : Bool) (s : State), hierActs h s → h.sched = false →
    h.ackReq = true → hierRole s = 2 → ∀ r, levelRecs s h = [r] → ∀ m, s.hier.parentMac = some m → recKind s r = 2 →
    Completes (.level h code ramp log) s fun t => t.hier.acks = s.hier.acks ∧
      t.out = .hier 5 m (hierBytes 0x11 { ownHdr s with issuer := h.issuer, epoch := h.epoch, cmdId := h.cmdId }
        ((oneCount .ok).flatMap (leBytes 2) ++ leBytes 2 1 ++ leBytes 2 0 ++ leBytes 16 0)) ::
          .glow (getF s (leaseRadio (recSource s r % 1024))) (.short (BitVec.ofNat 16 (recSource s r % 1024 + 1)))
            (0x10 :: s.air.qseq :: itemBytes (.level code ramp log)) :: s.out) ∧
  (∀ (h : HierHdr) (b : AckBody) (s : State), hierUp s = true → (h.issuer = ownOrigin s → h.epoch = s.hier.epoch) →
    (∀ a, s.hier.acks.find? (ackIs h.issuer h.epoch h.cmdId) = some a → ∀ i, childIndex s h.sender = some i →
      a.waiting.contains i = true → Completes (.ack h b) s fun t => (childOf t i).state = 1 ∧
        ∀ rest, rest = s.hier.acks.filter (fun x => !ackIs h.issuer h.epoch h.cmdId x) → ∀ left, left = a.waiting.filter (· ≠ i) →
        (left = [] → t.hier.acks = rest) ∧
        (left ≠ [] → t.hier.acks = rest ++ [{ a with
          waiting := left
          counts := addCounts a.counts b.counts
          expected := a.expected + b.expected
          missing := a.missing + b.missing
          map := if h.result = 0 then a.map else a.map ||| mapOf [i] }] ∧ t.out = s.out)) ∧
    (s.hier.acks.any (ackIs h.issuer h.epoch h.cmdId) = false → Completes (.ack h b) s fun t => t.hier.acks = s.hier.acks ∧
      (getR t (hierCnt 3)).toNat = min (2 ^ 32 - 1) ((getR s (hierCnt 3)).toNat + 1))) ∧
  (∀ (o : BitVec 16) (ep : BitVec 8) (id : BitVec 16) (s : State),
    (Completes (.ackWaitExpire o ep id) s fun t => t.hier.acks = s.hier.acks.filter (fun x => !ackIs o ep id x) ∧
      ∀ a, s.hier.acks.find? (ackIs o ep id) = some a → ∀ i, a.slot = some i → i < 64 → slotState t i = 2) ∧
    (Completes (.barrierWaitExpire o ep id) s fun t => t.hier.bars = s.hier.bars.filter (fun x => !barIs o ep id x) ∧
      ∀ b, s.hier.bars.find? (barIs o ep id) = some b → b.missing + b.waiting.length ≠ 0 →
        (getR t (hierCnt 9)).toNat = min (2 ^ 32 - 1) ((getR s (hierCnt 9)).toNat + 1)) ∧
    (s.hier.acks.any (ackIs o ep id) = false → Completes (.ackWaitExpire o ep id) s fun t => t = s) ∧
    (s.hier.bars.any (barIs o ep id) = false → Completes (.barrierWaitExpire o ep id) s fun t => t = s)) ∧
  (∀ (h : HierHdr) (s : State), hierUp s = true → (∀ e, heldEpoch s h.issuer = some e → (h.epoch - e).toNat < 128) →
    ∀ kids, kids = (childrenFor s h).filter (fun i => decide ((childOf s i).state = 1)) →
    (kids ≠ [] → Completes (.barrier h) s fun t =>
      t.hier.bars = s.hier.bars ++ [⟨h.issuer, h.epoch, h.cmdId, b2n (selected s h), kids, 0, 0⟩]) ∧
    (∀ m, s.hier.parentMac = some m → kids = [] → selected s h = true → h.issuer ≠ ownOrigin s → Completes (.barrier h) s fun t =>
      t.hier.bars = s.hier.bars ∧ t.out = .hier 7 m (hierBytes 0x31 { ownHdr s with issuer := h.issuer, epoch := h.epoch, cmdId := h.cmdId }
        (leBytes 2 1 ++ leBytes 2 0)) :: s.out) ∧
    (kids = [] → selected s h = false → h.issuer ≠ ownOrigin s → Completes (.barrier h) s fun t => t.hier.bars = s.hier.bars ∧ t.out = s.out)) ∧
  (∀ (h : HierHdr) (m n : Nat) (s : State), hierUp s = true →
    (∀ b, s.hier.bars.find? (barIs h.issuer h.epoch h.cmdId) = some b → ∀ i, childIndex s h.sender = some i →
      b.waiting.contains i = true → Completes (.arrive h m n) s fun t => (childOf t i).state = 1 ∧
        ∀ rest, rest = s.hier.bars.filter (fun x => !barIs h.issuer h.epoch h.cmdId x) → ∀ left, left = b.waiting.filter (· ≠ i) →
        (left = [] → t.hier.bars = rest) ∧
        (left ≠ [] → t.hier.bars = rest ++ [{ b with waiting := left, modules := b.modules + m, missing := b.missing + n }])) ∧
    (s.hier.bars.any (barIs h.issuer h.epoch h.cmdId) = false → Completes (.arrive h m n) s fun t => t.hier.bars = s.hier.bars ∧ t.out = s.out)) ∧
  (∀ s : State,
    (∀ c, s.hier.coll = some c → Completes .collectWaitExpire s fun t =>
      t.hier.coll = none ∧ flag t collDone = true ∧ flag t collRunning = false) ∧
    (s.hier.coll = none → Completes .collectWaitExpire s fun t => t = s))

/-- R153, R154, R485: a transfer that selects this module opens the slot of its target, writes it in order, finds gaps, and
commits or aborts it; what the slot's own rules refuse changes nothing of it, and COMMIT of fewer bytes than LEN is answered
STATE. An area manager sends the frame down; one that asks is acknowledged. A transfer that selects other modules leaves the
slots alone. -/
def Obligations.TransfersComplete : Prop :=
  (∀ (h : HierHdr) (x : XferTarget) (s : State), hierUp s = true → selected s h = true →
    (∀ len : Nat,
      (stgJudge (targetStore x) .hier false s = .ok → Completes (.xferBegin h x len) s fun t =>
        staging t (targetStore x) = ⟨.opened, .hier, true, []⟩ ∧ xferNext t x = 0) ∧
      (stgJudge (targetStore x) .hier false s ≠ .ok → Completes (.xferBegin h x len) s fun t =>
        staging t (targetStore x) = staging s (targetStore x) ∧ xferNext t x = xferNext s x)) ∧
    (∀ data : List Byte,
      ((staging s (targetStore x)).st = .opened → (staging s (targetStore x)).owner = .hier → xferNext s x < stgLimit (targetStore x) →
        Completes (.xferData h x (xferNext s x) data) s fun t => xferNext t x = xferNext s x + data.length) ∧
      (∀ off, off ≠ xferNext s x → Completes (.xferData h x off data) s fun t => xferNext t x = xferNext s x ∧
        staging t (targetStore x) = staging s (targetStore x) ∧
        (getR t (hierCnt 7)).toNat = min (2 ^ 32 - 1) ((getR s (hierCnt 7)).toNat + 1))) ∧
    (stgJudge (targetStore x) .hier true s = .ok →
      (Completes (.xferCommit h x (xferNext s x)) s fun t => (staging t (targetStore x)).st = .pending) ∧
      (∀ len, len ≠ xferNext s x → Completes (.xferCommit h x len) s fun t =>
        (staging t (targetStore x)).st = (staging s (targetStore x)).st ∧ getF t (stgResult (targetStore x)) = 2) ∧
      (Completes (.xferAbort h x) s fun t => (staging t (targetStore x)).st = .empty)) ∧
    (stgJudge (targetStore x) .hier true s ≠ .ok → ∀ len c, c ∈ [Instr.xferCommit h x len, .xferAbort h x] → Completes c s fun t =>
      (staging t (targetStore x)).st = (staging s (targetStore x)).st)) ∧
  (∀ (h : HierHdr) (x : XferTarget) (len off : Nat) (data : List Byte) (s : State),
    ∀ c, c ∈ [Instr.xferBegin h x len, .xferData h x off data, .xferCommit h x len, .xferAbort h x] →
      (hierUp s = true → selected s h = false → Completes c s fun t => (∀ y, y ∈ [StoreId.image, .firmware] → staging t y = staging s y) ∧
        (∀ y, y ∈ [XferTarget.image, .firmware] → xferNext t y = xferNext s y) ∧
        (h.ackReq = false → hierRole s ≠ 1 → t = s)) ∧
      (netOn s = true → ctrl s = .standby → s.hier.held.length < 256 → Completes c s fun t =>
        t = { s with hier := { s.hier with held := s.hier.held ++ [c] } }) ∧
      (hierOn s = false → ctrl s ≠ .standby ∨ netOn s = false → Completes c s fun t => t = s)) ∧
  (∀ (h : HierHdr) (x : XferTarget) (len : Nat) (s : State), hierUp s = true → hierRole s = 1 → childrenFor s h ≠ [] → h.ackReq = false →
    ∀ c op n, (c, op, n) ∈ [(Instr.xferBegin h x len, 1, leBytes 4 len), (.xferCommit h x len, 3, leBytes 4 len), (.xferAbort h x, 4, [])] →
      Completes c s fun t => t.out.head? = some (.hier 2 groupAddr (hierBytes 0x40 { h with sender := ownOrigin s, down := true }
        ([if x = .image then 1 else 2, BitVec.ofNat 8 op] ++ leBytes 4 0 ++ n))))

/-! ### The telemetry plane and the twins -/

/-- R496 to R498, R502 to R509, R515: the plane starts afresh; at a step every summary accumulator takes one sample, samples
beyond 512 are deferred, the first due sample of a Class L value is sent and an unchanged one is not, and a Class B sample
opens its series; a block closes and is counted, and one of an enabled class goes to the module's own ring; a round closes
the Class S block and restarts the accumulators. A plane that does not run does nothing. -/
def Obligations.PlaneCompletes : Prop :=
  (∀ s : State,
    (ctrlRun s = true → plnEn s = true → Completes .planeStart s fun t => t = setB plnRunning true { s with pln := {} }) ∧
    (ctrlRun s = false ∨ plnEn s = false → Completes .planeStart s fun t => t = s)) ∧
  (∀ s : State, plnUp s = true → Completes .planeSample s fun t => t.twn = s.twn ∧
    (sPeriod s ≠ 0 → (assigned s).Nodup → ∀ r, r ∈ assigned s → (sAcc t r).n = (sAcc s r).n + 1) ∧
    (sPeriod s = 0 → t.pln.accs = s.pln.accs) ∧
    (∀ due, due = (sampled s).filter (fun x => telDue s x.2) →
      t.pln.deferred = (s.pln.deferred.filter (fun x => !due.contains x)).drop (512 - due.length) ++ due.drop 512)) ∧
  (∀ s : State, plnUp s = true → s.pln.deferred = [] → pendItems s = [] → ∀ x, sampled s = [x] → telDue s x.2 = true →
    ∀ k, k = entKey x.1 x.2 → ∀ v, v = qtyRaw (recOf s x.1) (telQty s x.2) →
    (codedB s x.1 x.2 = false → telQty s x.2 ≠ 7 →
      ((lEnt s k).last ≠ some v → s.pln.blkL = none → Completes .planeSample s fun t =>
        (lEnt t k).last = some v ∧ t.pln.blkL = some ⟨[⟨x.1, x.2, telQty s x.2, v, s.twn.step, false, false, notrace s⟩], profileBad s x.1⟩) ∧
      ((lEnt s k).last = some v → lRefresh s = 0 → Completes .planeSample s fun t =>
        (lEnt t k).last = some v ∧ t.pln.blkL = s.pln.blkL ∧ t.out = s.out)) ∧
    (∀ q, qtyOf s x.1 (telQty s x.2) = some q → codedB s x.1 x.2 = true → seriesOf s k = none → s.pln.blkB = none → 1 < bSamples s →
      Completes .planeSample s fun t => t.pln.blkB = some ⟨s.twn.step, notrace s, [], 0, false⟩ ∧
        seriesOf t k = some ⟨s.twn.step, bRes s k, [2 * qtyVal q v]⟩)) ∧
  (∀ s : State, plnUp s = true →
    (Completes (.blockClose 0) s fun t => t.pln.blkL = none ∧ t.pln.blkS = s.pln.blkS ∧ t.pln.blkB = s.pln.blkB) ∧
    (Completes (.blockClose 1) s fun t => t.pln.blkB = none ∧ t.pln.blkL = s.pln.blkL ∧ t.pln.blkS = s.pln.blkS) ∧
    (Completes (.blockClose 2) s fun t => t.pln.blkS = none ∧ t.pln.blkB = s.pln.blkB ∧ t.pln.blkL = s.pln.blkL) ∧
    (∀ c opn, (c, opn) ∈ [((0 : Fin 3), s.pln.blkL.isSome), (1, s.pln.blkB.isSome), (2, s.pln.blkS.isSome)] →
      (opn = true → Completes (.blockClose c) s fun t =>
        (getR t (plnCnt c.val)).toNat = min (2 ^ 32 - 1) ((getR s (plnCnt c.val)).toNat + 1)) ∧
      (opn = false → Completes (.blockClose c) s fun t => t = s)) ∧
    (∀ b, s.pln.blkL = some b → pendItems s = [] → plnBad s = false → b.bad = false → b.items.any (fun i => profileBad s i.rec') = false →
      goesUp s 0 = false → bitOf (getR s 0x410008) 16 = true → Completes (.blockClose 0) s fun t =>
        t.out = .tlm (mkBlock s 0 s.pln.firstL (b.items.any (·.coal)) (lNoTrace b.items) (lBase b.items) s.pln.bseqL b.items.length
          (b.items.flatMap (lBytes (lBase b.items))) false) :: s.out ∧ t.pln.bseqL = s.pln.bseqL + 1 ∧ t.pln.firstL = false)) ∧
  (∀ s : State,
    (plnUp s = true → sPeriod s ≠ 0 → Completes .summaryRound s fun t => t.pln.blkS = none ∧ t.pln.blkL = s.pln.blkL ∧
      ((assigned s).Nodup → ∀ r, r ∈ assigned s → (sAcc t r).n = 0)) ∧
    (plnUp s = true → sPeriod s = 0 → Completes .summaryRound s fun t => t = s) ∧
    (plnUp s = false → ∀ c, c ∈ [Instr.planeSample, .summaryRound, .blockClose 0, .blockClose 1, .blockClose 2] →
      Completes c s fun t => t = s))

/-- R522: the canonical order puts the captured inputs by class, and keeps those of one class in the order of capture. R523:
a step presents no more than its capacity, of which what is withheld is that of frames of classes 8 and 9; it presents every
input of classes 1 to 6; a frame that it leaves is of class 7, 8 or 9, and while it leaves one of class 7 it presents none of
classes 8 and 9 that has bytes; what it presents and what it leaves are what it had, each in its order. -/
def Obligations.SplitterOrder : Prop :=
  (∀ xs : List SplitIn, (canonical xs).Perm xs ∧ (canonical xs).Pairwise (fun x y => x.cls ≤ y.cls) ∧
    ∀ c : Nat, (canonical xs).filter (fun x => decide (x.cls = c)) = xs.filter (fun x => decide (x.cls = c))) ∧
  (∀ (withheld : Nat) (xs : List SplitIn), ∀ ys, ys = canonical xs → ∀ r, r = fitAll withheld ys →
    (r.1.map SplitIn.size).sum ≤ 262144 ∧
    ((r.1.filter (fun x => decide (8 ≤ x.cls))).map SplitIn.size).sum ≤ 262144 - withheld ∧
    r.1.Sublist ys ∧ r.2.Sublist ys ∧ r.1.length + r.2.length = xs.length ∧
    r.2.all (fun x => decide (7 ≤ x.cls)) = true ∧
    (r.2.any (fun x => decide (x.cls = 7)) = true → r.1.all (fun x => decide (x.cls < 8) || decide (x.size = 0)) = true))

/-- R521 to R530, R534 to R538, R543, R544: a step advances its number, or reloads it; at READY it presents what was held and
captured; digests, CRC-64 values over the outputs and the state word of a step, are paired, and unequal ones start a proof; a
late digest is a strike or a declaration; a proof that finds nothing fails the twin that is not the read source; faults,
findings and FORCE_FAIL; rejoin, its convergence and its 8,000 equal digests; the reads. No perturbation is applied (TST is
locked) and no trial of firmware runs. -/
def Obligations.TwinsComplete : Prop :=
  (∀ (interp : Fin 763) (cycles : Nat) (s : State), ∀ now, now = stepTime interp.val (tsuAdvance cycles s) →
    ∀ next, next = (if s.twn.step.toNat + 8000 < now / 125000 then BitVec.ofNat 64 (now / 125000) else s.twn.step + 1) →
    (ctrlRun s = true → bothInStep s = true → s.twn.strikesA = [] → s.twn.strikesB = [] →
      (atReady s = false → Completes (.splitterStep interp cycles) s fun t => t.twn.step = next ∧ t.twn.inbox = [] ∧
        t.twn.shown = s.twn.inbox.filter (fun x => decide (x.cls ≠ 7)) ∧
        t.twn.backlog = s.twn.backlog ++ s.twn.inbox.filter (fun x => decide (x.cls = 7))) ∧
      (atReady s = true → s.upd.setAsk = none → s.sys.snapOwed = false → tstUnlocked s = false →
        Completes (.splitterStep interp cycles) s fun t => t.twn.step = next ∧ t.hier.held = [] ∧
          t.twn.shown = s.twn.heldReq ++ (fitAll 0 (canonical (s.twn.backlog ++ s.twn.inbox))).1)) ∧
    (ctrlRun s = true → twinDead s .a = true → twinDead s .b = true → Completes (.splitterStep interp cycles) s fun t =>
      t.twn.step = next ∧ t.twn.inbox = [] ∧ t.twn.shown = []) ∧
    (ctrlOn s = true → ctrlRun s = false → s.twn.strikesA = [] → s.twn.strikesB = [] → Completes (.splitterStep interp cycles) s fun t =>
      t.twn.step = next ∧ t.twn.inbox = s.twn.inbox ∧ t.twn.heldReq = s.twn.heldReq) ∧
    (ctrlOn s = false → Completes (.splitterStep interp cycles) s fun t => t = tsuAdvance cycles s)) ∧
  (∀ (t : Twin) (step : BitVec 64) (d : StepOut) (s : State), tstUnlocked s = false → twinDead s t = false →
    (ctrlRun s = true → bothInStep s = true ∨ (shadowTwin s).isSome = true →
      ((∀ e, e ∈ s.twn.digests → e.1 = t ∨ e.2.1 ≠ step) → Completes (.stepDigest t step d) s fun u =>
        u = { s with twn := { s.twn with digests := s.twn.digests ++ [(t, step, digestOf d)] } }) ∧
      (∀ e, s.twn.digests = [e] → e.1 = t.other → e.2.1 = step →
        (e.2.2 = digestOf d → bothInStep s = true → Completes (.stepDigest t step d) s fun u => u = { s with twn := { s.twn with digests := [] } }) ∧
        (e.2.2 ≠ digestOf d → bothInStep s = true → routesIdle s → Completes (.stepDigest t step d) s fun u => u.twn.digests = [] ∧
          u.twn.a = .proving ∧ u.twn.b = .proving ∧ u.twn.mismatch = s.twn.mismatch + 1) ∧
        (∀ j, shadowTwin s = some j →
          (e.2.2 = digestOf d → s.twn.equal + 1 < 8000 → Completes (.stepDigest t step d) s fun u =>
            u.twn.equal = s.twn.equal + 1 ∧ u.twn.a = s.twn.a ∧ u.twn.b = s.twn.b) ∧
          (e.2.2 = digestOf d → 8000 ≤ s.twn.equal + 1 → Completes (.stepDigest t step d) s fun u => u.twn.a = .inStep ∧ u.twn.b = .inStep) ∧
          (e.2.2 ≠ digestOf d → routesIdle s → s.upd.trial = false → Completes (.stepDigest t step d) s fun u =>
            twinState u j = .failed ∧ twinState u j.other = .inStep ∧ getF u ⟨failReg j, 0, 4⟩ = 9)))) ∧
    (ctrlRun s = true → bothInStep s = false → shadowTwin s = none → Completes (.stepDigest t step d) s fun u =>
      u = { s with twn := { s.twn with digests := [] } }) ∧
    (ctrlRun s = false → Completes (.stepDigest t step d) s fun u => u = s)) ∧
  (∀ (t : Twin) (step : BitVec 64) (d : StepOut) (s : State), tstUnlocked s = false → twinDead s t = true →
    Completes (.stepDigest t step d) s fun u => u = s) ∧
  (∀ (t : Twin) (s : State), s.upd.trial = false → routesIdle s →
    (ctrlRun s = true → twinState s t = .inStep ∨ twinState s t = .proving →
      (shadowTwin s ≠ some t → Completes (.digestLate t false) s fun u => u.twn.a = s.twn.a ∧ u.twn.b = s.twn.b ∧
        (t = .a → u.twn.strikesA = s.twn.step :: s.twn.strikesA) ∧ (t = .b → u.twn.strikesB = s.twn.step :: s.twn.strikesB) ∧
        (getR u 0x50004C).toNat = min (2 ^ 32 - 1) ((getR s 0x50004C).toNat + 1)) ∧
      (Completes (.digestLate t true) s fun u => twinState u t = .failed ∧ getF u ⟨failReg t, 0, 4⟩ = 3 ∧
        (twinState s t.other = .inStep → u.twn.readSrc ≠ t))) ∧
    (ctrlRun s = true → shadowTwin s = some t → ∀ b, Completes (.digestLate t b) s fun u =>
      twinState u t = .failed ∧ getF u ⟨failReg t, 0, 4⟩ = 9) ∧
    (ctrlRun s = false ∨ (twinState s t ≠ .inStep ∧ twinState s t ≠ .proving ∧ shadowTwin s ≠ some t) →
      ∀ b, Completes (.digestLate t b) s fun u => u = s) ∧
    (∀ c cause on, (c, cause, on) ∈ [(Instr.twinFault t .die, 4, ctrlRun s), (.twinFault t .ecc, 1, ctrlOn s)] →
      (on = true → twinDead s t = false → Completes c s fun u => twinState u t = .failed ∧ getF u ⟨failReg t, 0, 4⟩ = cause ∧
        (bothInStep s = true → twinState u t.other = .inStep ∧ u.twn.readSrc = if s.twn.readSrc = t then t.other else s.twn.readSrc)) ∧
      (on = false ∨ twinDead s t = true → Completes c s fun u => u = s)) ∧
    (ctrlOn s = true → bothInStep s = true → Completes (.forceFail t) s fun u =>
      twinState u t = .failed ∧ twinState u t.other = .inStep ∧ getF u ⟨failReg t, 0, 4⟩ = 7 ∧ getF u ⟨0x500000, 16, 8⟩ = 0) ∧
    (ctrlOn s = true → bothInStep s = false → Completes (.forceFail t) s fun u => u = twnAnswer .state s) ∧
    (ctrlOn s = false → Completes (.forceFail t) s fun u => u = s)) ∧
  (∀ s : State, s.upd.trial = false → routesIdle s →
    (s.twn.a = .proving → s.twn.b = .proving → Completes .proofEnd s fun u =>
      twinState u s.twn.readSrc.other = .failed ∧ twinState u s.twn.readSrc = .inStep ∧ u.twn.readSrc = s.twn.readSrc ∧
      getF u ⟨failReg s.twn.readSrc.other, 0, 4⟩ = 6) ∧
    (s.twn.a ≠ .proving ∨ s.twn.b ≠ .proving → Completes .proofEnd s fun u => u = s)) ∧
  (∀ (t : Twin) (addr : Nat) (s : State), s.upd.trial = false → routesIdle s →
    (ctrlOn s = true →
      (Completes (.borerFinding (.sramCorr t addr)) s fun u =>
        u.twn.sramA = (if t = .a then s.twn.sramA + 1 else s.twn.sramA) ∧ u.twn.sramB = (if t = .b then s.twn.sramB + 1 else s.twn.sramB) ∧
        u.twn.dramA = s.twn.dramA ∧ u.twn.dramB = s.twn.dramB) ∧
      (Completes (.borerFinding (.dramCorr t addr)) s fun u =>
        u.twn.dramA = (if t = .a then s.twn.dramA + 1 else s.twn.dramA) ∧ u.twn.dramB = (if t = .b then s.twn.dramB + 1 else s.twn.dramB) ∧
        u.twn.sramA = s.twn.sramA ∧ u.twn.sramB = s.twn.sramB) ∧
      (Completes (.borerFinding (.sramCorr .a addr)) s fun u =>
        u.twn.strikesA = if s.twn.corrA.any (fun c => decide (c.1 = addr) && inWindow s c.2) then s.twn.step :: s.twn.strikesA
          else s.twn.strikesA) ∧
      (∀ c, c ∈ [Instr.borerFinding (.sramCorr t addr), .borerFinding (.dramCorr t addr), .borerFinding .framCorr] →
        Completes c s fun u => (getR u 0x500064).toNat = min (2 ^ 32 - 1) ((getR s 0x500064).toNat + 1)) ∧
      (Completes (.borerFinding .framCorr) s fun u => u.twn = { s.twn with framCorr := s.twn.framCorr + 1 }) ∧
      (Completes (.borerFinding (.sramSweep .a)) s fun u => u = { s with twn := { s.twn with sweepA := s.twn.sweepA + 1 } }) ∧
      (Completes (.borerFinding (.sramSweep .b)) s fun u => u = { s with twn := { s.twn with sweepB := s.twn.sweepB + 1 } }) ∧
      (twinDead s t = false → Completes (.borerFinding (.hard t)) s fun u => twinState u t = .failed ∧ getF u ⟨failReg t, 0, 4⟩ = 2) ∧
      (twinDead s t = true → Completes (.borerFinding (.hard t)) s fun u => u = s) ∧
      (Completes (.borerFinding .carrier) s fun u => u.twn.carrier = true ∧ u.twn.a = s.twn.a ∧ u.twn.b = s.twn.b) ∧
      (Completes .clearHist s fun u => u = twnAnswer .ok { s with twn := { s.twn with histA := 0, histB := 0 } })) ∧
    (ctrlOn s = false → ∀ c, c ∈ [Instr.borerFinding (.sramCorr t addr), .borerFinding .carrier, .borerFinding (.hard t), .clearHist,
        .rejoin t] → Completes c s fun u => u = s)) ∧
  (∀ (t : Twin) (s : State), s.upd.trial = false →
    (ctrlRun s = true → imgSealed s = true → twinDead s t = true → twinState s t.other = .inStep → Completes (.rejoin t) s fun u =>
      getF u ⟨0x500000, 16, 8⟩ = 0 ∧
      ((fwCheck s s.upd.slot).1 = 0 → twinState u t = .rejoining) ∧
      ((fwCheck s s.upd.slot).1 ≠ 0 → twinState u t = .failed ∧ getF u ⟨failReg t, 0, 4⟩ = 9)) ∧
    (ctrlOn s = true → ctrlRun s = false ∨ imgSealed s = false ∨ twinDead s t = false ∨ twinState s t.other ≠ .inStep →
      Completes (.rejoin t) s fun u => u = twnAnswer .state s)) ∧
  (∀ s : State,
    (s.twn.a = .rejoining → Completes .rejoinConverge s fun u =>
      u.twn.a = .shadow ∧ u.twn.b = s.twn.b ∧ u.twn.equal = 0 ∧ u.twn.digests = []) ∧
    (s.twn.a ≠ .rejoining → s.twn.b = .rejoining → Completes .rejoinConverge s fun u =>
      u.twn.b = .shadow ∧ u.twn.a = s.twn.a ∧ u.twn.equal = 0 ∧ u.twn.digests = []) ∧
    (s.twn.a ≠ .rejoining → s.twn.b ≠ .rejoining → Completes .rejoinConverge s fun u => u = s)) ∧
  (∀ (r : Route) (s : State), tstUnlocked s = false →
    (routeOpen s r = true → ctrlOn s = true →
      (Completes (.healthRead r) s fun t => t.hostData = [s.twn.report.getD 0 0] ∧ t.twn.latch = s.twn.report ∧ t.regs = s.regs) ∧
      (Completes (.twnStepRead r) s fun t => t.hostData = [s.twn.step.setWidth 32] ∧
        t.twn.stepHi = (s.twn.step >>> 32).setWidth 32 ∧ t.regs = s.regs)) ∧
    (∀ c, c ∈ [Instr.healthRead r, .twnStepRead r] →
      (routeOpen s r = true → ctrlOn s = false → Completes c s fun t => t = { s with hostData := [0] }) ∧
      (routeOpen s r = false → Completes c s fun t => t = s)))

/-! ### Keys, tamper and perturbation -/

/-- R551 to R556, R562: a key operation that both twins issue equal, or the one live twin, in RUN, starts where it is legal,
and BUSY is set; while one runs another is answered BUSY; illegal ones are answered STATE, NOKEY or ORPHAN; an operation of
the host's from firmware is answered STATE; DESTROY acts at once; debugging is challenged only where the fuse allows it.
Before READY the host's wait for the twins; out of RUN the host is answered STATE. -/
def Obligations.KeyOperationsStart : Prop :=
  (∀ (who : KeyIssuer) (a : KeyArgs) (s : State), ctrlRun s = true → (soleTwin s).isSome = true → keyIssued s who = true → s.key.run = none →
    (fillLegal who a s = none →
      (Completes (.derive who a) s fun t => flag t keyBusy = true ∧
        (keyType s a.parent.toNat = 0 → keyUsage s a.parent.toNat 0 = true →
          t.key.run = some (fillAct a false (deriveMat (material s a.parent.toNat) a.type.toNat a.usage.toNat (keyBytes s 0x40010 4)) s)) ∧
        (keyType s a.parent.toNat ≠ 0 ∨ keyUsage s a.parent.toNat 0 = false →
          t.key.run = some (fillAct a false (freeKey s) s) ∧ t.free = s.free + 8)) ∧
      (Completes (.importKey who a) s fun t =>
        t.key.run = some (fillAct a true (keyBytes s 0x40020 8) s) ∧ flag t keyBusy = true)) ∧
    (∀ code, fillLegal who a s = some code → ∀ c, c ∈ [Instr.derive who a, .importKey who a] → Completes c s fun t =>
      t.key.run = none ∧ getF t ⟨0x40000, 8, 8⟩ = code.num) ∧
    (notHosts who a.slot.toNat = false → keyJudge s a.slot.toNat = none →
      (Completes (.sign who a) s fun t => flag t keyBusy = true ∧ t.key.run = some ⟨.sign (if keyUsage s a.slot.toNat 3 then
        ecdsaSign (material s a.slot.toNat) (keyBytes s 0x40020 8) else none), a.slot.toNat⟩) ∧
      (Completes (.pubkey who a) s fun t => flag t keyBusy = true ∧ t.key.run = some ⟨.out (if keyType s a.slot.toNat = 3 then
        ecdsaPub (material s a.slot.toNat) else none), a.slot.toNat⟩)) ∧
    (∀ c, c ∈ [Instr.sign who a, .pubkey who a] →
      (notHosts who a.slot.toNat = true → Completes c s fun t => t.key.run = none ∧ getF t ⟨0x40000, 8, 8⟩ = 2) ∧
      (∀ code, keyJudge s a.slot.toNat = some code → notHosts who a.slot.toNat = false → Completes c s fun t =>
        t.key.run = none ∧ getF t ⟨0x40000, 8, 8⟩ = code.num))) ∧
  (∀ (who : KeyIssuer) (a : KeyArgs) (s : State), ctrlRun s = true → (soleTwin s).isSome = true → keyIssued s who = true →
    (notHosts who a.slot.toNat = true → Completes (.destroy who a) s fun t => t.key = s.key ∧ getF t ⟨0x40000, 8, 8⟩ = 2) ∧
    (notHosts who a.slot.toNat = false → keyState s a.slot.toNat ≠ 1 → Completes (.destroy who a) s fun t =>
      t.key = s.key ∧ getF t ⟨0x40000, 8, 8⟩ = 4) ∧
    (notHosts who a.slot.toNat = false → keyState s a.slot.toNat = 1 → Completes (.destroy who a) s fun t =>
      keyState t a.slot.toNat = 2 ∧ material t a.slot.toNat = List.replicate 32 0 ∧ getF t ⟨0x40000, 8, 8⟩ = 0 ∧ t.key.run = s.key.run)) ∧
  (∀ (c : Copies) (a : KeyArgs) (dst : LoadDst) (s : State), ctrlRun s = true → (soleTwin s).isSome = true →
    keyIssued s (.firmware c) = true → s.key.run = none →
    (keyJudge s a.slot.toNat = none → loadUsage s a.slot.toNat dst = true → Completes (.load (.firmware c) a dst) s fun t =>
      t.key.run = some ⟨.load dst (loadKey s a.slot.toNat dst), a.slot.toNat⟩ ∧ flag t keyBusy = true) ∧
    (keyJudge s a.slot.toNat = none → loadUsage s a.slot.toNat dst = false → Completes (.load (.firmware c) a dst) s fun t =>
      t.key.run = none ∧ getF t ⟨0x40000, 8, 8⟩ = 2) ∧
    (∀ code, keyJudge s a.slot.toNat = some code → Completes (.load (.firmware c) a dst) s fun t =>
      t.key.run = none ∧ getF t ⟨0x40000, 8, 8⟩ = code.num)) ∧
  (∀ (c : Copies) (a : KeyArgs) (dst : LoadDst) (rnd : BitVec 256) (r : BitVec 128) (s : State), ctrlRun s = true →
    (soleTwin s).isSome = true → keyIssued s (.host c) = true → s.key.run = none →
    (∀ no, no = (decide (keyState s 0 = 1) || flag s keyTest || flag s keyOpen || decide (64 ≤ a.slot.toNat)) →
      (no = false → Completes (.genRoot (.host c) a rnd) s fun t =>
        t.key.run = some ⟨.fill 0 0 1 0 0 0 false (leBytes 32 rnd.toNat), 0⟩ ∧ flag t keyBusy = true) ∧
      (no = true → Completes (.genRoot (.host c) a rnd) s fun t => t.key.run = none ∧ getF t ⟨0x40000, 8, 8⟩ = 2)) ∧
    (Completes (.load (.host c) a dst) s fun t => t.key.run = none ∧ getF t ⟨0x40000, 8, 8⟩ = 2) ∧
    (keyState s 0 ≠ 1 → Completes (.disarm (.host c)) s fun t => t.key.run = some ⟨.disarm, 128⟩ ∧ flag t keyBusy = true) ∧
    (keyState s 0 = 1 → Completes (.disarm (.host c)) s fun t => t.key.run = none ∧ getF t ⟨0x40000, 8, 8⟩ = 2) ∧
    (Completes (.debugChal (.host c) r) s fun t => if Config.dbgAllow then t.key.chal = some (leBytes 16 r.toNat) ∧ t.key.run.isSome = true
      else t.key = s.key ∧ getF t ⟨0x40000, 8, 8⟩ = 2) ∧
    (s.key.chal.isSome = true → Completes (.debugOpen (.host c)) s fun t => t.key.chal = none ∧ t.key.run.isSome = true ∧ flag t keyBusy = true) ∧
    (s.key.chal = none → Completes (.debugOpen (.host c)) s fun t => t.key.run = none ∧ getF t ⟨0x40000, 8, 8⟩ = 2)) ∧
  (∀ (c : Copies) (a : KeyArgs) (dst : LoadDst) (rnd : BitVec 256) (r : BitVec 128) (s : State),
    (ctrlRun s = true → (soleTwin s).isSome = true → keyIssued s (.host c) = true → s.key.run.isSome = true →
      ∀ x, x ∈ [Instr.genRoot (.host c) a rnd, .derive (.host c) a, .importKey (.host c) a, .sign (.host c) a, .pubkey (.host c) a, .load (.host c) a dst,
          .disarm (.host c), .debugChal (.host c) r, .debugOpen (.host c)] → Completes x s fun t => t.key = s.key ∧ getF t ⟨0x40000, 8, 8⟩ = 1) ∧
    (ctrlRun s = true → (soleTwin s).isSome = true → keyIssued s (.firmware c) = true →
      ∀ x, x ∈ [Instr.genRoot (.firmware c) a rnd, .disarm (.firmware c), .debugChal (.firmware c) r, .debugOpen (.firmware c)] →
        Completes x s fun t => t.key = s.key ∧ getF t ⟨0x40000, 8, 8⟩ = 2) ∧
    (ctrlRun s = true → atReady s = false → !(twinDead s .a && twinDead s .b) = true →
      ∀ x op, (x, op) ∈ [(Instr.derive (.host c) a, 2), (.importKey (.host c) a, 3), (.destroy (.host c) a, 4), (.sign (.host c) a, 5),
          (.pubkey (.host c) a, 6), (.load (.host c) a dst, 7)] →
        Completes x s fun t => t = captureReq (.keyCmd (keyWord op a) (keyWords s) c 0) s) ∧
    (ctrlRun s = false →
      (∀ x, x ∈ [Instr.genRoot (.host c) a rnd, .derive (.host c) a, .importKey (.host c) a, .destroy (.host c) a, .sign (.host c) a, .pubkey (.host c) a,
          .load (.host c) a dst, .disarm (.host c), .debugChal (.host c) r, .debugOpen (.host c)] →
        Completes x s fun t => t.key = s.key ∧ getF t ⟨0x40000, 8, 8⟩ = 2) ∧
      (∀ x, x ∈ [Instr.derive (.firmware c) a, .importKey (.firmware c) a, .destroy (.firmware c) a, .sign (.firmware c) a,
          .pubkey (.firmware c) a, .load (.firmware c) a dst] → Completes x s fun t => t = s)))

/-- R551, R556 to R562: an operation that completes clears BUSY and is answered: a filled slot is VALID with its material;
bytes stand in KEY_OUT, or unpredictable ones, as where the signatures of two twins IN_STEP differ (R527); a loaded key is in
its place; the loops are disarmed; a debug session opens with TEST and the test root, or is DENIED. An armed tamper source
that opens empties every slot, records its cause and raises TAMPER; one that does not count leaves the store; a source
closes. -/
def Obligations.KeyStoreCompletes : Prop :=
  (∀ (n : Fin 128) (type : Fin 4) (usage : Fin 32) (parent : Fin 128) (depth : Fin 8) (pgen : Fin 256) (imported : Bool) (mat : List Byte)
    (slot : Nat) (c : Copies) (s : State),
    s.key.run = some ⟨.fill n.val type.val usage.val parent.val depth.val pgen.val imported mat, slot⟩ → Completes (.keyOpDone c) s fun t =>
      keyState t n.val = 1 ∧ keyType t n.val = type.val ∧ keyParent t n.val = parent.val ∧ keyDepth t n.val = depth.val ∧
      keyPgen t n.val = pgen.val ∧ keyGen t n.val = (if keyGen s n.val = 255 then 1 else keyGen s n.val + 1) ∧ material t n.val = mat ∧
      flag t keyBusy = false ∧ getF t ⟨0x40000, 8, 8⟩ = 0 ∧ t.key.run = none) ∧
  (∀ (c : Copies) (s : State), s.key.run = none → Completes (.keyOpDone c) s fun t => t = s) ∧
  (∀ (b : List Byte) (slot : Nat) (c : Copies) (s : State), s.key.run = some ⟨.out (some b), slot⟩ ∨
      (s.key.run = some ⟨.sign (some b), slot⟩ ∧ (c ≠ .differ ∨ bothInStep s = false)) → Completes (.keyOpDone c) s fun t =>
    t.key.run = none ∧ flag t keyBusy = false ∧ getF t ⟨0x40000, 8, 8⟩ = 0 ∧
    ∀ i : Fin 16, i.val < (b.length + 3) / 4 → getR t (0x40080 + 4 * i.val) = leWord (b.drop (4 * i.val))) ∧
  (∀ (c : Copies) (s : State), ∀ x, s.key.run = some x →
    (x.act = .out none ∨ x.act = .sign none ∨ (c = .differ ∧ bothInStep s = true ∧ signs x.act = true) → Completes (.keyOpDone c) s fun t => t.key.run = none ∧ flag t keyBusy = false ∧ getF t ⟨0x40000, 8, 8⟩ = 0 ∧
      ∀ i : Fin 16, tabGet (fun _ => 0) t.unpred (0x40080 + 4 * i.val) ≠ 0) ∧
    (x.act = .disarm → Completes (.keyOpDone c) s fun t => t.key.run = none ∧ getF t ⟨0x40100, 0, 2⟩ = 0 ∧ getF t ⟨0x40000, 8, 8⟩ = 0) ∧
    (x.act = .debug true → Completes (.keyOpDone c) s fun t => t.key.run = none ∧ flag t dbgOpen = true ∧ flag t keyTest = true ∧
      keyState t 0 = 1 ∧ material t 0 = testRoot ∧ (∀ n : Fin 128, n.val ≠ 0 → keyState t n.val = 0) ∧ getF t ⟨0x40000, 8, 8⟩ = 0) ∧
    (x.act = .debug false → Completes (.keyOpDone c) s fun t => t.key.run = none ∧ t.key.mats = s.key.mats ∧ getF t ⟨0x40000, 8, 8⟩ = 7)) ∧
  (∀ (k : List Byte) (slot : Nat) (e : Fin 1024) (y : Cipher) (g m : BitVec 64) (c : Copies) (s : State), s.key.purge = [] →
    (s.key.run = some ⟨.load (.engine y e.val) k, slot⟩ → Completes (.keyOpDone c) s fun t => t.key.run = none ∧ flag t keyBusy = false ∧
      getF t ⟨0x40000, 8, 8⟩ = 0 ∧ tabGet (fun _ => none) t.key.engines e.val = some ⟨k, slot⟩) ∧
    (s.key.run = some ⟨.load (.join e.val) k, slot⟩ → airOn s = true → Completes (.keyOpDone c) s fun t => t.key.run = none ∧
      (leaseOf t e.val).join = some ⟨k, slot⟩ ∧ getR t (leaseReg e.val 3) = 0) ∧
    (s.key.run = some ⟨.load (.link e.val g m) k, slot⟩ → airOn s = true → Completes (.keyOpDone c) s fun t => t.key.run = none ∧
      (leaseOf t e.val).staged = some (⟨k, match (leaseOf s e.val).join with | some j => j.slot | none => slot⟩, m))) ∧
  (∀ (x : TamperSrc) (s : State),
    (s.key.outside.contains x = false → tamperArmed s x = true → Completes (.tamperTrip x) s fun t =>
      (∀ n : Fin 128, keyState t n.val = 0) ∧ t.key.mats = [] ∧ t.key.run = none ∧
      flag t keyTamper = true ∧ flag t keyOpen = true ∧ getF t ⟨0x40104, 4, 3⟩ = tamperIdx x + 1 ∧ getR t 0x40108 = getR s 0x3001C ∧
      flag t ⟨0x40104, tamperIdx x, 1⟩ = false ∧ (s.sys.start.isSome = true → 3 ≤ getF s stageFld → ctrl t = .halted) ∧
      (s.sys.start = none → getF s stageFld ≠ 14 → ctrl t = ctrl s)) ∧
    (s.key.outside.contains x = false → tamperArmed s x = false → Completes (.tamperTrip x) s fun t =>
      t.key.mats = s.key.mats ∧ t.key.outside = x :: s.key.outside ∧ flag t ⟨0x40104, tamperIdx x, 1⟩ = false ∧
      ∀ n : Fin 128, keyState t n.val = keyState s n.val) ∧
    (s.key.outside.contains x = true → Completes (.tamperTrip x) s fun t => t = s) ∧
    (Completes (.tamperSourceClose x) s fun t => t.key.outside.contains x = false ∧ flag t ⟨0x40104, tamperIdx x, 1⟩ = true ∧
      flag t keyOpen = (s.key.outside.filter (· ≠ x)).any (tamperArmed s)))

/-- R592, R593, R602: the two unlock words in turn open the block for the lease, and any other word starts anew; a lease
write while unlocked renews it; the lock, by command, by TST_CTL or at the lease's end, closes the block and disables every
slot. A locked block ignores all but the unlock words. -/
def Obligations.PerturbationLockCompletes : Prop :=
  (∀ (v : Word) (s : State),
    (ctrlRun s = true → s.tstHalf = false → Completes (.tstUnlock v) s fun t => t = { s with tstHalf := decide (v = 0x54535431) }) ∧
    (ctrlRun s = true → s.tstHalf = true → v ≠ 0xABACABCE → Completes (.tstUnlock v) s fun t => t = { s with tstHalf := false }) ∧
    (ctrlRun s = true → s.tstHalf = true → Completes (.tstUnlock 0xABACABCE) s fun t =>
      tstUnlocked t = true ∧ t.tstHalf = false ∧ getF t tstRem = tstLease s) ∧
    (ctrlRun s = false → Completes (.tstUnlock v) s fun t => t = s)) ∧
  (∀ s : State, Completes .tstUnlockTimeout s fun t => t = { s with tstHalf := false }) ∧
  (∀ (v : Word) (s : State),
    (ctrlOn s = true → tstUnlocked s = true →
      (bitOf v 31 = false → Completes (.tstLeaseWrite v) s fun t =>
        tstUnlocked t = true ∧ getF t ⟨0xF00008, 0, 12⟩ = getBits v 0 12 ∧ getF t tstRem = clampNat 1 3600 (getBits v 0 12)) ∧
      (∀ c, c ∈ [Instr.tstLock, .tstLeaseExpire, .tstLeaseWrite (v ||| 0x80000000)] → Completes c s fun t =>
        tstUnlocked t = false ∧ getF t tstRem = 0 ∧ ∀ i : Fin 16, flag t ⟨tstCfg i.val, 0, 1⟩ = false)) ∧
    (ctrlOn s = false ∨ tstUnlocked s = false → ∀ c, c ∈ [Instr.tstLeaseWrite v, .tstLock, .tstLeaseExpire] → Completes c s fun t => t = s))
end

