-- ==== Sys2Proof/Decode.lean ====
section
/-! DEFINITION. The commands that words spell: none of the table's rows gives bits, so no word spells a command. -/

namespace Sys2Proof

/-- The command that a word of `nbits` bits spells by the table's bits. (log 149 DESIGN CHOICE) -/
def decodeTableWord (_nbits _w : Nat) : Option Instr := none

end Sys2Proof
end

