-- ==== Sys2Proof/Laws/Tab.lean ====
section
/-! SUPPORT. What reading a table gives after each of its operations, and that they keep the canonical form. -/

namespace Sys2Proof.Machine

variable {α : Type} (d : Nat → α)

@[simp] theorem tabGet_nil (k : Nat) : tabGet d [] k = d k := rfl

theorem tabGet_erase_same (t : Tab α) (k : Nat) : tabGet d (tabErase t k) k = d k := by
  induction t with
  | nil => rfl
  | cons e t ih =>
    obtain ⟨k', v⟩ := e
    by_cases h : k' = k <;> simp [tabErase, h, tabGet, ih]

theorem tabGet_erase_ne (t : Tab α) {k j : Nat} (hj : j ≠ k) : tabGet d (tabErase t k) j = tabGet d t j := by
  induction t with
  | nil => rfl
  | cons e t ih =>
    obtain ⟨k', v⟩ := e
    by_cases h : k' = k
    · subst h
      simp [tabErase, tabGet, ih, Ne.symm hj]
    · simp [tabErase, h, tabGet, ih]

theorem tabGet_insert_ne (t : Tab α) {k j : Nat} (v : α) (hj : j ≠ k) :
    tabGet d (tabInsert t k v) j = tabGet d t j := by
  induction t with
  | nil => simp [tabInsert, tabGet, Ne.symm hj]
  | cons e t ih =>
    obtain ⟨k', v'⟩ := e
    by_cases h : k < k' <;> simp [tabInsert, h, tabGet, ih, Ne.symm hj]

theorem tabGet_insert_erase (t : Tab α) (k : Nat) (v : α) : tabGet d (tabInsert (tabErase t k) k v) k = v := by
  induction t with
  | nil => simp [tabErase, tabInsert, tabGet]
  | cons e t ih =>
    obtain ⟨k', v'⟩ := e
    by_cases h : k' = k
    · simp [tabErase, h, ih]
    · by_cases h2 : k < k' <;> simp [tabErase, h, tabInsert, h2, tabGet, ih]

/-- A read of the key just written gives the value written. -/
@[simp] theorem tabGet_set_same [DecidableEq α] (t : Tab α) (k : Nat) (v : α) :
    tabGet d (tabSet d t k v) k = v := by
  unfold tabSet
  split
  · next h => rw [tabGet_erase_same, h]
  · exact tabGet_insert_erase d t k v

/-- A write leaves every other key alone. -/
theorem tabGet_set_ne [DecidableEq α] (t : Tab α) {k j : Nat} (v : α) (hj : j ≠ k) :
    tabGet d (tabSet d t k v) j = tabGet d t j := by
  unfold tabSet
  split
  · exact tabGet_erase_ne d t hj
  · rw [tabGet_insert_ne d _ v hj, tabGet_erase_ne d t hj]

theorem tabGet_clear (p : Nat → Bool) (t : Tab α) (k : Nat) :
    tabGet d (tabClear p t) k = if p k then d k else tabGet d t k := by
  induction t with
  | nil => simp [tabClear, tabGet]
  | cons e t ih =>
    obtain ⟨k', v⟩ := e
    unfold tabClear at ih ⊢
    by_cases hp : p k' = true
    · simp only [List.filter_cons, hp, Bool.not_true, Bool.false_eq_true, if_false, ih]
      by_cases hk : k' = k
      · subst hk; simp [hp]
      · simp [tabGet, hk]
    · simp only [List.filter_cons, hp, Bool.not_false, if_true]
      by_cases hk : k' = k
      · subst hk; simp [tabGet, hp]
      · simp [tabGet, hk, ih]

theorem tabWfFrom_le [DecidableEq α] {lo lo' : Nat} (t : Tab α) (hl : lo' ≤ lo) (h : tabWfFrom d lo t = true) :
    tabWfFrom d lo' t = true := by
  cases t with
  | nil => rfl
  | cons e t =>
    simp only [tabWfFrom, Bool.and_eq_true, decide_eq_true_eq] at h ⊢
    exact ⟨⟨by omega, h.1.2⟩, h.2⟩

theorem tabWfFrom_erase [DecidableEq α] (k : Nat) (t : Tab α) : ∀ lo, tabWfFrom d lo t = true →
    tabWfFrom d lo (tabErase t k) = true := by
  induction t with
  | nil => intro lo h; exact h
  | cons e t ih =>
    obtain ⟨k', v⟩ := e
    intro lo h
    simp only [tabWfFrom, Bool.and_eq_true, decide_eq_true_eq] at h
    by_cases hk : k' = k
    · simp only [tabErase, hk, if_true]
      exact tabWfFrom_le d _ (by omega) (ih _ h.2)
    · simp only [tabErase, hk, if_false, tabWfFrom, Bool.and_eq_true, decide_eq_true_eq]
      exact ⟨h.1, ih _ h.2⟩

theorem tabWfFrom_insert_erase [DecidableEq α] (k : Nat) (v : α) (hv : v ≠ d k) (t : Tab α) :
    ∀ lo, lo ≤ k → tabWfFrom d lo t = true → tabWfFrom d lo (tabInsert (tabErase t k) k v) = true := by
  induction t with
  | nil => intro lo hl _; simp [tabErase, tabInsert, tabWfFrom, hl, hv]
  | cons e t ih =>
    obtain ⟨k', v'⟩ := e
    intro lo hl h
    simp only [tabWfFrom, Bool.and_eq_true, decide_eq_true_eq] at h
    by_cases hk : k' = k
    · simp only [tabErase, hk, if_true]
      exact ih _ hl (tabWfFrom_le d _ (by omega) h.2)
    · simp only [tabErase, hk, if_false, tabInsert]
      by_cases hlt : k < k'
      · simp only [hlt, if_true, tabWfFrom, Bool.and_eq_true, decide_eq_true_eq]
        exact ⟨⟨hl, hv⟩, ⟨⟨by omega, h.1.2⟩, tabWfFrom_erase d k t _ h.2⟩⟩
      · simp only [hlt, if_false, tabWfFrom, Bool.and_eq_true, decide_eq_true_eq]
        exact ⟨h.1, ih _ (by omega) h.2⟩

/-- A write keeps the canonical form. -/
theorem tabWf_set [DecidableEq α] (t : Tab α) (k : Nat) (v : α) (h : tabWf d t = true) :
    tabWf d (tabSet d t k v) = true := by
  unfold tabWf tabSet at *
  split
  · exact tabWfFrom_erase d k t 0 h
  · next hv => exact tabWfFrom_insert_erase d k v hv t 0 (Nat.zero_le _) h

/-- Clearing keeps the canonical form. -/
theorem tabWfFrom_clear [DecidableEq α] (p : Nat → Bool) (t : Tab α) : ∀ lo, tabWfFrom d lo t = true →
    tabWfFrom d lo (tabClear p t) = true := by
  induction t with
  | nil => intro lo h; exact h
  | cons e t ih =>
    obtain ⟨k', v⟩ := e
    intro lo h
    simp only [tabWfFrom, Bool.and_eq_true, decide_eq_true_eq] at h
    unfold tabClear at ih ⊢
    by_cases hp : p k' = true
    · simp only [List.filter_cons, hp, Bool.not_true, Bool.false_eq_true, if_false]
      exact tabWfFrom_le d _ (by omega) (ih _ h.2)
    · simp only [List.filter_cons, hp, Bool.not_false, if_true, tabWfFrom, Bool.and_eq_true, decide_eq_true_eq]
      exact ⟨h.1, ih _ h.2⟩

theorem tabWf_put [DecidableEq α] (vs : List α) : ∀ (t : Tab α) (base : Nat), tabWf d t = true →
    tabWf d (tabPut d t base vs) = true := by
  induction vs with
  | nil => intro t base h; exact h
  | cons v vs ih => intro t base h; exact ih _ _ (tabWf_set d t base v h)

theorem tabWf_fill [DecidableEq α] (v : Nat → α) (base n : Nat) (t : Tab α) (h : tabWf d t = true) :
    tabWf d (tabFill d v base n t) = true := by
  induction n with
  | zero => exact h
  | succ n ih => exact tabWf_set d _ _ _ ih

end Sys2Proof.Machine
end

