-- ==== Sys2Proof/Laws/Keeps1.lean ====
section
/-! SUPPORT. What every operation of the model keeps. A condition on the registers, their unpredictable bits and the queue
alone (Keeps) that a register write, an end of scope and a return to reset values keep is kept by every operation and by
every command; each command answers a next state (Nxt). -/

namespace Sys2Proof.Machine

/-- A condition on a state that only the four primitive operations on registers could break, and they do not. -/
structure Keeps (P : State → Prop) : Prop where
  set : ∀ {off : Nat} {v : Word} {s : State}, P s → P (setR off v s)
  clr : ∀ {p : Nat → Bool} {s : State}, P s → P (clearRegs p s)
  unp : ∀ {k : Nat} {v : Word} {s : State}, P s → P { s with unpred := tabSet (fun _ => 0) s.unpred k v }
  upd : ∀ {s : State} {hostData : List Word} {free : Nat} {sealed' : List Block} {fitS0 : Bool} {sys : SysSt} {img : ImgSt} {port : PortSt}
    {dma0 dma1 dma2 dma3 : DmaRing} {intc : IntcSt} {drv : DrvSt} {chain : Tab ChainSt} {rfx : RfxSt} {cal : CalSt}
    {mtr : MtrSt} {net : NetSt} {tsu : TsuSt} {air : AirSt} {key : KeySt} {upd : UpdSt} {hier : HierSt} {pln : PlnSt}
    {twn : TwnSt} {tstHalf : Bool} {tstSeen tstDone : Tab Nat} {out : List Output}, P s →
    P ⟨s.regs, s.unpred, hostData, free, sealed', fitS0, sys, img, port, dma0, dma1, dma2, dma3, intc, drv, chain, rfx, cal, mtr,
      net, tsu, air, key, upd, hier, pln, twn, tstHalf, tstSeen, tstDone, out, s.pending⟩

/-- The condition of the state in a pair. -/
def Snd {α β : Type} (Q : β → Prop) (x : α × β) : Prop := Q x.2
def Fst {α : Type} (P : State → Prop) (x : State × α) : Prop := P x.1

/-- The outcome is a next state, and it meets the condition. -/
def Nxt (P : State → Prop) (o : Host.Outcome State Fault Refusal) : Prop := ∃ t, o = .next t ∧ P t

variable {P : State → Prop}

theorem snd_mk {α β : Type} {Q : β → Prop} {a : α} {s : β} (h : Q s) : Snd Q (a, s) := h
theorem fst_mk {α : Type} {a : α} {s : State} (h : P s) : Fst P (s, a) := h
theorem of_snd {α β : Type} {Q : β → Prop} {x : α × β} (h : Snd Q x) : Q x.2 := h
theorem of_fst {α : Type} {x : State × α} (h : Fst P x) : P x.1 := h
theorem nxt_keeps {s : State} (h : P s) : Nxt P (.next s) := ⟨s, rfl, h⟩

theorem ite_keeps {α : Type} (Q : α → Prop) {c : Prop} [Decidable c] {a b : α} (ha : c → Q a) (hb : ¬c → Q b) :
    Q (if c then a else b) := by
  split
  · exact ha ‹_›
  · exact hb ‹_›

theorem foldl_keeps {α β : Type} (Q : α → Prop) {f : α → β → α} {xs : List β} {a : α}
    (hf : ∀ a x, Q a → Q (f a x)) (ha : Q a) : Q (xs.foldl f a) := by
  induction xs generalizing a with
  | nil => exact ha
  | cons x xs ih => exact ih (hf _ _ ha)

theorem setR_keeps (K : Keeps P) {off : Nat} {v : Word} {s : State} (hs : P s) : P (setR off v s) := K.set hs
theorem clearRegs_keeps (K : Keeps P) {p : Nat → Bool} {s : State} (hs : P s) : P (clearRegs p s) := K.clr hs
theorem spoil_keeps (K : Keeps P) {off mask : Nat} {s : State} (hs : P s) : P (spoil off mask s) := K.unp hs
theorem unspoil_keeps (K : Keeps P) {off : Nat} {s : State} (hs : P s) : P (unspoil off s) := K.unp hs
theorem each_keeps (_ : Keeps P) {α : Type} {xs : List α} {f : α → State → State} {s : State}
    (hf : ∀ x t, P t → P (f x t)) (hs : P s) : P (each xs f s) := foldl_keeps P (fun t x => hf x t) hs

/-! Ops -/

theorem setF_keeps (K : Keeps P) {f : Fld} {v : Nat} {s : State} (hs : P s) :
    P (setF f v s) := by
  unfold setF
  exact setR_keeps K ‹_›

theorem addF_keeps (K : Keeps P) {f : Fld} {k : Nat} {s : State} (hs : P s) :
    P (addF f k s) := by
  unfold addF
  exact setF_keeps K ‹_›

theorem after_keeps (_ : Keeps P) {o : Host.Outcome State Fault Refusal} {s : State} (ho : Nxt P o) (_ : P s) :
    P (after o s) := by
  obtain ⟨t, rfl, ht⟩ := ho
  exact ht

theorem bump_keeps (K : Keeps P) {off : Nat} {s : State} (hs : P s) :
    P (bump off s) := by
  unfold bump
  exact addF_keeps K ‹_›

theorem bumpBy_keeps (K : Keeps P) {off : Nat} {k : Nat} {s : State} (hs : P s) :
    P (bumpBy off k s) := by
  unfold bumpBy
  exact addF_keeps K ‹_›

theorem capture_keeps (K : Keeps P) {x : SplitIn} {s : State} (hs : P s) :
    P (capture x s) := by
  unfold capture
  refine ite_keeps P (fun _ => ?_) (fun _ => ?_)
  · exact K.upd ‹_›
  · assumption

theorem captureBus_keeps (K : Keeps P) {x : SplitIn} {s : State} (hs : P s) :
    P (captureBus x s) := by
  unfold captureBus
  refine ite_keeps P (fun _ => ?_) (fun _ => ?_)
  · exact capture_keeps K ‹_›
  · refine ite_keeps P (fun _ => ?_) (fun _ => ?_)
    · exact K.upd ‹_›
    · assumption

theorem captureReq_keeps (K : Keeps P) {x : SplitIn} {s : State} (hs : P s) :
    P (captureReq x s) := by
  unfold captureReq
  split
  · refine ite_keeps P (fun _ => ?_) (fun _ => ?_)
    · exact capture_keeps K ‹_›
    · exact K.upd ‹_›
  · exact K.upd ‹_›
  · assumption

theorem clearBlock_keeps (K : Keeps P) {b : Block} {s : State} (hs : P s) :
    P (clearBlock b s) := by
  unfold clearBlock
  exact clearRegs_keeps K ‹_›

theorem drawn_keeps (K : Keeps P) {s : State} (hs : P s) :
    P (drawn s) := by
  unfold drawn
  exact K.upd ‹_›

theorem emit_keeps (K : Keeps P) {o : Output} {s : State} (hs : P s) :
    P (emit o s) := by
  unfold emit
  exact K.upd ‹_›

theorem setB_keeps (K : Keeps P) {f : Fld} {b : Bool} {s : State} (hs : P s) :
    P (setB f b s) := by
  unfold setB
  exact setF_keeps K ‹_›

theorem setSrcBit_keeps (K : Keeps P) {base : Nat} {n : Nat} {b : Bool} {s : State} (hs : P s) :
    P (setSrcBit base n b s) := by
  unfold setSrcBit
  exact setB_keeps K ‹_›

theorem raise_keeps (K : Keeps P) {n : Nat} {s : State} (hs : P s) :
    P (raise n s) := by
  unfold raise
  refine ite_keeps P (fun _ => ?_) (fun _ => ?_)
  · extract_lets -merge +onlyGivenNames x1
    have hx1 : P x1 := by
      refine ite_keeps P (fun _ => ?_) (fun _ => ?_)
      · exact setSrcBit_keeps K ‹_›
      · assumption
    clear_value x1
    refine ite_keeps P (fun _ => ?_) (fun _ => ?_)
    · exact setSrcBit_keeps K ‹_›
    · assumption
  · assumption

theorem sealBlock_keeps (K : Keeps P) {b : Block} {s : State} (hs : P s) :
    P (sealBlock b s) := by
  unfold sealBlock
  exact K.upd ‹_›

theorem setDisc_keeps (K : Keeps P) {b : Bool} {s : State} (hs : P s) :
    P (setDisc b s) := by
  unfold setDisc
  refine setB_keeps K (setB_keeps K ?_)
  assumption

theorem spoilLong_keeps (K : Keeps P) {off : Nat} {mask : Nat} {s : State} (hs : P s) :
    P (spoilLong off mask s) := by
  unfold spoilLong
  exact spoil_keeps K ‹_›

theorem spoilReg_keeps (K : Keeps P) {off : Nat} {s : State} (hs : P s) :
    P (spoilReg off s) := by
  unfold spoilReg
  exact spoil_keeps K ‹_›

theorem tstApply_keeps (K : Keeps P) {kind : Nat} {target : Nat} {s : State} (hs : P s) :
    Snd P (tstApply kind target s) := by
  unfold tstApply
  split
  · exact snd_mk ‹_›
  · extract_lets -merge +onlyGivenNames x1
    try clear_value x1
    extract_lets -merge +onlyGivenNames x2
    try clear_value x2
    refine ite_keeps (Snd P) (fun _ => ?_) (fun _ => ?_)
    · exact snd_mk ‹_›
    · extract_lets -merge +onlyGivenNames x3
      try clear_value x3
      refine ite_keeps (Snd P) (fun _ => ?_) (fun _ => ?_)
      · refine snd_mk (K.upd ?_)
        assumption
      · extract_lets -merge +onlyGivenNames x4
        try clear_value x4
        extract_lets -merge +onlyGivenNames x5
        try clear_value x5
        extract_lets -merge +onlyGivenNames x6
        have hx6 : P x6 := by
          exact K.upd ‹_›
        clear_value x6
        extract_lets -merge +onlyGivenNames x7
        have hx7 : P x7 := by
          refine addF_keeps K (drawn_keeps K ?_)
          assumption
        clear_value x7
        extract_lets -merge +onlyGivenNames x8
        have hx8 : P x8 := by
          refine ite_keeps P (fun _ => ?_) (fun _ => ?_)
          · exact setF_keeps K ‹_›
          · assumption
        clear_value x8
        exact snd_mk ‹_›

theorem unsealBlock_keeps (K : Keeps P) {b : Block} {s : State} (hs : P s) :
    P (unsealBlock b s) := by
  unfold unsealBlock
  exact K.upd ‹_›

theorem unspoilLong_keeps (K : Keeps P) {off : Nat} {s : State} (hs : P s) :
    P (unspoilLong off s) := by
  unfold unspoilLong
  exact unspoil_keeps K ‹_›

theorem when_keeps (K : Keeps P) {c : Bool} {f : State → State} {s : State} (hf : ∀ a0, P a0 → P (f a0)) (hs : P s) :
    P (when c f s) := by
  unfold when
  refine ite_keeps P (fun _ => ?_) (fun _ => ?_)
  · refine hf _ ?_
    · assumption
  · assumption

/-! PowerCmd -/

theorem pwrAnswer_keeps (K : Keeps P) {c : Code} {tag : Nat} {wake : Bool} {cmdId : Nat} {issuer : Nat} {s : State} (hs : P s) :
    P (pwrAnswer c tag wake cmdId issuer s) := by
  unfold pwrAnswer
  refine setF_keeps K (setF_keeps K ?_)
  refine setB_keeps K (setF_keeps K ?_)
  refine setF_keeps K (unspoilLong_keeps K ?_)
  assumption

theorem pwrBegin_keeps (K : Keeps P) {s : State} (hs : P s) :
    P (pwrBegin s) := by
  unfold pwrBegin
  split
  · exact setB_keeps K ‹_›
  · extract_lets -merge +onlyGivenNames x1
    have hx1 : P x1 := by
      exact setB_keeps K ‹_›
    clear_value x1
    refine ite_keeps P (fun _ => ?_) (fun _ => ?_)
    · extract_lets -merge +onlyGivenNames x2
      have hx2 : P x2 := by
        refine setF_keeps K (setB_keeps K ?_)
        assumption
      clear_value x2
      exact K.upd ‹_›
    · assumption

theorem pwrIssue_keeps (K : Keeps P) {w : Word} {tag : Nat} {wake : Bool} {cmdId : Nat} {issuer : Nat} {s : State} (hs : P s) :
    P (pwrIssue w tag wake cmdId issuer s) := by
  unfold pwrIssue
  refine ite_keeps P (fun _ => ?_) (fun _ => ?_)
  · assumption
  · refine ite_keeps P (fun _ => ?_) (fun _ => ?_)
    · exact pwrAnswer_keeps K ‹_›
    · extract_lets -merge +onlyGivenNames x1
      try clear_value x1
      extract_lets -merge +onlyGivenNames x2
      have hx2 : P x2 := by
        exact pwrAnswer_keeps K ‹_›
      clear_value x2
      extract_lets -merge +onlyGivenNames x3
      have hx3 : P x3 := by
        refine ite_keeps P (fun _ => ?_) (fun _ => ?_)
        · exact spoilLong_keeps K ‹_›
        · assumption
      clear_value x3
      refine ite_keeps P (fun _ => ?_) (fun _ => ?_)
      · assumption
      · refine pwrBegin_keeps K (K.upd ?_)
        assumption

theorem resetRequest_keeps (K : Keeps P) {kind : StartKind} {glob : Bool} {s : State} (hs : P s) :
    P (resetRequest kind glob s) := by
  unfold resetRequest
  extract_lets -merge +onlyGivenNames x1
  try clear_value x1
  extract_lets -merge +onlyGivenNames x2
  have hx2 : P x2 := by
    refine setF_keeps K (unspoilLong_keeps K ?_)
    assumption
  clear_value x2
  refine ite_keeps P (fun _ => ?_) (fun _ => ?_)
  · exact K.upd ‹_›
  · assumption

theorem wakeIssue_keeps (K : Keeps P) {s : State} (hs : P s) :
    P (wakeIssue s) := by
  unfold wakeIssue
  extract_lets -merge +onlyGivenNames x1
  try clear_value x1
  refine ite_keeps P (fun _ => ?_) (fun _ => ?_)
  · exact K.upd ‹_›
  · refine raise_keeps K (pwrIssue_keeps K ?_)
    assumption

theorem wakeSource_keeps (K : Keeps P) {src : WakeSrc} {s : State} (hs : P s) :
    P (wakeSource src s) := by
  unfold wakeSource
  refine ite_keeps P (fun _ => ?_) (fun _ => ?_)
  · refine wakeIssue_keeps K (setR_keeps K ?_)
    exact setF_keeps K ‹_›
  · assumption

theorem wakeWaiting_keeps (K : Keeps P) {s : State} (hs : P s) :
    P (wakeWaiting s) := by
  unfold wakeWaiting
  split
  · refine ite_keeps P (fun _ => ?_) (fun _ => ?_)
    · assumption
    · extract_lets -merge +onlyGivenNames x1
      try clear_value x1
      extract_lets -merge +onlyGivenNames x2
      have hx2 : P x2 := by
        exact K.upd ‹_›
      clear_value x2
      extract_lets -merge +onlyGivenNames x3
      have hx3 : P x3 := by
        unfold x3
        split
        · refine setF_keeps K (unspoilLong_keeps K ?_)
          assumption
        · assumption
      clear_value x3
      refine raise_keeps K (pwrIssue_keeps K ?_)
      assumption
  · assumption

/-! TwnOps -/

theorem setTwin_keeps (K : Keeps P) {t : Twin} {x : TwinState} {s : State} (hs : P s) :
    P (setTwin t x s) := by
  unfold setTwin
  split
  · exact K.upd ‹_›
  · exact K.upd ‹_›

theorem histBump_keeps (K : Keeps P) {t : Twin} {s : State} (hs : P s) :
    P (histBump t s) := by
  unfold histBump
  split
  · exact K.upd ‹_›
  · exact K.upd ‹_›

theorem rewriteReport_keeps (K : Keeps P) {s : State} (hs : P s) :
    P (rewriteReport s) := by
  unfold rewriteReport
  extract_lets -merge +onlyGivenNames x1
  try clear_value x1
  exact K.upd ‹_›

theorem declareFailed_keeps (K : Keeps P) {t : Twin} {cause : Nat} {s : State} (hs : P s) :
    P (declareFailed t cause s) := by
  unfold declareFailed
  refine ite_keeps P (fun _ => ?_) (fun _ => ?_)
  · assumption
  · extract_lets -merge +onlyGivenNames x1
    try clear_value x1
    extract_lets -merge +onlyGivenNames x2
    try clear_value x2
    extract_lets -merge +onlyGivenNames x3
    try clear_value x3
    extract_lets -merge +onlyGivenNames x4
    have hx4 : P x4 := by
      exact setTwin_keeps K ‹_›
    clear_value x4
    extract_lets -merge +onlyGivenNames x5
    have hx5 : P x5 := by
      refine setF_keeps K (setR_keeps K ?_)
      assumption
    clear_value x5
    extract_lets -merge +onlyGivenNames x6
    try clear_value x6
    extract_lets -merge +onlyGivenNames x7
    have hx7 : P x7 := by
      refine histBump_keeps K (bump_keeps K ?_)
      exact K.upd ‹_›
    clear_value x7
    extract_lets -merge +onlyGivenNames x8
    have hx8 : P x8 := by
      refine ite_keeps P (fun _ => ?_) (fun _ => ?_)
      · exact setTwin_keeps K ‹_›
      · refine ite_keeps P (fun _ => ?_) (fun _ => ?_)
        · exact setTwin_keeps K ‹_›
        · assumption
    clear_value x8
    extract_lets -merge +onlyGivenNames x9
    have hx9 : P x9 := by
      refine ite_keeps P (fun _ => ?_) (fun _ => ?_)
      · exact setB_keeps K ‹_›
      · assumption
    clear_value x9
    extract_lets -merge +onlyGivenNames x10
    try clear_value x10
    extract_lets -merge +onlyGivenNames x11
    try clear_value x11
    extract_lets -merge +onlyGivenNames x12
    have hx12 : P x12 := by
      refine when_keeps K (fun _ _ => ?_) ?_
      · exact setB_keeps K ‹_›
      · exact K.upd ‹_›
    clear_value x12
    refine rewriteReport_keeps K (raise_keeps K ?_)
    assumption

theorem divergence_keeps (K : Keeps P) {s : State} (hs : P s) :
    P (divergence s) := by
  unfold divergence
  refine ite_keeps P (fun _ => ?_) (fun _ => ?_)
  · refine rewriteReport_keeps K (bump_keeps K ?_)
    refine setTwin_keeps K (setTwin_keeps K ?_)
    assumption
  · assumption

theorem routeDiff_keeps (K : Keeps P) {s : State} (hs : P s) :
    P (routeDiff s) := by
  unfold routeDiff
  split
  · exact declareFailed_keeps K ‹_›
  · exact divergence_keeps K ‹_›

theorem strike_keeps (K : Keeps P) {t : Twin} {s : State} (hs : P s) :
    P (strike t s) := by
  unfold strike
  split
  · exact K.upd ‹_›
  · exact K.upd ‹_›

theorem routeMissing_keeps (K : Keeps P) {t : Twin} {s : State} (hs : P s) :
    P (routeMissing t s) := by
  unfold routeMissing
  refine ite_keeps P (fun _ => ?_) (fun _ => ?_)
  · exact declareFailed_keeps K ‹_›
  · refine ite_keeps P (fun _ => ?_) (fun _ => ?_)
    · exact strike_keeps K ‹_›
    · assumption

theorem byPort_keeps (K : Keeps P) {merge : Bool} {c : Copies} {f : State → State} {s : State} (hf : ∀ a0, P a0 → P (f a0)) (hs : P s) :
    P (byPort merge c f s) := by
  unfold byPort
  refine ite_keeps P (fun _ => ?_) (fun _ => ?_)
  · assumption
  · split
    · refine hf _ ?_
      · assumption
    · refine routeDiff_keeps K (when_keeps K (fun _ _ => ?_) ?_)
      · refine hf _ ?_
        · assumption
      · assumption
    · refine routeMissing_keeps K (when_keeps K (fun _ _ => ?_) ?_)
      · refine hf _ ?_
        · assumption
      · assumption

theorem copyFlipped_keeps (K : Keeps P) {t : Twin} {route : Nat} {s : State} (hs : P s) :
    Snd P (copyFlipped t route s) := by
  unfold copyFlipped
  split
  · exact snd_mk ‹_›
  · extract_lets -merge +onlyGivenNames x1
    try clear_value x1
    refine ite_keeps (Snd P) (fun _ => ?_) (fun _ => ?_)
    · extract_lets -merge +onlyGivenNames x2
      have hx2 : Snd P x2 := by
        exact tstApply_keeps K ‹_›
      clear_value x2
      refine snd_mk (of_snd ?_)
      assumption
    · exact snd_mk ‹_›

theorem holdCopy_keeps (K : Keeps P) {t : Twin} {x : LateCopy} {s : State} (hs : P s) :
    Snd P (holdCopy t x s) := by
  unfold holdCopy
  extract_lets -merge +onlyGivenNames x1
  have hx1 : Snd P x1 := by
    exact tstApply_keeps K ‹_›
  clear_value x1
  extract_lets -merge +onlyGivenNames x2
  try clear_value x2
  extract_lets -merge +onlyGivenNames x3
  try clear_value x3
  refine ite_keeps (Snd P) (fun _ => ?_) (fun _ => ?_)
  · refine snd_mk (of_snd ?_)
    assumption
  · refine snd_mk ?_
    extract_lets -merge +onlyGivenNames x4
    have hx4 : P x4 := by
      exact of_snd ‹_›
    clear_value x4
    exact K.upd ‹_›

theorem delayCopy_keeps (K : Keeps P) {t : Twin} {x : LateCopy} {go : State → State} {s : State} (hgo : ∀ a0, P a0 → P (go a0)) (hs : P s) :
    P (delayCopy t x go s) := by
  unfold delayCopy
  extract_lets -merge +onlyGivenNames x1
  have hx1 : Snd P x1 := by
    exact holdCopy_keeps K ‹_›
  clear_value x1
  refine ite_keeps P (fun _ => ?_) (fun _ => ?_)
  · exact of_snd ‹_›
  · refine hgo _ ?_
    · exact of_snd ‹_›

theorem hostUlust_keeps (K : Keeps P) {off : Nat} {v : Word} {setNow : Word} {s : State} (hs : P s) :
    P (hostUlust off v setNow s) := by
  unfold hostUlust
  refine ite_keeps P (fun _ => ?_) (fun _ => ?_)
  · assumption
  · exact captureReq_keeps K ‹_›

theorem passSolo_keeps (K : Keeps P) {α : Type} {c : Copy α} {pass : α → State → State} {solo : State → State} {s : State} (hpass : ∀ a0 a1, P a1 → P (pass a0 a1)) (hsolo : ∀ a0, P a0 → P (solo a0)) (hs : P s) :
    P (passSolo c pass solo s) := by
  unfold passSolo
  extract_lets -merge +onlyGivenNames x1
  have hx1 : P x1 := by
    refine ite_keeps P (fun _ => ?_) (fun _ => ?_)
    · assumption
    · refine hpass _ _ ?_
      · assumption
  clear_value x1
  refine ite_keeps P (fun _ => ?_) (fun _ => ?_)
  · refine routeMissing_keeps K (hsolo _ ?_)
    · assumption
  · refine ite_keeps P (fun _ => ?_) (fun _ => ?_)
    · exact routeMissing_keeps K ‹_›
    · refine ite_keeps P (fun _ => ?_) (fun _ => ?_)
      · assumption
      · assumption

theorem stepMismatch_keeps (K : Keeps P) {s : State} (hs : P s) :
    P (stepMismatch s) := by
  unfold stepMismatch
  refine ite_keeps P (fun _ => ?_) (fun _ => ?_)
  · refine divergence_keeps K (raise_keeps K ?_)
    refine bump_keeps K (K.upd ?_)
    assumption
  · assumption

/-! Flags -/

theorem evalLevels_keeps (K : Keeps P) {s : State} (hs : P s) :
    P (evalLevels s) := by
  unfold evalLevels
  refine each_keeps K (fun _ _ _ => ?_) ?_
  · exact raise_keeps K ‹_›
  · assumption

/-! IntcOps -/

theorem setTgt_keeps (K : Keeps P) {t : Target} {x : TgtSt} {s : State} (hs : P s) :
    P (setTgt t x s) := by
  unfold setTgt
  split
  · exact K.upd ‹_›
  · exact K.upd ‹_›
  · exact K.upd ‹_›
  · exact K.upd ‹_›

theorem coreTake_keeps (K : Keeps P) {t : Target} {n : Nat} {s : State} (hs : P s) :
    P (coreTake t n s) := by
  unfold coreTake
  extract_lets -merge +onlyGivenNames x1
  try clear_value x1
  extract_lets -merge +onlyGivenNames x2
  have hx2 : P x2 := by
    refine ite_keeps P (fun _ => ?_) (fun _ => ?_)
    · exact setTgt_keeps K ‹_›
    · assumption
  clear_value x2
  exact setSrcBit_keeps K ‹_›

theorem coreWake_keeps (K : Keeps P) {s : State} (hs : P s) :
    P (coreWake s) := by
  unfold coreWake
  refine ite_keeps P (fun _ => ?_) (fun _ => ?_)
  · exact wakeSource_keeps K ‹_›
  · assumption

theorem sendMsi_keeps (K : Keeps P) {vec : Nat} {s : State} (hs : P s) :
    P (sendMsi vec s) := by
  unfold sendMsi
  refine ite_keeps P (fun _ => ?_) (fun _ => ?_)
  · exact K.upd ‹_›
  · exact emit_keeps K ‹_›

theorem presentClaim_keeps (K : Keeps P) {t : Target} {n : Nat} {s : State} (hs : P s) :
    P (presentClaim t n s) := by
  unfold presentClaim
  extract_lets -merge +onlyGivenNames x1
  try clear_value x1
  extract_lets -merge +onlyGivenNames x2
  try clear_value x2
  extract_lets -merge +onlyGivenNames x3
  try clear_value x3
  refine ite_keeps P (fun _ => ?_) (fun _ => ?_)
  · refine capture_keeps K (setTgt_keeps K ?_)
    assumption
  · extract_lets -merge +onlyGivenNames x4
    have hx4 : P x4 := by
      exact setTgt_keeps K ‹_›
    clear_value x4
    extract_lets -merge +onlyGivenNames x5
    have hx5 : P x5 := by
      refine bump_keeps K (setB_keeps K ?_)
      assumption
    clear_value x5
    extract_lets -merge +onlyGivenNames x6
    have hx6 : P x6 := by
      refine ite_keeps P (fun _ => ?_) (fun _ => ?_)
      · exact setB_keeps K ‹_›
      · assumption
    clear_value x6
    refine ite_keeps P (fun _ => ?_) (fun _ => ?_)
    · exact sendMsi_keeps K ‹_›
    · assumption

theorem evaluate_keeps (K : Keeps P) {t : Target} {idle : Bool} {s : State} (hs : P s) :
    P (evaluate t idle s) := by
  unfold evaluate
  split
  · assumption
  · refine ite_keeps P (fun _ => ?_) (fun _ => ?_)
    · exact presentClaim_keeps K ‹_›
    · assumption

theorem evaluation_keeps (K : Keeps P) {t : Target} {idle : Bool} {s : State} (hs : P s) :
    P (evaluation t idle s) := by
  unfold evaluation
  refine ite_keeps P (fun _ => ?_) (fun _ => ?_)
  · refine evaluate_keeps K (coreWake_keeps K ?_)
    exact evalLevels_keeps K ‹_›
  · assumption

theorem sendHeldMsi_keeps (K : Keeps P) {s : State} (hs : P s) :
    P (sendHeldMsi s) := by
  unfold sendHeldMsi
  refine each_keeps K (fun _ _ _ => ?_) ?_
  · refine emit_keeps K (K.upd ?_)
    assumption
  · assumption

/-! Intc -/

theorem endDoneScope_keeps (K : Keeps P) {t : HostTgt} {s : State} (hs : P s) :
    P (endDoneScope t s) := by
  unfold endDoneScope
  extract_lets -merge +onlyGivenNames x1
  have hx1 : P x1 := by
    exact unspoilLong_keeps K ‹_›
  clear_value x1
  extract_lets -merge +onlyGivenNames x2
  try clear_value x2
  refine ite_keeps P (fun _ => ?_) (fun _ => ?_)
  · refine each_keeps K (fun _ _ _ => ?_) ?_
    · exact unspoilLong_keeps K ‹_›
    · assumption
  · assumption

theorem sourceEvent_keeps (K : Keeps P) {n : Nat} {s : State} (hs : P s) :
    P (sourceEvent n s) := by
  unfold sourceEvent
  refine ite_keeps P (fun _ => ?_) (fun _ => ?_)
  · assumption
  · refine coreWake_keeps K (raise_keeps K ?_)
    assumption

theorem writeHpendClr_keeps (K : Keeps P) {k : Nat} {v : Word} {events : Word} {s : State} (hs : P s) :
    P (writeHpendClr k v events s) := by
  unfold writeHpendClr
  extract_lets -merge +onlyGivenNames x1
  have hx1 : P x1 := by
    exact setR_keeps K ‹_›
  clear_value x1
  extract_lets -merge +onlyGivenNames x2
  have hx2 : P x2 := by
    refine each_keeps K (fun _ _ _ => ?_) ?_
    · exact sourceEvent_keeps K ‹_›
    · assumption
  clear_value x2
  refine ite_keeps P (fun _ => ?_) (fun _ => ?_)
  · exact unspoil_keeps K ‹_›
  · exact spoil_keeps K ‹_›

theorem execIntcHpendClr_keeps (K : Keeps P) {k : Fin 8} {v : Word} {events : Word} {s : State} (hs : P s) :
    Nxt P (execIntcHpendClr k v events s) := by
  unfold execIntcHpendClr
  refine nxt_keeps (ite_keeps P (fun _ => ?_) (fun _ => ?_))
  · exact writeHpendClr_keeps K ‹_›
  · assumption

theorem writeHpendSet_keeps (K : Keeps P) {k : Nat} {v : Word} {s : State} (hs : P s) :
    P (writeHpendSet k v s) := by
  unfold writeHpendSet
  extract_lets -merge +onlyGivenNames x1
  have hx1 : P x1 := by
    exact setR_keeps K ‹_›
  clear_value x1
  refine ite_keeps P (fun _ => ?_) (fun _ => ?_)
  · exact unspoil_keeps K ‹_›
  · exact spoil_keeps K ‹_›

theorem execIntcHpendSet_keeps (K : Keeps P) {k : Fin 8} {v : Word} {s : State} (hs : P s) :
    Nxt P (execIntcHpendSet k v s) := by
  unfold execIntcHpendSet
  refine nxt_keeps (ite_keeps P (fun _ => ?_) (fun _ => ?_))
  · exact writeHpendSet_keeps K ‹_›
  · assumption

theorem execIntcModExpire_keeps (K : Keeps P) {t : Target} {idle : Bool} {s : State} (hs : P s) :
    Nxt P (execIntcModExpire t idle s) := by
  unfold execIntcModExpire
  refine nxt_keeps (evaluation_keeps K ?_)
  exact setTgt_keeps K ‹_›

theorem execIntcPresent_keeps (K : Keeps P) {t : Target} {idle : Bool} {s : State} (hs : P s) :
    Nxt P (execIntcPresent t idle s) := by
  unfold execIntcPresent
  refine nxt_keeps (evaluation_keeps K ?_)
  assumption

theorem execIntcSourceEvent_keeps (K : Keeps P) {n : Fin 256} {s : State} (hs : P s) :
    Nxt P (execIntcSourceEvent n s) := by
  unfold execIntcSourceEvent
  refine nxt_keeps (sourceEvent_keeps K ?_)
  assumption

theorem readBy_keeps (K : Keeps P) {r : Route} {f : State → State} {s : State} (hf : ∀ a0, P a0 → P (f a0)) (hs : P s) :
    P (readBy r f s) := by
  unfold readBy
  refine ite_keeps P (fun _ => ?_) (fun _ => ?_)
  · refine hf _ ?_
    · refine of_snd (tstApply_keeps K ?_)
      assumption
  · assumption

theorem takeClaim_keeps (K : Keeps P) {t : HostTgt} {s : State} (hs : P s) :
    P (takeClaim t s) := by
  unfold takeClaim
  extract_lets -merge +onlyGivenNames x1
  try clear_value x1
  split
  · exact K.upd ‹_›
  · extract_lets -merge +onlyGivenNames x2
    have hx2 : P x2 := by
      exact setTgt_keeps K ‹_›
    clear_value x2
    extract_lets -merge +onlyGivenNames x3
    have hx3 : P x3 := by
      refine ite_keeps P (fun _ => ?_) (fun _ => ?_)
      · assumption
      · exact setSrcBit_keeps K ‹_›
    clear_value x3
    exact K.upd ‹_›

theorem execIntcTgtClaim_keeps (K : Keeps P) {r : Route} {t : HostTgt} {s : State} (hs : P s) :
    Nxt P (execIntcTgtClaim r t s) := by
  unfold execIntcTgtClaim
  refine nxt_keeps (readBy_keeps K (fun _ _ => ?_) ?_)
  · refine ite_keeps P (fun _ => ?_) (fun _ => ?_)
    · exact takeClaim_keeps K ‹_›
    · exact K.upd ‹_›
  · assumption

theorem writeDone_keeps (K : Keeps P) {t : HostTgt} {v : Word} {s : State} (hs : P s) :
    P (writeDone t v s) := by
  unfold writeDone
  extract_lets -merge +onlyGivenNames x1
  try clear_value x1
  split
  · assumption
  · refine ite_keeps P (fun _ => ?_) (fun _ => ?_)
    · extract_lets -merge +onlyGivenNames x2
      have hx2 : P x2 := by
        exact setTgt_keeps K ‹_›
      clear_value x2
      extract_lets -merge +onlyGivenNames x3
      have hx3 : P x3 := by
        exact endDoneScope_keeps K ‹_›
      clear_value x3
      refine ite_keeps P (fun _ => ?_) (fun _ => ?_)
      · exact setSrcBit_keeps K ‹_›
      · assumption
    · refine spoilLong_keeps K (spoilLong_keeps K ?_)
      exact spoilLong_keeps K ‹_›

theorem execIntcTgtDone_keeps (K : Keeps P) {t : HostTgt} {v : Word} {s : State} (hs : P s) :
    Nxt P (execIntcTgtDone t v s) := by
  unfold execIntcTgtDone
  refine nxt_keeps (ite_keeps P (fun _ => ?_) (fun _ => ?_))
  · exact writeDone_keeps K ‹_›
  · assumption

/-! Dma -/

theorem advanceHead_keeps (K : Keeps P) {r : Nat} {n : Nat} {s : State} (hs : P s) :
    P (advanceHead r n s) := by
  unfold advanceHead
  exact setF_keeps K ‹_›

theorem fwdDone_keeps (K : Keeps P) {r : Nat} {x : HostItem} {s : State} (hs : P s) :
    P (fwdDone r x s) := by
  unfold fwdDone
  refine ite_keeps P (fun _ => ?_) (fun _ => ?_)
  · extract_lets -merge +onlyGivenNames x1
    try clear_value x1
    extract_lets -merge +onlyGivenNames x2
    try clear_value x2
    exact K.upd ‹_›
  · assumption

theorem setRing_keeps (K : Keeps P) {r : Nat} {x : DmaRing} {s : State} (hs : P s) :
    P (setRing r x s) := by
  unfold setRing
  split
  · exact K.upd ‹_›
  · exact K.upd ‹_›
  · exact K.upd ‹_›
  · exact K.upd ‹_›

theorem clearRing_keeps (K : Keeps P) {r : Nat} {s : State} (hs : P s) :
    P (clearRing r s) := by
  unfold clearRing
  extract_lets -merge +onlyGivenNames x1
  try clear_value x1
  extract_lets -merge +onlyGivenNames x2
  have hx2 : P x2 := by
    refine each_keeps K (fun _ _ _ => ?_) ?_
    · exact fwdDone_keeps K ‹_›
    · assumption
  clear_value x2
  refine setRing_keeps K (clearRegs_keeps K ?_)
  assumption

theorem countMismatch_keeps (K : Keeps P) {s : State} (hs : P s) :
    P (countMismatch s) := by
  unfold countMismatch
  refine raise_keeps K (bump_keeps K ?_)
  assumption

theorem openBuffer_keeps (K : Keeps P) {r : Nat} {s : State} (hs : P s) :
    Snd P (openBuffer r s) := by
  unfold openBuffer
  split
  · refine ite_keeps (Snd P) (fun _ => ?_) (fun _ => ?_)
    · refine snd_mk (setRing_keeps K ?_)
      assumption
    · exact snd_mk ‹_›
  · extract_lets -merge +onlyGivenNames x1
    have hx1 : Snd P x1 := by
      exact tstApply_keeps K ‹_›
    clear_value x1
    split
    · refine ite_keeps (Snd P) (fun _ => ?_) (fun _ => ?_)
      · refine snd_mk (of_snd ?_)
        assumption
      · refine snd_mk (setRing_keeps K ?_)
        exact of_snd ‹_›
    · refine snd_mk (of_snd ?_)
      assumption

theorem openBuffers_keeps (K : Keeps P) {r : Nat} (n : Nat) : ∀ {s : State}, P s → Snd P (openBuffers r n s) := by
  induction n with
  | zero => exact fun h => h
  | succ n ih =>
    intro s hs
    unfold openBuffers
    exact ite_keeps (Snd P) (fun _ => ih (of_snd (openBuffer_keeps K hs))) (fun _ => of_snd (openBuffer_keeps K hs))

theorem writeBackDesc_keeps (K : Keeps P) {r : Nat} {idx : Nat} {ctrl : BitVec 16} {doneLen : BitVec 16} {status : BitVec 16} {m0 : Option (BitVec 64)} {m1 : Option (BitVec 64)} {s : State} (hs : P s) :
    P (writeBackDesc r idx ctrl doneLen status m0 m1 s) := by
  unfold writeBackDesc
  refine ite_keeps P (fun _ => ?_) (fun _ => ?_)
  · extract_lets -merge +onlyGivenNames x1
    try clear_value x1
    extract_lets -merge +onlyGivenNames x2
    try clear_value x2
    extract_lets -merge +onlyGivenNames x3
    try clear_value x3
    refine emit_keeps K (K.upd ?_)
    assumption
  · exact emit_keeps K ‹_›

theorem raiseCmpl_keeps (K : Keeps P) {r : Nat} {ds : List Desc} {s : State} (hs : P s) :
    P (raiseCmpl r ds s) := by
  unfold raiseCmpl
  refine ite_keeps P (fun _ => ?_) (fun _ => ?_)
  · exact raise_keeps K ‹_›
  · assumption

theorem finishRx_keeps (K : Keeps P) {r : Nat} {x : HostItem} {filled : List (Desc × Nat)} {dropped : Nat} {s : State} (hs : P s) :
    P (finishRx r x filled dropped s) := by
  unfold finishRx
  extract_lets -merge +onlyGivenNames x1
  have hx1 : P x1 := by
    exact fwdDone_keeps K ‹_›
  clear_value x1
  extract_lets -merge +onlyGivenNames x2
  try clear_value x2
  extract_lets -merge +onlyGivenNames x3
  try clear_value x3
  extract_lets -merge +onlyGivenNames x4
  try clear_value x4
  extract_lets -merge +onlyGivenNames x5
  have hx5 : P x5 := by
    refine each_keeps K (fun _ _ _ => ?_) ?_
    · exact writeBackDesc_keeps K ‹_›
    · assumption
  clear_value x5
  extract_lets -merge +onlyGivenNames x6
  have hx6 : P x6 := by
    refine raiseCmpl_keeps K (advanceHead_keeps K ?_)
    assumption
  clear_value x6
  refine ite_keeps P (fun _ => ?_) (fun _ => ?_)
  · exact bump_keeps K ‹_›
  · refine bumpBy_keeps K (bump_keeps K ?_)
    assumption

theorem deliver_keeps (K : Keeps P) {r : Nat} {s : State} (hs : P s) :
    P (deliver r s) := by
  unfold deliver
  split
  · assumption
  · extract_lets -merge +onlyGivenNames x1
    try clear_value x1
    extract_lets -merge +onlyGivenNames x2
    try clear_value x2
    extract_lets -merge +onlyGivenNames x3
    have hx3 : Snd P x3 := by
      exact openBuffers_keeps K _ ‹_›
    clear_value x3
    split
    · extract_lets -merge +onlyGivenNames x4
      have hx4 : P x4 := by
        refine each_keeps K (fun _ _ _ => ?_) ?_
        · exact emit_keeps K ‹_›
        · exact of_snd ‹_›
      clear_value x4
      extract_lets -merge +onlyGivenNames x5
      try clear_value x5
      extract_lets -merge +onlyGivenNames x6
      try clear_value x6
      refine ite_keeps P (fun _ => ?_) (fun _ => ?_)
      · refine finishRx_keeps K (setRing_keeps K ?_)
        assumption
      · exact setRing_keeps K ‹_›

theorem writeBackFtx_keeps (K : Keeps P) {d : FtxDone} {s : State} (hs : P s) :
    P (writeBackFtx d s) := by
  unfold writeBackFtx
  extract_lets -merge +onlyGivenNames x1
  have hx1 : P x1 := by
    refine each_keeps K (fun _ _ _ => ?_) ?_
    · exact writeBackDesc_keeps K ‹_›
    · assumption
  clear_value x1
  refine raiseCmpl_keeps K (advanceHead_keeps K ?_)
  assumption

theorem flushFtx_keeps (K : Keeps P) (n : Nat) : ∀ {s : State}, P s → P (flushFtx n s) := by
  induction n with
  | zero => exact fun h => h
  | succ n ih =>
    intro s hs
    unfold flushFtx
    split
    · refine ite_keeps P (fun _ => hs) (fun _ => ih (writeBackFtx_keeps K (K.upd hs)))
    · exact hs

theorem flushFtxAll_keeps (K : Keeps P) {s : State} (hs : P s) :
    P (flushFtxAll s) := by
  unfold flushFtxAll
  refine ite_keeps P (fun _ => ?_) (fun _ => ?_)
  · exact flushFtx_keeps K _ ‹_›
  · assumption

theorem dropGather_keeps (K : Keeps P) {s : State} (hs : P s) :
    P (dropGather s) := by
  unfold dropGather
  extract_lets -merge +onlyGivenNames x1
  try clear_value x1
  refine flushFtxAll_keeps K (bump_keeps K ?_)
  exact K.upd ‹_›

theorem dropNext_keeps (K : Keeps P) {r : Nat} {s : State} (hs : P s) :
    P (dropNext r s) := by
  unfold dropNext
  split
  · refine bump_keeps K (fwdDone_keeps K ?_)
    exact setRing_keeps K ‹_›
  · assumption

theorem haltRing_keeps (K : Keeps P) {r : Nat} {cause : Nat} {s : State} (hs : P s) :
    P (haltRing r cause s) := by
  unfold haltRing
  extract_lets -merge +onlyGivenNames x1
  have hx1 : P x1 := by
    unfold x1
    split
    · refine bump_keeps K (fwdDone_keeps K ?_)
      assumption
    · assumption
  clear_value x1
  extract_lets -merge +onlyGivenNames x2
  try clear_value x2
  extract_lets -merge +onlyGivenNames x3
  have hx3 : P x3 := by
    exact setRing_keeps K ‹_›
  clear_value x3
  refine raise_keeps K (setF_keeps K ?_)
  assumption

theorem execDmaReadError_keeps (K : Keeps P) {r : Fin 4} {abort : Bool} {s : State} (hs : P s) :
    Nxt P (execDmaReadError r abort s) := by
  unfold execDmaReadError
  refine nxt_keeps (ite_keeps P (fun _ => ?_) (fun _ => ?_))
  · exact haltRing_keeps K ‹_›
  · assumption

theorem execDmaReadTimeout_keeps (K : Keeps P) {r : Fin 4} {s : State} (hs : P s) :
    Nxt P (execDmaReadTimeout r s) := by
  unfold execDmaReadTimeout
  refine nxt_keeps (ite_keeps P (fun _ => ?_) (fun _ => ?_))
  · exact haltRing_keeps K ‹_›
  · assumption

theorem spoilRing_keeps (K : Keeps P) {r : Nat} {s : State} (hs : P s) :
    P (spoilRing r s) := by
  unfold spoilRing
  refine setRing_keeps K (each_keeps K (fun _ _ _ => ?_) ?_)
  · exact spoilLong_keeps K ‹_›
  · assumption

theorem judgeRing_keeps (K : Keeps P) {r : Nat} {s : State} (hs : P s) :
    P (judgeRing r s) := by
  unfold judgeRing
  refine ite_keeps P (fun _ => ?_) (fun _ => ?_)
  · exact spoilRing_keeps K ‹_›
  · assumption

theorem execDmaRingEnable_keeps (K : Keeps P) {r : Fin 4} {v : Word} {s : State} (hs : P s) :
    Nxt P (execDmaRingEnable r v s) := by
  unfold execDmaRingEnable
  refine nxt_keeps (ite_keeps P (fun _ => ?_) (fun _ => ?_))
  · assumption
  · extract_lets -merge +onlyGivenNames x1
    try clear_value x1
    extract_lets -merge +onlyGivenNames x2
    try clear_value x2
    extract_lets -merge +onlyGivenNames x3
    have hx3 : P x3 := by
      refine unspoil_keeps K (setR_keeps K ?_)
      assumption
    clear_value x3
    extract_lets -merge +onlyGivenNames x4
    have hx4 : P x4 := by
      refine ite_keeps P (fun _ => ?_) (fun _ => ?_)
      · refine clearRing_keeps K (each_keeps K (fun _ _ _ => ?_) ?_)
        · exact unspoilLong_keeps K ‹_›
        · assumption
      · assumption
    clear_value x4
    refine judgeRing_keeps K (ite_keeps P (fun _ => ?_) (fun _ => ?_))
    · assumption
    · exact spoilReg_keeps K ‹_›

theorem seeTail_keeps (K : Keeps P) {r : Nat} {v : Word} {descs : List Desc} {s : State} (hs : P s) :
    P (seeTail r v descs s) := by
  unfold seeTail
  extract_lets -merge +onlyGivenNames x1
  try clear_value x1
  extract_lets -merge +onlyGivenNames x2
  have hx2 : P x2 := by
    refine unspoil_keeps K (setF_keeps K ?_)
    assumption
  clear_value x2
  extract_lets -merge +onlyGivenNames x3
  have hx3 : P x3 := by
    refine judgeRing_keeps K (ite_keeps P (fun _ => ?_) (fun _ => ?_))
    · assumption
    · exact spoilReg_keeps K ‹_›
  clear_value x3
  refine ite_keeps P (fun _ => ?_) (fun _ => ?_)
  · extract_lets -merge +onlyGivenNames x4
    try clear_value x4
    extract_lets -merge +onlyGivenNames x5
    have hx5 : P x5 := by
      exact setRing_keeps K ‹_›
    clear_value x5
    refine ite_keeps P (fun _ => ?_) (fun _ => ?_)
    · assumption
    · refine ite_keeps P (fun _ => ?_) (fun _ => ?_)
      · exact setRing_keeps K ‹_›
      · refine ite_keeps P (fun _ => ?_) (fun _ => ?_)
        · exact deliver_keeps K ‹_›
        · assumption
  · assumption

theorem execDmaTailWrite_keeps (K : Keeps P) {r : Fin 4} {v : Word} {descs : List Desc} {s : State} (hs : P s) :
    Nxt P (execDmaTailWrite r v descs s) := by
  unfold execDmaTailWrite
  refine nxt_keeps (ite_keeps P (fun _ => ?_) (fun _ => ?_))
  · assumption
  · extract_lets -merge +onlyGivenNames x1
    have hx1 : Snd P x1 := by
      exact tstApply_keeps K ‹_›
    clear_value x1
    extract_lets -merge +onlyGivenNames x2
    have hx2 : P x2 := by
      exact of_snd ‹_›
    clear_value x2
    extract_lets -merge +onlyGivenNames x3
    try clear_value x3
    refine ite_keeps P (fun _ => ?_) (fun _ => ?_)
    · exact seeTail_keeps K ‹_›
    · exact setRing_keeps K ‹_›

theorem exhaustRx_keeps (K : Keeps P) {r : Nat} {s : State} (hs : P s) :
    P (exhaustRx r s) := by
  unfold exhaustRx
  split
  · assumption
  · extract_lets -merge +onlyGivenNames x1
    try clear_value x1
    extract_lets -merge +onlyGivenNames x2
    have hx2 : P x2 := by
      exact setRing_keeps K ‹_›
    clear_value x2
    refine ite_keeps P (fun _ => ?_) (fun _ => ?_)
    · refine bump_keeps K (fwdDone_keeps K ?_)
      assumption
    · exact finishRx_keeps K ‹_›

theorem rxExpire_keeps (K : Keeps P) {r : Nat} {s : State} (hs : P s) :
    P (rxExpire r s) := by
  unfold rxExpire
  split
  · assumption
  · refine ite_keeps P (fun _ => ?_) (fun _ => ?_)
    · refine ite_keeps P (fun _ => ?_) (fun _ => ?_)
      · exact exhaustRx_keeps K ‹_›
      · exact setRing_keeps K ‹_›
    · assumption

theorem execDmaWaitExpire_keeps (K : Keeps P) {r : Fin 4} {s : State} (hs : P s) :
    Nxt P (execDmaWaitExpire r s) := by
  unfold execDmaWaitExpire
  refine nxt_keeps (ite_keeps P (fun _ => ?_) (fun _ => ?_))
  · exact rxExpire_keeps K ‹_›
  · assumption

theorem startRx_keeps (K : Keeps P) {r : Nat} {s : State} (hs : P s) :
    P (startRx r s) := by
  unfold startRx
  refine ite_keeps P (fun _ => ?_) (fun _ => ?_)
  · exact dropNext_keeps K ‹_›
  · split
    · refine ite_keeps P (fun _ => ?_) (fun _ => ?_)
      · refine deliver_keeps K (setRing_keeps K ?_)
        assumption
      · exact dropNext_keeps K ‹_›
    · assumption

theorem execFrxFrame_keeps (K : Keeps P) {s : State} (hs : P s) :
    Nxt P (execFrxFrame s) := by
  unfold execFrxFrame
  refine nxt_keeps (ite_keeps P (fun _ => ?_) (fun _ => ?_))
  · exact startRx_keeps K ‹_›
  · assumption

theorem sendFtx_keeps (K : Keeps P) {frame : List (Desc × List Byte)} {s : State} (hs : P s) :
    P (sendFtx frame s) := by
  unfold sendFtx
  split
  · assumption
  · extract_lets -merge +onlyGivenNames x1
    try clear_value x1
    extract_lets -merge +onlyGivenNames x2
    try clear_value x2
    extract_lets -merge +onlyGivenNames x3
    try clear_value x3
    extract_lets -merge +onlyGivenNames x4
    try clear_value x4
    extract_lets -merge +onlyGivenNames x5
    try clear_value x5
    extract_lets -merge +onlyGivenNames x6
    try clear_value x6
    extract_lets -merge +onlyGivenNames x7
    have hx7 : P x7 := by
      exact K.upd ‹_›
    clear_value x7
    extract_lets -merge +onlyGivenNames x8
    have hx8 : P x8 := by
      exact bump_keeps K ‹_›
    clear_value x8
    extract_lets -merge +onlyGivenNames x9
    have hx9 : P x9 := by
      refine ite_keeps P (fun _ => ?_) (fun _ => ?_)
      · exact bump_keeps K ‹_›
      · assumption
    clear_value x9
    refine flushFtxAll_keeps K (ite_keeps P (fun _ => ?_) (fun _ => ?_))
    · refine ite_keeps P (fun _ => ?_) (fun _ => ?_)
      · exact bump_keeps K ‹_›
      · assumption
    · exact captureBus_keeps K ‹_›

theorem gatherFtx_keeps (K : Keeps P) {data : List (List Byte)} {s : State} (hs : P s) :
    P (gatherFtx data s) := by
  unfold gatherFtx
  extract_lets -merge +onlyGivenNames x1
  try clear_value x1
  extract_lets -merge +onlyGivenNames x2
  try clear_value x2
  extract_lets -merge +onlyGivenNames x3
  try clear_value x3
  extract_lets -merge +onlyGivenNames x4
  have hx4 : Snd P x4 := by
    exact openBuffers_keeps K _ ‹_›
  clear_value x4
  extract_lets -merge +onlyGivenNames x5
  have hx5 : P x5 := by
    exact of_snd ‹_›
  clear_value x5
  extract_lets -merge +onlyGivenNames x6
  try clear_value x6
  refine ite_keeps P (fun _ => ?_) (fun _ => ?_)
  · exact K.upd ‹_›
  · extract_lets -merge +onlyGivenNames x7
    try clear_value x7
    split
    · refine sendFtx_keeps K (K.upd ?_)
      assumption
    · refine ite_keeps P (fun _ => ?_) (fun _ => ?_)
      · assumption
      · exact K.upd ‹_›

theorem execFtxFrame_keeps (K : Keeps P) {data : List (List Byte)} {s : State} (hs : P s) :
    Nxt P (execFtxFrame data s) := by
  unfold execFtxFrame
  refine nxt_keeps (ite_keeps P (fun _ => ?_) (fun _ => ?_))
  · refine ite_keeps P (fun _ => ?_) (fun _ => ?_)
    · exact K.upd ‹_›
    · exact gatherFtx_keeps K ‹_›
  · assumption

theorem execFtxWaitExpire_keeps (K : Keeps P) {s : State} (hs : P s) :
    Nxt P (execFtxWaitExpire s) := by
  unfold execFtxWaitExpire
  refine nxt_keeps (ite_keeps P (fun _ => ?_) (fun _ => ?_))
  · refine ite_keeps P (fun _ => ?_) (fun _ => ?_)
    · exact dropGather_keeps K ‹_›
    · exact K.upd ‹_›
  · assumption

theorem setHostCopies_keeps (K : Keeps P) {tlm : Bool} {q : List (Copy HostItem)} {s : State} (hs : P s) :
    P (setHostCopies tlm q s) := by
  unfold setHostCopies
  refine ite_keeps P (fun _ => ?_) (fun _ => ?_)
  · exact K.upd ‹_›
  · exact K.upd ‹_›

theorem queueRx_keeps (K : Keeps P) {r : Nat} {x : HostItem} {s : State} (hs : P s) :
    P (queueRx r x s) := by
  unfold queueRx
  extract_lets -merge +onlyGivenNames x1
  try clear_value x1
  refine ite_keeps P (fun _ => ?_) (fun _ => ?_)
  · refine bump_keeps K (fwdDone_keeps K ?_)
    assumption
  · exact setRing_keeps K ‹_›

theorem hostCopy_keeps (K : Keeps P) {tlm : Bool} {t : Twin} {x : HostItem} {s : State} (hs : P s) :
    P (hostCopy tlm t x s) := by
  unfold hostCopy
  extract_lets -merge +onlyGivenNames x1
  have hx1 : Snd P x1 := by
    exact copyFlipped_keeps K ‹_›
  clear_value x1
  extract_lets -merge +onlyGivenNames x2
  try clear_value x2
  extract_lets -merge +onlyGivenNames x3
  have hx3 : P x3 := by
    refine setHostCopies_keeps K (of_snd ?_)
    assumption
  clear_value x3
  extract_lets -merge +onlyGivenNames x4
  have hx4 : P x4 := by
    refine each_keeps K (fun _ _ _ => ?_) ?_
    · exact queueRx_keeps K ‹_›
    · assumption
  clear_value x4
  refine ite_keeps P (fun _ => ?_) (fun _ => ?_)
  · refine routeDiff_keeps K (ite_keeps P (fun _ => ?_) (fun _ => ?_))
    · exact countMismatch_keeps K ‹_›
    · assumption
  · assumption

theorem execHostMerge_keeps (K : Keeps P) {tlm : Bool} {t : Twin} {x : HostItem} {s : State} (hs : P s) :
    Nxt P (execHostMerge tlm t x s) := by
  unfold execHostMerge
  refine nxt_keeps (ite_keeps P (fun _ => ?_) (fun _ => ?_))
  · assumption
  · refine delayCopy_keeps K (fun _ _ => ?_) ?_
    · exact hostCopy_keeps K ‹_›
    · assumption

theorem execHostMergeTimeout_keeps (K : Keeps P) {tlm : Bool} {s : State} (hs : P s) :
    Nxt P (execHostMergeTimeout tlm s) := by
  unfold execHostMergeTimeout
  refine nxt_keeps ?_
  split
  · assumption
  · refine passSolo_keeps K (fun _ _ _ => ?_) (fun _ _ => ?_) ?_
    · exact queueRx_keeps K ‹_›
    · exact countMismatch_keeps K ‹_›
    · exact setHostCopies_keeps K ‹_›

theorem execTlmBlock_keeps (K : Keeps P) {s : State} (hs : P s) :
    Nxt P (execTlmBlock s) := by
  unfold execTlmBlock
  refine nxt_keeps (ite_keeps P (fun _ => ?_) (fun _ => ?_))
  · exact startRx_keeps K ‹_›
  · assumption

theorem ftxStamped_keeps (K : Keeps P) {index : Nat} {entry : Nat} {s : State} (hs : P s) :
    P (ftxStamped index entry s) := by
  unfold ftxStamped
  refine flushFtxAll_keeps K (K.upd ?_)
  assumption

theorem resumeRx_keeps (K : Keeps P) {r : Nat} {s : State} (hs : P s) :
    P (resumeRx r s) := by
  unfold resumeRx
  refine ite_keeps P (fun _ => ?_) (fun _ => ?_)
  · exact exhaustRx_keeps K ‹_›
  · refine ite_keeps P (fun _ => ?_) (fun _ => ?_)
    · exact deliver_keeps K ‹_›
    · assumption

theorem resumeDma_keeps (K : Keeps P) {s : State} (hs : P s) :
    P (resumeDma s) := by
  unfold resumeDma
  refine ite_keeps P (fun _ => ?_) (fun _ => ?_)
  · refine resumeRx_keeps K (resumeRx_keeps K ?_)
    refine ite_keeps P (fun _ => ?_) (fun _ => ?_)
    · exact dropGather_keeps K ‹_›
    · exact flushFtxAll_keeps K ‹_›
  · assumption

/-! TsuOps -/

theorem moveRaw_keeps (K : Keeps P) {d : Int} {s : State} (hs : P s) :
    P (moveRaw d s) := by
  unfold moveRaw
  extract_lets -merge +onlyGivenNames x1
  try clear_value x1
  extract_lets -merge +onlyGivenNames x2
  have hx2 : P x2 := by
    exact setR_keeps K ‹_›
  clear_value x2
  refine ite_keeps P (fun _ => ?_) (fun _ => ?_)
  · exact setB_keeps K ‹_›
  · assumption

theorem sqCount_keeps (K : Keeps P) {s : State} (hs : P s) :
    P (sqCount s) := by
  unfold sqCount
  exact setR_keeps K ‹_›

theorem queueStamp_keeps (K : Keeps P) {port : Nat} {queue : Nat} {who : Owner} {launched : Bool} {index : Nat} {time : Word} {s : State} (hs : P s) :
    Snd P (queueStamp port queue who launched index time s) := by
  unfold queueStamp
  split
  · refine ite_keeps (Snd P) (fun _ => ?_) (fun _ => ?_)
    · extract_lets -merge +onlyGivenNames x1
      try clear_value x1
      refine snd_mk (raise_keeps K ?_)
      refine bump_keeps K (sqCount_keeps K ?_)
      refine setR_keeps K (setR_keeps K ?_)
      assumption
    · refine snd_mk (raise_keeps K ?_)
      exact bump_keeps K ‹_›
  · refine snd_mk (raise_keeps K ?_)
    exact bump_keeps K ‹_›

theorem shiftedStamp_keeps (K : Keeps P) {p : Nat} {t : Int} {s : State} (hs : P s) :
    Snd P (shiftedStamp p t s) := by
  unfold shiftedStamp
  extract_lets -merge +onlyGivenNames x1
  have hx1 : Snd P x1 := by
    exact tstApply_keeps K ‹_›
  clear_value x1
  extract_lets -merge +onlyGivenNames x2
  try clear_value x2
  refine snd_mk (of_snd ?_)
  assumption

theorem tsuRun_keeps (K : Keeps P) {cycles : Nat} {s : State} (hs : P s) :
    P (tsuRun cycles s) := by
  unfold tsuRun
  refine ite_keeps P (fun _ => ?_) (fun _ => ?_)
  · extract_lets -merge +onlyGivenNames x1
    try clear_value x1
    extract_lets -merge +onlyGivenNames x2
    try clear_value x2
    extract_lets -merge +onlyGivenNames x3
    try clear_value x3
    extract_lets -merge +onlyGivenNames x4
    try clear_value x4
    extract_lets -merge +onlyGivenNames x5
    try clear_value x5
    extract_lets -merge +onlyGivenNames x6
    have hx6 : P x6 := by
      exact K.upd ‹_›
    clear_value x6
    refine moveRaw_keeps K (setR_keeps K ?_)
    assumption
  · assumption

theorem tsuAnswer_keeps (K : Keeps P) {c : Code} {s : State} (hs : P s) :
    P (tsuAnswer c s) := by
  unfold tsuAnswer
  refine setF_keeps K (unspoilLong_keeps K ?_)
  assumption

theorem tsuOp_keeps (K : Keeps P) {op : Nat} {adj : Word} {s : State} (hs : P s) :
    P (tsuOp op adj s) := by
  unfold tsuOp
  split
  · refine setB_keeps K (setR_keeps K ?_)
    assumption
  · refine setR_keeps K (K.upd ?_)
    assumption
  · refine setB_keeps K (setR_keeps K ?_)
    assumption

theorem tsuApply_keeps (K : Keeps P) {s : State} (hs : P s) :
    P (tsuApply s) := by
  unfold tsuApply
  split
  · refine tsuAnswer_keeps K (tsuOp_keeps K ?_)
    refine setB_keeps K (K.upd ?_)
    assumption
  · assumption

theorem tsuAdvance_keeps (K : Keeps P) {cycles : Nat} {s : State} (hs : P s) :
    P (tsuAdvance cycles s) := by
  unfold tsuAdvance
  refine ite_keeps P (fun _ => ?_) (fun _ => ?_)
  · refine tsuRun_keeps K (tsuApply_keeps K ?_)
    exact tsuRun_keeps K ‹_›
  · exact tsuRun_keeps K ‹_›

/-! NetOps -/

theorem setPort_keeps (K : Keeps P) {p : Nat} {x : NetPort} {s : State} (hs : P s) :
    P (setPort p x s) := by
  unfold setPort
  split
  · exact K.upd ‹_›
  · exact K.upd ‹_›
  · exact K.upd ‹_›
  · exact K.upd ‹_›

theorem judgeHead_keeps (K : Keeps P) {p : Nat} {q : Nat} {s : State} (hs : P s) :
    P (judgeHead p q s) := by
  unfold judgeHead
  split
  · split
    · refine ite_keeps P (fun _ => ?_) (fun _ => ?_)
      · assumption
      · extract_lets -merge +onlyGivenNames x1
        have hx1 : Snd P x1 := by
          exact tstApply_keeps K ‹_›
        clear_value x1
        extract_lets -merge +onlyGivenNames x2
        try clear_value x2
        extract_lets -merge +onlyGivenNames x3
        try clear_value x3
        refine setPort_keeps K (of_snd ?_)
        assumption
    · assumption
  · assumption

theorem takeCells_keeps (K : Keeps P) {p : Nat} {e : TxEnt} {s : State} (hs : P s) :
    P (takeCells p e s) := by
  unfold takeCells
  refine setF_keeps K (setF_keeps K ?_)
  assumption

theorem admitTx_keeps (K : Keeps P) {p : Nat} {e : TxEnt} {s : State} (hs : P s) :
    Snd P (admitTx p e s) := by
  unfold admitTx
  refine ite_keeps (Snd P) (fun _ => ?_) (fun _ => ?_)
  · extract_lets -merge +onlyGivenNames x1
    try clear_value x1
    refine snd_mk (judgeHead_keeps K ?_)
    refine takeCells_keeps K (setPort_keeps K ?_)
    assumption
  · refine snd_mk (raise_keeps K ?_)
    exact bump_keeps K ‹_›

theorem admitAll_keeps (K : Keeps P) {stamp : Option (Owner × BitVec 12)} {es : List (Nat × TxEnt)} {s : State} (hs : P s) :
    Snd P (admitAll stamp es s) := by
  unfold admitAll
  refine foldl_keeps (Snd P) (fun _ _ _ => ?_) ?_
  · extract_lets -merge +onlyGivenNames x1
    try clear_value x1
    extract_lets -merge +onlyGivenNames x2
    have hx2 : Snd P x2 := by
      refine admitTx_keeps K (of_snd ?_)
      assumption
    clear_value x2
    refine snd_mk (of_snd ?_)
    assumption
  · exact snd_mk ‹_›

theorem freeCells_keeps (K : Keeps P) {p : Nat} {e : TxEnt} {s : State} (hs : P s) :
    P (freeCells p e s) := by
  unfold freeCells
  refine setF_keeps K (setF_keeps K ?_)
  assumption

theorem unqueue_keeps (K : Keeps P) {drop : TxEnt → Bool} {p : Nat} {s : State} (hs : P s) :
    P (unqueue drop p s) := by
  unfold unqueue
  extract_lets -merge +onlyGivenNames x1
  try clear_value x1
  extract_lets -merge +onlyGivenNames x2
  have hx2 : P x2 := by
    exact setPort_keeps K ‹_›
  clear_value x2
  refine each_keeps K (fun _ _ _ => ?_) ?_
  · exact freeCells_keeps K ‹_›
  · assumption

theorem pauseAtEnd_keeps (K : Keeps P) {p : Nat} {s : State} (hs : P s) :
    P (pauseAtEnd p s) := by
  unfold pauseAtEnd
  extract_lets -merge +onlyGivenNames x1
  try clear_value x1
  refine ite_keeps P (fun _ => ?_) (fun _ => ?_)
  · refine setB_keeps K (setPort_keeps K ?_)
    assumption
  · assumption

theorem sent_keeps (K : Keeps P) {p : Nat} {e : TxEnt} {ok : Bool} {s : State} (hs : P s) :
    P (sent p e ok s) := by
  unfold sent
  extract_lets -merge +onlyGivenNames x1
  try clear_value x1
  refine ite_keeps P (fun _ => ?_) (fun _ => ?_)
  · refine emit_keeps K (K.upd ?_)
    assumption
  · exact emit_keeps K ‹_›

theorem endTx_keeps (K : Keeps P) {p : Nat} {ok : Bool} {s : State} (hs : P s) :
    P (endTx p ok s) := by
  unfold endTx
  extract_lets -merge +onlyGivenNames x1
  try clear_value x1
  split
  · refine pauseAtEnd_keeps K (freeCells_keeps K ?_)
    refine sent_keeps K (setPort_keeps K ?_)
    assumption
  · assumption

theorem underrun_keeps (K : Keeps P) {p : Nat} {s : State} (hs : P s) :
    P (underrun p s) := by
  unfold underrun
  extract_lets -merge +onlyGivenNames x1
  have hx1 : P x1 := by
    refine bump_keeps K (setB_keeps K ?_)
    exact endTx_keeps K ‹_›
  clear_value x1
  exact setF_keeps K ‹_›

theorem dropOpen_keeps (K : Keeps P) {p : Nat} {s : State} (hs : P s) :
    P (dropOpen p s) := by
  unfold dropOpen
  extract_lets -merge +onlyGivenNames x1
  have hx1 : P x1 := by
    exact unqueue_keeps K ‹_›
  clear_value x1
  split
  · refine ite_keeps P (fun _ => ?_) (fun _ => ?_)
    · exact underrun_keeps K ‹_›
    · assumption
  · assumption

theorem forward_keeps (K : Keeps P) {p : Nat} {f : EthFrame} {t : SplineTag} {s : State} (hs : P s) :
    P (forward p f t s) := by
  unfold forward
  extract_lets -merge +onlyGivenNames x1
  try clear_value x1
  extract_lets -merge +onlyGivenNames x2
  try clear_value x2
  extract_lets -merge +onlyGivenNames x3
  try clear_value x3
  extract_lets -merge +onlyGivenNames x4
  try clear_value x4
  extract_lets -merge +onlyGivenNames x5
  try clear_value x5
  extract_lets -merge +onlyGivenNames x6
  try clear_value x6
  refine ite_keeps P (fun _ => ?_) (fun _ => ?_)
  · exact bump_keeps K ‹_›
  · refine ite_keeps P (fun _ => ?_) (fun _ => ?_)
    · refine ite_keeps P (fun _ => ?_) (fun _ => ?_)
      · exact setPort_keeps K ‹_›
      · exact setPort_keeps K ‹_›
    · refine of_snd (admitTx_keeps K ?_)
      assumption

theorem setGot_keeps (K : Keeps P) {t : Twin} {n : Nat} {s : State} (hs : P s) :
    P (setGot t n s) := by
  unfold setGot
  split
  · exact K.upd ‹_›
  · exact K.upd ‹_›

theorem setSkip_keeps (K : Keeps P) {t : Twin} {n : Nat} {s : State} (hs : P s) :
    P (setSkip t n s) := by
  unfold setSkip
  split
  · exact K.upd ‹_›
  · exact K.upd ‹_›

theorem goAlone_keeps (K : Keeps P) {t : Twin} {otherDone : Bool} {s : State} (hs : P s) :
    P (goAlone t otherDone s) := by
  unfold goAlone
  extract_lets -merge +onlyGivenNames x1
  try clear_value x1
  extract_lets -merge +onlyGivenNames x2
  try clear_value x2
  extract_lets -merge +onlyGivenNames x3
  try clear_value x3
  extract_lets -merge +onlyGivenNames x4
  have hx4 : P x4 := by
    refine setGot_keeps K (setGot_keeps K ?_)
    exact K.upd ‹_›
  clear_value x4
  refine ite_keeps P (fun _ => ?_) (fun _ => ?_)
  · assumption
  · exact setSkip_keeps K ‹_›

theorem setWin_keeps (K : Keeps P) {ws : List WinEnt} {s : State} (hs : P s) :
    P (setWin ws s) := by
  unfold setWin
  refine setF_keeps K (K.upd ?_)
  assumption

theorem judgeWin_keeps (K : Keeps P) {t : SplineTag} {s : State} (hs : P s) :
    Snd P (judgeWin t s) := by
  unfold judgeWin
  extract_lets -merge +onlyGivenNames x1
  try clear_value x1
  split
  · refine ite_keeps (Snd P) (fun _ => ?_) (fun _ => ?_)
    · refine snd_mk (bump_keeps K ?_)
      exact setWin_keeps K ‹_›
    · refine snd_mk (setWin_keeps K ?_)
      assumption
  · extract_lets -merge +onlyGivenNames x2
    try clear_value x2
    extract_lets -merge +onlyGivenNames x3
    try clear_value x3
    extract_lets -merge +onlyGivenNames x4
    try clear_value x4
    refine ite_keeps (Snd P) (fun _ => ?_) (fun _ => ?_)
    · refine snd_mk (setWin_keeps K ?_)
      assumption
    · refine ite_keeps (Snd P) (fun _ => ?_) (fun _ => ?_)
      · refine snd_mk (setWin_keeps K ?_)
        assumption
      · refine ite_keeps (Snd P) (fun _ => ?_) (fun _ => ?_)
        · refine ite_keeps (Snd P) (fun _ => ?_) (fun _ => ?_)
          · refine snd_mk (bump_keeps K ?_)
            assumption
          · refine snd_mk (setWin_keeps K ?_)
            assumption
        · refine snd_mk (bump_keeps K ?_)
          assumption

theorem resume_keeps (K : Keeps P) {p : Nat} {us : Nat} {s : State} (hs : P s) :
    P (resume p us s) := by
  unfold resume
  refine ite_keeps P (fun _ => ?_) (fun _ => ?_)
  · refine bumpBy_keeps K (setB_keeps K ?_)
    assumption
  · assumption

theorem pauseNow_keeps (K : Keeps P) {p : Nat} {s : State} (hs : P s) :
    P (pauseNow p s) := by
  unfold pauseNow
  refine ite_keeps P (fun _ => ?_) (fun _ => ?_)
  · assumption
  · refine setB_keeps K (setPort_keeps K ?_)
    assumption

theorem obeyPause_keeps (K : Keeps P) {p : Nat} {quanta : Nat} {us : Nat} {s : State} (hs : P s) :
    P (obeyPause p quanta us s) := by
  unfold obeyPause
  extract_lets -merge +onlyGivenNames x1
  try clear_value x1
  refine ite_keeps P (fun _ => ?_) (fun _ => ?_)
  · refine resume_keeps K (setPort_keeps K ?_)
    assumption
  · refine ite_keeps P (fun _ => ?_) (fun _ => ?_)
    · refine ite_keeps P (fun _ => ?_) (fun _ => ?_)
      · assumption
      · exact setPort_keeps K ‹_›
    · exact pauseNow_keeps K ‹_›

theorem macControl_keeps (K : Keeps P) {p : Nat} {quanta : Nat} {opcode : Nat} {toModule : Bool} {us : Nat} {s : State} (hs : P s) :
    P (macControl p quanta opcode toModule us s) := by
  unfold macControl
  refine ite_keeps P (fun _ => ?_) (fun _ => ?_)
  · extract_lets -merge +onlyGivenNames x1
    have hx1 : P x1 := by
      exact bump_keeps K ‹_›
    clear_value x1
    refine ite_keeps P (fun _ => ?_) (fun _ => ?_)
    · exact obeyPause_keeps K ‹_›
    · exact bump_keeps K ‹_›
  · exact bump_keeps K ‹_›

theorem noStamp_keeps (K : Keeps P) {stamp : Option (Owner × BitVec 12)} {s : State} (hs : P s) :
    P (noStamp stamp s) := by
  unfold noStamp
  split
  · exact ftxStamped_keeps K ‹_›
  · assumption

theorem openFrame_keeps (K : Keeps P) {h : TxHead} {stamp : Option (Owner × BitVec 12)} {copies : Nat} {store : Bool} {start : List Byte} {bytes : List Byte} {s : State} (hs : P s) :
    P (openFrame h stamp copies store start bytes s) := by
  unfold openFrame
  split
  · refine noStamp_keeps K (bump_keeps K ?_)
    assumption
  · extract_lets -merge +onlyGivenNames x1
    try clear_value x1
    extract_lets -merge +onlyGivenNames x2
    try clear_value x2
    extract_lets -merge +onlyGivenNames x3
    try clear_value x3
    extract_lets -merge +onlyGivenNames x4
    try clear_value x4
    extract_lets -merge +onlyGivenNames x5
    try clear_value x5
    extract_lets -merge +onlyGivenNames x6
    have hx6 : Snd P x6 := by
      refine admitAll_keeps K (bumpBy_keeps K ?_)
      assumption
    clear_value x6
    refine ite_keeps P (fun _ => ?_) (fun _ => ?_)
    · exact of_snd ‹_›
    · refine noStamp_keeps K (of_snd ?_)
      assumption

theorem numberFrame_keeps (K : Keeps P) {h : TxHead} {b : List Byte} {s : State} (hs : P s) :
    P (numberFrame h b s) := by
  unfold numberFrame
  refine ite_keeps P (fun _ => ?_) (fun _ => ?_)
  · extract_lets -merge +onlyGivenNames x1
    try clear_value x1
    extract_lets -merge +onlyGivenNames x2
    try clear_value x2
    extract_lets -merge +onlyGivenNames x3
    try clear_value x3
    exact K.upd ‹_›
  · exact K.upd ‹_›

theorem release_keeps (K : Keeps P) {b : TxBlock} {s : State} (hs : P s) :
    P (release b s) := by
  unfold release
  extract_lets -merge +onlyGivenNames x1
  try clear_value x1
  extract_lets -merge +onlyGivenNames x2
  have hx2 : P x2 := by
    refine ite_keeps P (fun _ => ?_) (fun _ => ?_)
    · assumption
    · refine openFrame_keeps K (numberFrame_keeps K ?_)
      assumption
  clear_value x2
  extract_lets -merge +onlyGivenNames x3
  have hx3 : P x3 := by
    refine each_keeps K (fun _ _ _ => ?_) ?_
    · exact setPort_keeps K ‹_›
    · assumption
  clear_value x3
  exact K.upd ‹_›

theorem releaseAlone_keeps (K : Keeps P) {t : Twin} {b : TxBlock} {s : State} (hs : P s) :
    P (releaseAlone t b s) := by
  unfold releaseAlone
  extract_lets -merge +onlyGivenNames x1
  try clear_value x1
  extract_lets -merge +onlyGivenNames x2
  have hx2 : P x2 := by
    exact setGot_keeps K ‹_›
  clear_value x2
  exact release_keeps K ‹_›

theorem mergeLead_keeps (K : Keeps P) {t : Twin} {bs : List TxBlock} {s : State} (hs : P s) :
    P (mergeLead t bs s) := by
  unfold mergeLead
  split
  · assumption
  · extract_lets -merge +onlyGivenNames x1
    try clear_value x1
    extract_lets -merge +onlyGivenNames x2
    have hx2 : P x2 := by
      refine openFrame_keeps K (numberFrame_keeps K ?_)
      assumption
    clear_value x2
    extract_lets -merge +onlyGivenNames x3
    try clear_value x3
    extract_lets -merge +onlyGivenNames x4
    try clear_value x4
    extract_lets -merge +onlyGivenNames x5
    have hx5 : P x5 := by
      refine ite_keeps P (fun _ => ?_) (fun _ => ?_)
      · refine each_keeps K (fun _ _ _ => ?_) ?_
        · exact unqueue_keeps K ‹_›
        · assumption
      · exact K.upd ‹_›
    clear_value x5
    refine each_keeps K (fun _ _ _ => ?_) ?_
    · exact releaseAlone_keeps K ‹_›
    · exact goAlone_keeps K ‹_›

theorem stomp_keeps (K : Keeps P) {p : Nat} {s : State} (hs : P s) :
    P (stomp p s) := by
  unfold stomp
  refine bump_keeps K (setB_keeps K ?_)
  assumption

theorem stopFrame_keeps (K : Keeps P) {p : Nat} {s : State} (hs : P s) :
    P (stopFrame p s) := by
  unfold stopFrame
  extract_lets -merge +onlyGivenNames x1
  have hx1 : P x1 := by
    exact unqueue_keeps K ‹_›
  clear_value x1
  split
  · refine ite_keeps P (fun _ => ?_) (fun _ => ?_)
    · refine stomp_keeps K (endTx_keeps K ?_)
      assumption
    · assumption
  · assumption

theorem mergeMismatch_keeps (K : Keeps P) {b : TxBlock} {otherDone : Bool} {s : State} (hs : P s) :
    P (mergeMismatch b otherDone s) := by
  unfold mergeMismatch
  extract_lets -merge +onlyGivenNames x1
  try clear_value x1
  extract_lets -merge +onlyGivenNames x2
  try clear_value x2
  extract_lets -merge +onlyGivenNames x3
  have hx3 : P x3 := by
    exact bump_keeps K ‹_›
  clear_value x3
  extract_lets -merge +onlyGivenNames x4
  try clear_value x4
  extract_lets -merge +onlyGivenNames x5
  try clear_value x5
  extract_lets -merge +onlyGivenNames x6
  have hx6 : P x6 := by
    refine ite_keeps P (fun _ => ?_) (fun _ => ?_)
    · refine each_keeps K (fun _ _ _ => ?_) ?_
      · exact stopFrame_keeps K ‹_›
      · assumption
    · exact numberFrame_keeps K ‹_›
  clear_value x6
  extract_lets -merge +onlyGivenNames x7
  have hx7 : P x7 := by
    refine ite_keeps P (fun _ => ?_) (fun _ => ?_)
    · assumption
    · exact openFrame_keeps K ‹_›
  clear_value x7
  extract_lets -merge +onlyGivenNames x8
  try clear_value x8
  extract_lets -merge +onlyGivenNames x9
  try clear_value x9
  extract_lets -merge +onlyGivenNames x10
  have hx10 : P x10 := by
    exact K.upd ‹_›
  clear_value x10
  refine release_keeps K (goAlone_keeps K ?_)
  assumption

theorem mergeSwitch_keeps (K : Keeps P) {s : State} (hs : P s) :
    P (mergeSwitch s) := by
  unfold mergeSwitch
  split
  · assumption
  · extract_lets -merge +onlyGivenNames x1
    try clear_value x1
    extract_lets -merge +onlyGivenNames x2
    try clear_value x2
    extract_lets -merge +onlyGivenNames x3
    have hx3 : P x3 := by
      exact K.upd ‹_›
    clear_value x3
    extract_lets -merge +onlyGivenNames x4
    try clear_value x4
    extract_lets -merge +onlyGivenNames x5
    try clear_value x5
    extract_lets -merge +onlyGivenNames x6
    have hx6 : P x6 := by
      refine ite_keeps P (fun _ => ?_) (fun _ => ?_)
      · refine setSkip_keeps K (K.upd ?_)
        assumption
      · assumption
    clear_value x6
    refine each_keeps K (fun _ _ _ => ?_) ?_
    · exact release_keeps K ‹_›
    · assumption

theorem portHold_keeps (K : Keeps P) {p : Nat} {s : State} (hs : P s) :
    P (portHold p s) := by
  unfold portHold
  extract_lets -merge +onlyGivenNames x1
  have hx1 : Snd P x1 := by
    exact tstApply_keeps K ‹_›
  clear_value x1
  split
  · refine ite_keeps P (fun _ => ?_) (fun _ => ?_)
    · refine bump_keeps K (of_snd ?_)
      assumption
    · refine obeyPause_keeps K (of_snd ?_)
      assumption
  · exact of_snd ‹_›

theorem relay_keeps (K : Keeps P) {f : EthFrame} {s : State} (hs : P s) :
    P (relay f s) := by
  unfold relay
  extract_lets -merge +onlyGivenNames x1
  try clear_value x1
  refine ite_keeps P (fun _ => ?_) (fun _ => ?_)
  · assumption
  · extract_lets -merge +onlyGivenNames x2
    try clear_value x2
    extract_lets -merge +onlyGivenNames x3
    try clear_value x3
    extract_lets -merge +onlyGivenNames x4
    try clear_value x4
    extract_lets -merge +onlyGivenNames x5
    try clear_value x5
    extract_lets -merge +onlyGivenNames x6
    try clear_value x6
    extract_lets -merge +onlyGivenNames x7
    have hx7 : P x7 := by
      exact K.upd ‹_›
    clear_value x7
    refine bump_keeps K (each_keeps K (fun _ _ _ => ?_) ?_)
    · extract_lets -merge +onlyGivenNames x8
      have hx8 : Snd P x8 := by
        exact admitTx_keeps K ‹_›
      clear_value x8
      refine ite_keeps P (fun _ => ?_) (fun _ => ?_)
      · extract_lets -merge +onlyGivenNames x9
        try clear_value x9
        refine judgeHead_keeps K (setPort_keeps K ?_)
        exact of_snd ‹_›
      · exact of_snd ‹_›
    · assumption

theorem rxDeliver_keeps (K : Keeps P) {p : Nat} {f : EthFrame} {raw : Word} {s : State} (hs : P s) :
    P (rxDeliver p f raw s) := by
  unfold rxDeliver
  refine ite_keeps P (fun _ => ?_) (fun _ => ?_)
  · exact bump_keeps K ‹_›
  · exact capture_keeps K ‹_›

theorem rxStamp_keeps (K : Keeps P) {p : Nat} {s : State} (hs : P s) :
    Snd P (rxStamp p s) := by
  unfold rxStamp
  exact shiftedStamp_keeps K ‹_›

theorem startTx_keeps (K : Keeps P) {p : Nat} {e : TxEnt} {s : State} (hs : P s) :
    P (startTx p e s) := by
  unfold startTx
  extract_lets -merge +onlyGivenNames x1
  try clear_value x1
  refine judgeHead_keeps K (setPort_keeps K ?_)
  assumption

theorem stompForward_keeps (K : Keeps P) {p : Nat} {f : EthFrame} {s : State} (hs : P s) :
    P (stompForward p f s) := by
  unfold stompForward
  extract_lets -merge +onlyGivenNames x1
  try clear_value x1
  refine ite_keeps P (fun _ => ?_) (fun _ => ?_)
  · refine stomp_keeps K (emit_keeps K ?_)
    assumption
  · assumption

theorem takeBlock_keeps (K : Keeps P) {t : Twin} {b : TxBlock} {s : State} (hs : P s) :
    P (takeBlock t b s) := by
  unfold takeBlock
  refine ite_keeps P (fun _ => ?_) (fun _ => ?_)
  · extract_lets -merge +onlyGivenNames x1
    have hx1 : P x1 := by
      exact setGot_keeps K ‹_›
    clear_value x1
    refine ite_keeps P (fun _ => ?_) (fun _ => ?_)
    · exact setSkip_keeps K ‹_›
    · assumption
  · refine ite_keeps P (fun _ => ?_) (fun _ => ?_)
    · exact releaseAlone_keeps K ‹_›
    · extract_lets -merge +onlyGivenNames x2
      have hx2 : Snd P x2 := by
        exact copyFlipped_keeps K ‹_›
      clear_value x2
      extract_lets -merge +onlyGivenNames x3
      have hx3 : P x3 := by
        exact of_snd ‹_›
      clear_value x3
      extract_lets -merge +onlyGivenNames x4
      try clear_value x4
      extract_lets -merge +onlyGivenNames x5
      try clear_value x5
      extract_lets -merge +onlyGivenNames x6
      try clear_value x6
      extract_lets -merge +onlyGivenNames x7
      try clear_value x7
      extract_lets -merge +onlyGivenNames x8
      try clear_value x8
      extract_lets -merge +onlyGivenNames x9
      have hx9 : P x9 := by
        exact K.upd ‹_›
      clear_value x9
      split
      · refine routeDiff_keeps K (ite_keeps P (fun _ => ?_) (fun _ => ?_))
        · exact mergeMismatch_keeps K ‹_›
        · exact release_keeps K ‹_›
      · refine routeDiff_keeps K (each_keeps K (fun _ _ _ => ?_) ?_)
        · exact release_keeps K ‹_›
        · assumption
      · refine each_keeps K (fun _ _ _ => ?_) ?_
        · exact release_keeps K ‹_›
        · assumption

/-! DrvOps -/

theorem setSlice_keeps (K : Keeps P) {n : Nat} {x : Slice} {s : State} (hs : P s) :
    P (setSlice n x s) := by
  unfold setSlice
  exact K.upd ‹_›

theorem noteBlankAt_keeps (K : Keeps P) {n : Nat} {w : Nat} {s : State} (hs : P s) :
    P (noteBlankAt n w s) := by
  unfold noteBlankAt
  extract_lets -merge +onlyGivenNames x1
  try clear_value x1
  extract_lets -merge +onlyGivenNames x2
  have hx2 : P x2 := by
    refine ite_keeps P (fun _ => ?_) (fun _ => ?_)
    · exact setSlice_keeps K ‹_›
    · assumption
  clear_value x2
  refine ite_keeps P (fun _ => ?_) (fun _ => ?_)
  · refine drawn_keeps K (drawn_keeps K ?_)
    assumption
  · assumption

theorem takeRef_keeps (K : Keeps P) {n : Nat} {w : Nat} {left : Nat} {r : Ref} {s : State} (hs : P s) :
    P (takeRef n w left r s) := by
  unfold takeRef
  extract_lets -merge +onlyGivenNames x1
  have hx1 : P x1 := by
    exact noteBlankAt_keeps K ‹_›
  clear_value x1
  extract_lets -merge +onlyGivenNames x2
  try clear_value x2
  refine noteBlankAt_keeps K (setSlice_keeps K ?_)
  assumption

theorem applyRef_keeps (K : Keeps P) {n : Nat} {us : Nat} {r : Ref} {s : State} (hs : P s) :
    P (applyRef n us r s) := by
  unfold applyRef
  exact takeRef_keeps K ‹_›

theorem ownDrawn_keeps (K : Keeps P) {m : Nat} {s : State} (hs : P s) :
    P (ownDrawn m s) := by
  unfold ownDrawn
  refine ite_keeps P (fun _ => ?_) (fun _ => ?_)
  · exact drawn_keeps K ‹_›
  · assumption

theorem arrive_keeps (K : Keeps P) {n : Nat} {us : List Nat} {r : Ref} {s : State} (hs : P s) :
    P (arrive n us r s) := by
  unfold arrive
  refine ite_keeps P (fun _ => ?_) (fun _ => ?_)
  · refine each_keeps K (fun _ _ _ => ?_) ?_
    · refine applyRef_keeps K (ownDrawn_keeps K ?_)
      assumption
    · assumption
  · assumption

theorem drvFaultIrq_keeps (K : Keeps P) {n : Nat} {s : State} (hs : P s) :
    P (drvFaultIrq n s) := by
  unfold drvFaultIrq
  refine ite_keeps P (fun _ => ?_) (fun _ => ?_)
  · exact raise_keeps K ‹_›
  · assumption

theorem setFault_keeps (K : Keeps P) {n : Nat} {i : Nat} {s : State} (hs : P s) :
    P (setFault n i s) := by
  unfold setFault
  refine drvFaultIrq_keeps K (setF_keeps K ?_)
  assumption

theorem openPhase_keeps (K : Keeps P) {n : Nat} {phaseB : Bool} {s : State} (hs : P s) :
    P (openPhase n phaseB s) := by
  unfold openPhase
  extract_lets -merge +onlyGivenNames x1
  try clear_value x1
  refine ite_keeps P (fun _ => ?_) (fun _ => ?_)
  · extract_lets -merge +onlyGivenNames x2
    try clear_value x2
    extract_lets -merge +onlyGivenNames x3
    have hx3 : P x3 := by
      exact setSlice_keeps K ‹_›
    clear_value x3
    extract_lets -merge +onlyGivenNames x4
    have hx4 : P x4 := by
      refine addF_keeps K (setFault_keeps K ?_)
      assumption
    clear_value x4
    refine ite_keeps P (fun _ => ?_) (fun _ => ?_)
    · refine setFault_keeps K (setSlice_keeps K ?_)
      assumption
    · assumption
  · assumption

theorem detectLatent_keeps (K : Keeps P) {n : Nat} {s : State} (hs : P s) :
    P (detectLatent n s) := by
  unfold detectLatent
  extract_lets -merge +onlyGivenNames x1
  try clear_value x1
  extract_lets -merge +onlyGivenNames x2
  have hx2 : P x2 := by
    exact setSlice_keeps K ‹_›
  clear_value x2
  extract_lets -merge +onlyGivenNames x3
  have hx3 : P x3 := by
    refine ite_keeps P (fun _ => ?_) (fun _ => ?_)
    · exact openPhase_keeps K ‹_›
    · assumption
  clear_value x3
  refine ite_keeps P (fun _ => ?_) (fun _ => ?_)
  · exact openPhase_keeps K ‹_›
  · assumption

theorem toBias_keeps (K : Keeps P) {n : Nat} {fresh : Bool} {retest : Bool} {s : State} (hs : P s) :
    P (toBias n fresh retest s) := by
  unfold toBias
  extract_lets -merge +onlyGivenNames x1
  try clear_value x1
  extract_lets -merge +onlyGivenNames x2
  try clear_value x2
  extract_lets -merge +onlyGivenNames x3
  have hx3 : P x3 := by
    exact setSlice_keeps K ‹_›
  clear_value x3
  refine ite_keeps P (fun _ => ?_) (fun _ => ?_)
  · refine setFault_keeps K (setSlice_keeps K ?_)
    assumption
  · exact detectLatent_keeps K ‹_›

theorem waitJ1_keeps (K : Keeps P) {n : Nat} {s : State} (hs : P s) :
    P (waitJ1 n s) := by
  unfold waitJ1
  split
  · exact setSlice_keeps K ‹_›
  · exact setSlice_keeps K ‹_›
  · exact setSlice_keeps K ‹_›
  · exact setSlice_keeps K ‹_›
  · assumption

theorem biasOrWait_keeps (K : Keeps P) {n : Nat} {fresh : Bool} {retest : Bool} {s : State} (hs : P s) :
    P (biasOrWait n fresh retest s) := by
  unfold biasOrWait
  extract_lets -merge +onlyGivenNames x1
  have hx1 : P x1 := by
    exact toBias_keeps K ‹_›
  clear_value x1
  refine ite_keeps P (fun _ => ?_) (fun _ => ?_)
  · assumption
  · exact waitJ1_keeps K ‹_›

end Sys2Proof.Machine
end

