-- ==== Sys2Proof/Laws/Keeps2.lean ====
section
/-! SUPPORT. What every operation of the model keeps, continued: the operations of DrvOps, RfxOps, CalOps, MtrOps, Mtr, AirOps, Air. -/

namespace Sys2Proof.Machine

variable {P : State → Prop}

/-! DrvOps -/

theorem fullScale_keeps (K : Keeps P) {s : State} (hs : P s) :
    P (fullScale s) := by
  unfold fullScale
  refine setB_keeps K (setB_keeps K ?_)
  exact K.upd ‹_›

theorem driveFall_keeps (K : Keeps P) {s : State} (hs : P s) :
    P (driveFall s) := by
  unfold driveFall
  refine fullScale_keeps K (each_keeps K (fun _ _ _ => ?_) ?_)
  · exact setSlice_keeps K ‹_›
  · exact K.upd ‹_›

theorem riseChannel_keeps (K : Keeps P) {n : Nat} {s : State} (hs : P s) :
    P (riseChannel n s) := by
  unfold riseChannel
  extract_lets -merge +onlyGivenNames x1
  try clear_value x1
  extract_lets -merge +onlyGivenNames x2
  try clear_value x2
  extract_lets -merge +onlyGivenNames x3
  have hx3 : P x3 := by
    exact ownDrawn_keeps K ‹_›
  clear_value x3
  extract_lets -merge +onlyGivenNames x4
  try clear_value x4
  extract_lets -merge +onlyGivenNames x5
  have hx5 : P x5 := by
    exact K.upd ‹_›
  clear_value x5
  refine ite_keeps P (fun _ => ?_) (fun _ => ?_)
  · exact setSlice_keeps K ‹_›
  · refine ite_keeps P (fun _ => ?_) (fun _ => ?_)
    · refine toBias_keeps K (setSlice_keeps K ?_)
      assumption
    · exact setSlice_keeps K ‹_›

theorem driveRise_keeps (K : Keeps P) {s : State} (hs : P s) :
    P (driveRise s) := by
  unfold driveRise
  refine each_keeps K (fun _ _ _ => ?_) ?_
  · exact riseChannel_keeps K ‹_›
  · refine fullScale_keeps K (K.upd ?_)
    assumption

theorem followEnable_keeps (K : Keeps P) {n : Nat} {s : State} (hs : P s) :
    P (followEnable n s) := by
  unfold followEnable
  extract_lets -merge +onlyGivenNames x1
  try clear_value x1
  refine ite_keeps P (fun _ => ?_) (fun _ => ?_)
  · assumption
  · refine ite_keeps P (fun _ => ?_) (fun _ => ?_)
    · refine ite_keeps P (fun _ => ?_) (fun _ => ?_)
      · refine ite_keeps P (fun _ => ?_) (fun _ => ?_)
        · exact toBias_keeps K ‹_›
        · exact setSlice_keeps K ‹_›
      · assumption
    · refine ite_keeps P (fun _ => ?_) (fun _ => ?_)
      · assumption
      · exact setSlice_keeps K ‹_›

theorem joinLead_keeps (K : Keeps P) {was : Nat} {n : Nat} {s : State} (hs : P s) :
    P (joinLead was n s) := by
  unfold joinLead
  refine ite_keeps P (fun _ => ?_) (fun _ => ?_)
  · extract_lets -merge +onlyGivenNames x1
    try clear_value x1
    extract_lets -merge +onlyGivenNames x2
    have hx2 : P x2 := by
      exact ownDrawn_keeps K ‹_›
    clear_value x2
    refine takeRef_keeps K (drawn_keeps K ?_)
    exact drawn_keeps K ‹_›
  · assumption

theorem mitreOut_keeps (K : Keeps P) {n : Nat} {r : Ref} {s : State} (hs : P s) :
    P (mitreOut n r s) := by
  unfold mitreOut
  extract_lets -merge +onlyGivenNames x1
  try clear_value x1
  exact K.upd ‹_›

theorem workDrawn_keeps (K : Keeps P) {n : Nat} {s : State} (hs : P s) :
    P (workDrawn n s) := by
  unfold workDrawn
  refine ite_keeps P (fun _ => ?_) (fun _ => ?_)
  · exact drawn_keeps K ‹_›
  · assumption

theorem noteBlank_keeps (K : Keeps P) {n : Nat} {s : State} (hs : P s) :
    P (noteBlank n s) := by
  unfold noteBlank
  extract_lets -merge +onlyGivenNames x1
  have hx1 : P x1 := by
    exact noteBlankAt_keeps K ‹_›
  clear_value x1
  refine ite_keeps P (fun _ => ?_) (fun _ => ?_)
  · assumption
  · exact workDrawn_keeps K ‹_›

theorem safeRamp_keeps (K : Keeps P) {n : Nat} {s : State} (hs : P s) :
    P (safeRamp n s) := by
  unfold safeRamp
  extract_lets -merge +onlyGivenNames x1
  try clear_value x1
  extract_lets -merge +onlyGivenNames x2
  try clear_value x2
  extract_lets -merge +onlyGivenNames x3
  have hx3 : P x3 := by
    exact workDrawn_keeps K ‹_›
  clear_value x3
  refine setSlice_keeps K (K.upd ?_)
  assumption

/-! RfxOps -/

theorem keepLatest_keeps (K : Keeps P) {n : Nat} {r : Ref} {s : State} (hs : P s) :
    P (keepLatest n r s) := by
  unfold keepLatest
  exact K.upd ‹_›

theorem withhold_keeps (K : Keeps P) {n : Nat} {s : State} (hs : P s) :
    P (withhold n s) := by
  unfold withhold
  refine bump_keeps K (setB_keeps K ?_)
  assumption

theorem mitreChoice_keeps (K : Keeps P) {n : Nat} {twin : Option Ref} {fab : Option Ref} {s : State} (hs : P s) :
    P (mitreChoice n twin fab s) := by
  unfold mitreChoice
  extract_lets -merge +onlyGivenNames x1
  try clear_value x1
  extract_lets -merge +onlyGivenNames x2
  have hx2 : P x2 := by
    unfold x2
    split
    · exact keepLatest_keeps K ‹_›
    · assumption
  clear_value x2
  split
  · refine mitreOut_keeps K (ite_keeps P (fun _ => ?_) (fun _ => ?_))
    · exact withhold_keeps K ‹_›
    · exact bump_keeps K ‹_›
  · exact mitreOut_keeps K ‹_›
  · refine ite_keeps P (fun _ => ?_) (fun _ => ?_)
    · exact withhold_keeps K ‹_›
    · exact mitreOut_keeps K ‹_›
  · assumption

theorem clearLock_keeps (K : Keeps P) {n : Nat} {s : State} (hs : P s) :
    P (clearLock n s) := by
  unfold clearLock
  exact setR_keeps K ‹_›

theorem setLock_keeps (K : Keeps P) {n : Nat} {prio : Nat} {s : State} (hs : P s) :
    P (setLock n prio s) := by
  unfold setLock
  exact setR_keeps K ‹_›

theorem actOn_keeps (K : Keeps P) {x : Contender} {s : State} (hs : P s) :
    Snd P (actOn x s) := by
  unfold actOn
  extract_lets -merge +onlyGivenNames x1
  try clear_value x1
  extract_lets -merge +onlyGivenNames x2
  try clear_value x2
  refine ite_keeps (Snd P) (fun _ => ?_) (fun _ => ?_)
  · refine ite_keeps (Snd P) (fun _ => ?_) (fun _ => ?_)
    · refine snd_mk (ite_keeps P (fun _ => ?_) (fun _ => ?_))
      · exact setLock_keeps K ‹_›
      · assumption
    · refine snd_mk (bump_keeps K ?_)
      assumption
  · extract_lets -merge +onlyGivenNames x3
    have hx3 : P x3 := by
      exact clearLock_keeps K ‹_›
    clear_value x3
    refine ite_keeps (Snd P) (fun _ => ?_) (fun _ => ?_)
    · refine snd_mk ?_
      split
      · exact mitreOut_keeps K ‹_›
      · assumption
    · exact snd_mk ‹_›

theorem actChannel_keeps (K : Keeps P) {xs : List Contender} {twins : List (Nat × Ref)} {n : Nat} {s : State} (hs : P s) :
    P (actChannel xs twins n s) := by
  unfold actChannel
  extract_lets -merge +onlyGivenNames x1
  try clear_value x1
  split
  · exact mitreChoice_keeps K ‹_›
  · refine ite_keeps P (fun _ => ?_) (fun _ => ?_)
    · refine mitreChoice_keeps K (clearLock_keeps K ?_)
      assumption
    · extract_lets -merge +onlyGivenNames x2
      have hx2 : Snd P x2 := by
        exact actOn_keeps K ‹_›
      clear_value x2
      refine mitreChoice_keeps K (of_snd ?_)
      assumption

theorem actTimer_keeps (K : Keeps P) {c : Cell} {s : State} (hs : P s) :
    P (actTimer c s) := by
  unfold actTimer
  extract_lets -merge +onlyGivenNames x1
  try clear_value x1
  extract_lets -merge +onlyGivenNames x2
  try clear_value x2
  extract_lets -merge +onlyGivenNames x3
  have hx3 : P x3 := by
    exact K.upd ‹_›
  clear_value x3
  refine ite_keeps P (fun _ => ?_) (fun _ => ?_)
  · exact setR_keeps K ‹_›
  · refine ite_keeps P (fun _ => ?_) (fun _ => ?_)
    · assumption
    · exact setR_keeps K ‹_›

theorem takeLevels_keeps (K : Keeps P) {ns : List Nat} {s : State} (hs : P s) :
    Snd P (takeLevels ns s) := by
  unfold takeLevels
  refine foldl_keeps (Snd P) (fun _ _ _ => ?_) ?_
  · extract_lets -merge +onlyGivenNames x1
    try clear_value x1
    refine ite_keeps (Snd P) (fun _ => ?_) (fun _ => ?_)
    · assumption
    · refine snd_mk ?_
      extract_lets -merge +onlyGivenNames x2
      have hx2 : P x2 := by
        exact of_snd ‹_›
      clear_value x2
      exact K.upd ‹_›
  · exact snd_mk ‹_›

theorem setPins_keeps (K : Keeps P) {edges : List (Nat × Bool)} {s : State} (hs : P s) :
    P (setPins edges s) := by
  unfold setPins
  refine each_keeps K (fun _ _ _ => ?_) ?_
  · exact K.upd ‹_›
  · assumption

theorem setArmed_keeps (K : Keeps P) {c : Nat} {b : Bool} {s : State} (hs : P s) :
    P (setArmed c b s) := by
  unfold setArmed
  exact setB_keeps K ‹_›

theorem testCell_keeps (K : Keeps P) {e : RfxEvent} {n : Nat} {a : List Hit × State} (ha : Snd P a) :
    Snd P (testCell e n a) := by
  unfold testCell
  extract_lets -merge +onlyGivenNames x1
  try clear_value x1
  refine ite_keeps (Snd P) (fun _ => ?_) (fun _ => ?_)
  · split
    · refine ite_keeps (Snd P) (fun _ => ?_) (fun _ => ?_)
      · refine ite_keeps (Snd P) (fun _ => ?_) (fun _ => ?_)
        · refine snd_mk (of_snd ?_)
          assumption
        · assumption
      · refine ite_keeps (Snd P) (fun _ => ?_) (fun _ => ?_)
        · refine ite_keeps (Snd P) (fun _ => ?_) (fun _ => ?_)
          · refine ite_keeps (Snd P) (fun _ => ?_) (fun _ => ?_)
            · refine snd_mk (setArmed_keeps K ?_)
              exact of_snd ‹_›
            · assumption
          · refine ite_keeps (Snd P) (fun _ => ?_) (fun _ => ?_)
            · refine snd_mk (setArmed_keeps K ?_)
              exact of_snd ‹_›
            · assumption
        · assumption
    · refine ite_keeps (Snd P) (fun _ => ?_) (fun _ => ?_)
      · refine snd_mk (of_snd ?_)
        assumption
      · assumption
  · assumption

theorem matchCells_keeps (K : Keeps P) {es : List RfxEvent} {s : State} (hs : P s) :
    Snd P (matchCells es s) := by
  unfold matchCells
  refine foldl_keeps (Snd P) (fun _ _ _ => ?_) ?_
  · refine foldl_keeps (Snd P) (fun _ _ _ => ?_) ?_
    · exact testCell_keeps K ‹_›
    · assumption
  · exact snd_mk ‹_›

theorem recordLoss_keeps (K : Keeps P) {ls : List Collision} {s : State} (hs : P s) :
    P (recordLoss ls s) := by
  unfold recordLoss
  split
  · assumption
  · extract_lets -merge +onlyGivenNames x1
    try clear_value x1
    refine raise_keeps K (bumpBy_keeps K ?_)
    exact setR_keeps K ‹_›

theorem runHits_keeps (K : Keeps P) {hits : List Hit} {expired : List Nat} {twins : List (Nat × Ref)} {s : State} (hs : P s) :
    Snd P (runHits hits expired twins s) := by
  unfold runHits
  extract_lets -merge +onlyGivenNames x1
  try clear_value x1
  extract_lets -merge +onlyGivenNames x2
  try clear_value x2
  extract_lets -merge +onlyGivenNames x3
  try clear_value x3
  extract_lets -merge +onlyGivenNames x4
  try clear_value x4
  extract_lets -merge +onlyGivenNames x5
  have hx5 : P x5 := by
    refine each_keeps K (fun _ _ _ => ?_) ?_
    · exact actChannel_keeps K ‹_›
    · assumption
  clear_value x5
  extract_lets -merge +onlyGivenNames x6
  try clear_value x6
  extract_lets -merge +onlyGivenNames x7
  try clear_value x7
  extract_lets -merge +onlyGivenNames x8
  try clear_value x8
  extract_lets -merge +onlyGivenNames x9
  try clear_value x9
  extract_lets -merge +onlyGivenNames x10
  try clear_value x10
  extract_lets -merge +onlyGivenNames x11
  try clear_value x11
  extract_lets -merge +onlyGivenNames x12
  try clear_value x12
  extract_lets -merge +onlyGivenNames x13
  have hx13 : P x13 := by
    refine each_keeps K (fun _ _ _ => ?_) ?_
    · exact actChannel_keeps K ‹_›
    · assumption
  clear_value x13
  extract_lets -merge +onlyGivenNames x14
  have hx14 : P x14 := by
    refine each_keeps K (fun _ _ _ => ?_) ?_
    · exact actTimer_keeps K ‹_›
    · assumption
  clear_value x14
  extract_lets -merge +onlyGivenNames x15
  have hx15 : P x15 := by
    exact bumpBy_keeps K ‹_›
  clear_value x15
  extract_lets -merge +onlyGivenNames x16
  have hx16 : P x16 := by
    exact recordLoss_keeps K ‹_›
  clear_value x16
  extract_lets -merge +onlyGivenNames x17
  have hx17 : P x17 := by
    refine ite_keeps P (fun _ => ?_) (fun _ => ?_)
    · assumption
    · refine raise_keeps K (bumpBy_keeps K ?_)
      assumption
  clear_value x17
  extract_lets -merge +onlyGivenNames x18
  try clear_value x18
  extract_lets -merge +onlyGivenNames x19
  try clear_value x19
  extract_lets -merge +onlyGivenNames x20
  try clear_value x20
  extract_lets -merge +onlyGivenNames x21
  try clear_value x21
  extract_lets -merge +onlyGivenNames x22
  try clear_value x22
  extract_lets -merge +onlyGivenNames x23
  have hx23 : P x23 := by
    refine ite_keeps P (fun _ => ?_) (fun _ => ?_)
    · assumption
    · exact capture_keeps K ‹_›
  clear_value x23
  exact snd_mk ‹_›

theorem runNext_keeps (K : Keeps P) {unlocked : List Nat} {s : State} (hs : P s) :
    P (runNext unlocked s) := by
  unfold runNext
  refine ite_keeps P (fun _ => ?_) (fun _ => ?_)
  · assumption
  · refine of_snd (runHits_keeps K ?_)
    assumption

theorem runCycle_keeps (K : Keeps P) {es : List RfxEvent} {twins : List (Nat × Ref)} {s : State} (hs : P s) :
    P (runCycle es twins s) := by
  unfold runCycle
  extract_lets -merge +onlyGivenNames x1
  have hx1 : Snd P x1 := by
    exact matchCells_keeps K ‹_›
  clear_value x1
  extract_lets -merge +onlyGivenNames x2
  try clear_value x2
  extract_lets -merge +onlyGivenNames x3
  have hx3 : Snd P x3 := by
    refine runHits_keeps K (of_snd ?_)
    assumption
  clear_value x3
  refine runNext_keeps K (of_snd ?_)
  assumption

theorem startClock_keeps (K : Keeps P) {es : List RfxEvent} {s : State} (hs : P s) :
    P (startClock es s) := by
  unfold startClock
  refine ite_keeps P (fun _ => ?_) (fun _ => ?_)
  · assumption
  · exact setB_keeps K ‹_›

theorem fabEvents_keeps (K : Keeps P) {es : List RfxEvent} {twins : List (Nat × Ref)} {s : State} (hs : P s) :
    P (fabEvents es twins s) := by
  unfold fabEvents
  refine ite_keeps P (fun _ => ?_) (fun _ => ?_)
  · refine runCycle_keeps K (startClock_keeps K ?_)
    assumption
  · refine each_keeps K (fun _ _ _ => ?_) ?_
    · exact mitreChoice_keeps K ‹_›
    · assumption

theorem prsCycle_keeps (K : Keeps P) {edges : List (Nat × Bool)} {twins : List (Nat × Ref)} {s : State} (hs : P s) :
    P (prsCycle edges twins s) := by
  unfold prsCycle
  extract_lets -merge +onlyGivenNames x1
  have hx1 : Snd P x1 := by
    refine takeLevels_keeps K (setPins_keeps K ?_)
    assumption
  clear_value x1
  refine fabEvents_keeps K (of_snd ?_)
  assumption

theorem twoCycles_keeps (K : Keeps P) {first : List (Nat × Bool)} {second : List (Nat × Bool)} {twins : List (Nat × Ref)} {s : State} (hs : P s) :
    P (twoCycles first second twins s) := by
  unfold twoCycles
  extract_lets -merge +onlyGivenNames x1
  have hx1 : Snd P x1 := by
    refine takeLevels_keeps K (setPins_keeps K ?_)
    assumption
  clear_value x1
  extract_lets -merge +onlyGivenNames x2
  have hx2 : Snd P x2 := by
    refine matchCells_keeps K (startClock_keeps K ?_)
    exact of_snd ‹_›
  clear_value x2
  extract_lets -merge +onlyGivenNames x3
  have hx3 : Snd P x3 := by
    refine runHits_keeps K (of_snd ?_)
    assumption
  clear_value x3
  extract_lets -merge +onlyGivenNames x4
  have hx4 : Snd P x4 := by
    refine takeLevels_keeps K (setPins_keeps K ?_)
    exact of_snd ‹_›
  clear_value x4
  extract_lets -merge +onlyGivenNames x5
  have hx5 : Snd P x5 := by
    refine matchCells_keeps K (startClock_keeps K ?_)
    exact of_snd ‹_›
  clear_value x5
  extract_lets -merge +onlyGivenNames x6
  have hx6 : Snd P x6 := by
    refine runHits_keeps K (of_snd ?_)
    assumption
  clear_value x6
  refine runNext_keeps K (of_snd ?_)
  assumption

theorem coldEdges_keeps (K : Keeps P) {edges : List (Nat × Bool)} {twins : List (Nat × Ref)} {s : State} (hs : P s) :
    P (coldEdges edges twins s) := by
  unfold coldEdges
  extract_lets -merge +onlyGivenNames x1
  try clear_value x1
  extract_lets -merge +onlyGivenNames x2
  try clear_value x2
  extract_lets -merge +onlyGivenNames x3
  try clear_value x3
  extract_lets -merge +onlyGivenNames x4
  try clear_value x4
  extract_lets -merge +onlyGivenNames x5
  try clear_value x5
  extract_lets -merge +onlyGivenNames x6
  have hx6 : P x6 := by
    exact bumpBy_keeps K ‹_›
  clear_value x6
  refine ite_keeps P (fun _ => ?_) (fun _ => ?_)
  · exact prsCycle_keeps K ‹_›
  · exact twoCycles_keeps K ‹_›

theorem edgeReports_keeps (K : Keeps P) {edges : List (Nat × Bool)} {s : State} (hs : P s) :
    P (edgeReports edges s) := by
  unfold edgeReports
  extract_lets -merge +onlyGivenNames x1
  try clear_value x1
  extract_lets -merge +onlyGivenNames x2
  have hx2 : P x2 := by
    refine each_keeps K (fun _ _ _ => ?_) ?_
    · exact capture_keeps K ‹_›
    · assumption
  clear_value x2
  refine ite_keeps P (fun _ => ?_) (fun _ => ?_)
  · exact wakeSource_keeps K ‹_›
  · assumption

theorem fabTicks_keeps (K : Keeps P) {lines : List Nat} {s : State} (hs : P s) :
    P (fabTicks lines s) := by
  unfold fabTicks
  refine ite_keeps P (fun _ => ?_) (fun _ => ?_)
  · exact fabEvents_keeps K ‹_›
  · assumption

theorem presence_keeps (K : Keeps P) {edges : List (Nat × Bool)} {twins : List (Nat × Ref)} {s : State} (hs : P s) :
    P (presence edges twins s) := by
  unfold presence
  refine ite_keeps P (fun _ => ?_) (fun _ => ?_)
  · exact coldEdges_keeps K ‹_›
  · exact prsCycle_keeps K ‹_›

/-! CalOps -/

theorem almFire_keeps (K : Keeps P) {a : Nat} {crossed : Bool} {rep : Bool} {s : State} (hs : P s) :
    P (almFire a crossed rep s) := by
  unfold almFire
  extract_lets -merge +onlyGivenNames x1
  have hx1 : P x1 := by
    refine setB_keeps K (setB_keeps K ?_)
    exact setF_keeps K ‹_›
  clear_value x1
  extract_lets -merge +onlyGivenNames x2
  have hx2 : P x2 := by
    refine raise_keeps K (bump_keeps K ?_)
    assumption
  clear_value x2
  refine ite_keeps P (fun _ => ?_) (fun _ => ?_)
  · assumption
  · exact wakeSource_keeps K ‹_›

theorem almFree_keeps (K : Keeps P) {a : Nat} {s : State} (hs : P s) :
    P (almFree a s) := by
  unfold almFree
  extract_lets -merge +onlyGivenNames x1
  have hx1 : P x1 := by
    exact drawn_keeps K ‹_›
  clear_value x1
  refine ite_keeps P (fun _ => ?_) (fun _ => ?_)
  · exact almFire_keeps K ‹_›
  · assumption

theorem almBoundary_keeps (K : Keeps P) {s : State} (hs : P s) :
    P (almBoundary s) := by
  unfold almBoundary
  refine ite_keeps P (fun _ => ?_) (fun _ => ?_)
  · refine almFree_keeps K (almFree_keeps K ?_)
    assumption
  · extract_lets -merge +onlyGivenNames x1
    try clear_value x1
    extract_lets -merge +onlyGivenNames x2
    try clear_value x2
    extract_lets -merge +onlyGivenNames x3
    try clear_value x3
    extract_lets -merge +onlyGivenNames x4
    try clear_value x4
    extract_lets -merge +onlyGivenNames x5
    have hx5 : P x5 := by
      exact K.upd ‹_›
    clear_value x5
    extract_lets -merge +onlyGivenNames x6
    have hx6 : P x6 := by
      refine ite_keeps P (fun _ => ?_) (fun _ => ?_)
      · exact almFire_keeps K ‹_›
      · assumption
    clear_value x6
    refine ite_keeps P (fun _ => ?_) (fun _ => ?_)
    · exact almFire_keeps K ‹_›
    · assumption

theorem almStep_keeps (K : Keeps P) {a : Nat} {p0 : Int} {p1 : Int} {mark : Int} {w0 : Nat} {s : State} (hs : P s) :
    P (almStep a p0 p1 mark w0 s) := by
  unfold almStep
  extract_lets -merge +onlyGivenNames x1
  try clear_value x1
  extract_lets -merge +onlyGivenNames x2
  try clear_value x2
  extract_lets -merge +onlyGivenNames x3
  try clear_value x3
  extract_lets -merge +onlyGivenNames x4
  try clear_value x4
  refine ite_keeps P (fun _ => ?_) (fun _ => ?_)
  · exact almFire_keeps K ‹_›
  · assumption

theorem atInstant_keeps (K : Keeps P) {e : Nat} {s : State} (hs : P s) :
    P (atInstant e s) := by
  unfold atInstant
  refine ite_keeps P (fun _ => ?_) (fun _ => ?_)
  · exact K.upd ‹_›
  · assumption

theorem setCalSec_keeps (K : Keeps P) {n : Nat} {s : State} (hs : P s) :
    P (setCalSec n s) := by
  unfold setCalSec
  refine setR_keeps K (setR_keeps K ?_)
  assumption

theorem setCalSub_keeps (K : Keeps P) {n : Nat} {s : State} (hs : P s) :
    P (setCalSub n s) := by
  unfold setCalSub
  exact setR_keeps K ‹_›

theorem tstSecond_keeps (K : Keeps P) {s : State} (hs : P s) :
    P (tstSecond s) := by
  unfold tstSecond
  exact setF_keeps K ‹_›

theorem leaseSecond_keeps (K : Keeps P) {s : State} (hs : P s) :
    P (leaseSecond s) := by
  unfold leaseSecond
  refine ite_keeps P (fun _ => ?_) (fun _ => ?_)
  · refine each_keeps K (fun _ _ _ => ?_) ?_
    · refine ite_keeps P (fun _ => ?_) (fun _ => ?_)
      · exact setF_keeps K ‹_›
      · assumption
    · assumption
  · assumption

theorem captureTsu_keeps (K : Keeps P) {cycles : Nat} {s : State} (hs : P s) :
    P (captureTsu cycles s) := by
  unfold captureTsu
  refine ite_keeps P (fun _ => ?_) (fun _ => ?_)
  · extract_lets -merge +onlyGivenNames x1
    have hx1 : P x1 := by
      exact tsuAdvance_keeps K ‹_›
    clear_value x1
    refine setR_keeps K (setR_keeps K ?_)
    assumption
  · exact setF_keeps K ‹_›

theorem freeFields_keeps (K : Keeps P) {s : State} (hs : P s) :
    P (freeFields s) := by
  unfold freeFields
  extract_lets -merge +onlyGivenNames x1
  try clear_value x1
  extract_lets -merge +onlyGivenNames x2
  try clear_value x2
  extract_lets -merge +onlyGivenNames x3
  have hx3 : P x3 := by
    refine setR_keeps K (setR_keeps K ?_)
    refine drawn_keeps K (drawn_keeps K ?_)
    assumption
  clear_value x3
  extract_lets -merge +onlyGivenNames x4
  have hx4 : ∀ a0 a1, P a1 → P (x4 a0 a1) := by
    intro a0 a1 _
    exact spoilLong_keeps K ‹_›
  clear_value x4
  refine hx4 _ _ ?_
  · refine hx4 _ _ ?_
    · refine hx4 _ _ ?_
      · refine hx4 _ _ ?_
        · assumption

theorem wrapBy_keeps (K : Keeps P) {d : Int} {s : State} (hs : P s) :
    P (wrapBy d s) := by
  unfold wrapBy
  refine ite_keeps P (fun _ => ?_) (fun _ => ?_)
  · assumption
  · refine setF_keeps K (K.upd ?_)
    assumption

theorem setFields_keeps (K : Keeps P) {f : CalFields} {s : State} (hs : P s) :
    P (setFields f s) := by
  unfold setFields
  refine setR_keeps K (setR_keeps K ?_)
  assumption

theorem fieldsAdvance_keeps (K : Keeps P) {s : State} (hs : P s) :
    P (fieldsAdvance s) := by
  unfold fieldsAdvance
  extract_lets -merge +onlyGivenNames x1
  try clear_value x1
  extract_lets -merge +onlyGivenNames x2
  try clear_value x2
  extract_lets -merge +onlyGivenNames x3
  try clear_value x3
  refine wrapBy_keeps K (setFields_keeps K ?_)
  assumption

theorem boundary_keeps (K : Keeps P) {sub : Nat} {cycles : Nat} {s : State} (hs : P s) :
    P (boundary sub cycles s) := by
  unfold boundary
  extract_lets -merge +onlyGivenNames x1
  have hx1 : P x1 := by
    refine setCalSec_keeps K (setCalSub_keeps K ?_)
    assumption
  clear_value x1
  extract_lets -merge +onlyGivenNames x2
  have hx2 : P x2 := by
    refine tstSecond_keeps K (leaseSecond_keeps K ?_)
    exact captureTsu_keeps K ‹_›
  clear_value x2
  extract_lets -merge +onlyGivenNames x3
  have hx3 : P x3 := by
    refine almBoundary_keeps K (ite_keeps P (fun _ => ?_) (fun _ => ?_))
    · exact freeFields_keeps K ‹_›
    · exact fieldsAdvance_keeps K ‹_›
  clear_value x3
  refine ite_keeps P (fun _ => ?_) (fun _ => ?_)
  · exact rewriteReport_keeps K ‹_›
  · assumption

theorem calAdvance_keeps (K : Keeps P) {ticks : Nat} {s : State} (hs : P s) :
    P (calAdvance ticks s) := by
  unfold calAdvance
  refine ite_keeps P (fun _ => ?_) (fun _ => ?_)
  · extract_lets -merge +onlyGivenNames x1
    try clear_value x1
    refine setCalSub_keeps K (K.upd ?_)
    assumption
  · assumption

theorem fieldsStep_keeps (K : Keeps P) {d : Int} {land : Option CalFields} {s : State} (hs : P s) :
    P (fieldsStep d land s) := by
  unfold fieldsStep
  extract_lets -merge +onlyGivenNames x1
  try clear_value x1
  extract_lets -merge +onlyGivenNames x2
  try clear_value x2
  extract_lets -merge +onlyGivenNames x3
  try clear_value x3
  extract_lets -merge +onlyGivenNames x4
  try clear_value x4
  extract_lets -merge +onlyGivenNames x5
  try clear_value x5
  extract_lets -merge +onlyGivenNames x6
  have hx6 : P x6 := by
    refine setFields_keeps K (wrapBy_keeps K ?_)
    assumption
  clear_value x6
  extract_lets -merge +onlyGivenNames x7
  try clear_value x7
  extract_lets -merge +onlyGivenNames x8
  try clear_value x8
  extract_lets -merge +onlyGivenNames x9
  have hx9 : P x9 := by
    exact K.upd ‹_›
  clear_value x9
  refine ite_keeps P (fun _ => ?_) (fun _ => ?_)
  · refine almStep_keeps K (almStep_keeps K ?_)
    assumption
  · assumption

theorem hierApplied_keeps (K : Keeps P) {e : Nat} {s : State} (hs : P s) :
    P (hierApplied e s) := by
  unfold hierApplied
  refine ite_keeps P (fun _ => ?_) (fun _ => ?_)
  · exact raise_keeps K ‹_›
  · assumption

theorem phaseEnd_keeps (K : Keeps P) {s : State} (hs : P s) :
    P (phaseEnd s) := by
  unfold phaseEnd
  extract_lets -merge +onlyGivenNames x1
  try clear_value x1
  extract_lets -merge +onlyGivenNames x2
  try clear_value x2
  exact K.upd ‹_›

theorem schAnswer_keeps (K : Keeps P) {e : Nat} {c : Code} {s : State} (hs : P s) :
    P (schAnswer e c s) := by
  unfold schAnswer
  refine setF_keeps K (unspoilLong_keeps K ?_)
  assumption

theorem schAction_keeps (K : Keeps P) {e : Nat} {s : State} (hs : P s) :
    P (schAction e s) := by
  unfold schAction
  extract_lets -merge +onlyGivenNames x1
  try clear_value x1
  extract_lets -merge +onlyGivenNames x2
  try clear_value x2
  split
  · exact schAnswer_keeps K ‹_›
  · refine ite_keeps P (fun _ => ?_) (fun _ => ?_)
    · refine fabTicks_keeps K (schAnswer_keeps K ?_)
      assumption
    · exact schAnswer_keeps K ‹_›
  · refine ite_keeps P (fun _ => ?_) (fun _ => ?_)
    · refine captureReq_keeps K (atInstant_keeps K ?_)
      exact schAnswer_keeps K ‹_›
    · exact schAnswer_keeps K ‹_›
  · extract_lets -merge +onlyGivenNames x3
    try clear_value x3
    refine ite_keeps P (fun _ => ?_) (fun _ => ?_)
    · exact K.upd ‹_›
    · extract_lets -merge +onlyGivenNames x4
      try clear_value x4
      extract_lets -merge +onlyGivenNames x5
      have hx5 : P x5 := by
        refine ite_keeps P (fun _ => ?_) (fun _ => ?_)
        · exact hierApplied_keeps K ‹_›
        · assumption
      clear_value x5
      refine schAnswer_keeps K (raise_keeps K ?_)
      exact pwrIssue_keeps K ‹_›
  · assumption
  · exact spoilLong_keeps K ‹_›

theorem unhand_keeps (K : Keeps P) {e : Nat} {s : State} (hs : P s) :
    P (unhand e s) := by
  unfold unhand
  exact K.upd ‹_›

theorem setSch_keeps (K : Keeps P) {e : Nat} {n : Nat} {s : State} (hs : P s) :
    P (setSch e n s) := by
  unfold setSch
  exact setF_keeps K ‹_›

theorem setSchSec_keeps (K : Keeps P) {e : Nat} {n : Nat} {s : State} (hs : P s) :
    P (setSchSec e n s) := by
  unfold setSchSec
  refine setR_keeps K (setF_keeps K ?_)
  assumption

theorem schAfter_keeps (K : Keeps P) {e : Nat} {n : Nat} {late : Bool} {s : State} (hs : P s) :
    P (schAfter e n late s) := by
  unfold schAfter
  extract_lets -merge +onlyGivenNames x1
  have hx1 : P x1 := by
    exact unhand_keeps K ‹_›
  clear_value x1
  refine ite_keeps P (fun _ => ?_) (fun _ => ?_)
  · exact setSch_keeps K ‹_›
  · refine setSch_keeps K (setSchSec_keeps K ?_)
    assumption

theorem schLate_keeps (K : Keeps P) {e : Nat} {s : State} (hs : P s) :
    P (schLate e s) := by
  unfold schLate
  refine raise_keeps K (bump_keeps K ?_)
  exact schAnswer_keeps K ‹_›

theorem schRelease_keeps (K : Keeps P) {e : Nat} {s : State} (hs : P s) :
    P (schRelease e s) := by
  unfold schRelease
  refine schAction_keeps K (ite_keeps P (fun _ => ?_) (fun _ => ?_))
  · exact wakeSource_keeps K ‹_›
  · assumption

theorem schJudge_keeps (K : Keeps P) {e : Nat} {s : State} (hs : P s) :
    P (schJudge e s) := by
  unfold schJudge
  extract_lets -merge +onlyGivenNames x1
  try clear_value x1
  extract_lets -merge +onlyGivenNames x2
  try clear_value x2
  extract_lets -merge +onlyGivenNames x3
  try clear_value x3
  extract_lets -merge +onlyGivenNames x4
  have hx4 : P x4 := by
    exact bumpBy_keeps K ‹_›
  clear_value x4
  refine schAfter_keeps K (ite_keeps P (fun _ => ?_) (fun _ => ?_))
  · exact schLate_keeps K ‹_›
  · exact schRelease_keeps K ‹_›

theorem schReset_keeps (K : Keeps P) {e : Nat} {s : State} (hs : P s) :
    P (schReset e s) := by
  unfold schReset
  refine ite_keeps P (fun _ => ?_) (fun _ => ?_)
  · split
    · refine schAnswer_keeps K (resetRequest_keeps K ?_)
      assumption
    · exact schAnswer_keeps K ‹_›
  · assumption

theorem schTick_keeps (K : Keeps P) {es : List Nat} {f : Nat → State → State} {ran : Nat → State → Bool} {s : State} (hf : ∀ a0 a1, P a1 → P (f a0 a1)) (hs : P s) :
    P (schTick es f ran s) := by
  unfold schTick
  extract_lets -merge +onlyGivenNames x1
  try clear_value x1
  refine each_keeps K (fun _ _ _ => ?_) ?_
  · exact schReset_keeps K ‹_›
  · refine each_keeps K (fun _ _ _ => ?_) ?_
    · refine hf _ _ ?_
      · assumption
    · assumption

theorem schSteps_keeps (K : Keeps P) {s : State} (hs : P s) :
    P (schSteps s) := by
  unfold schSteps
  refine schTick_keeps K (fun _ _ _ => ?_) ?_
  · exact schJudge_keeps K ‹_›
  · assumption

/-! MtrOps -/

theorem feedFeeders_keeps (K : Keeps P) {xs : List Int} {s : State} (hs : P s) :
    P (feedFeeders xs s) := by
  unfold feedFeeders
  exact K.upd ‹_›

theorem writeGap_keeps (K : Keeps P) {s : State} (hs : P s) :
    P (writeGap s) := by
  unfold writeGap
  refine ite_keeps P (fun _ => ?_) (fun _ => ?_)
  · assumption
  · extract_lets -merge +onlyGivenNames x1
    try clear_value x1
    extract_lets -merge +onlyGivenNames x2
    have hx2 : P x2 := by
      exact K.upd ‹_›
    clear_value x2
    extract_lets -merge +onlyGivenNames x3
    try clear_value x3
    refine ite_keeps P (fun _ => ?_) (fun _ => ?_)
    · exact setR_keeps K ‹_›
    · split
      · exact setR_keeps K ‹_›
      · refine setR_keeps K (drawn_keeps K ?_)
        assumption

theorem dropStep_keeps (K : Keeps P) {s : State} (hs : P s) :
    P (dropStep s) := by
  unfold dropStep
  exact bump_keeps K ‹_›

theorem toRetry_keeps (K : Keeps P) {p : Nat} {w : MeterWork} {s : State} (hs : P s) :
    P (toRetry p w s) := by
  unfold toRetry
  refine bump_keeps K (K.upd ?_)
  assumption

theorem setTot_keeps (K : Keeps P) {p : Nat} {x : PointTot} {s : State} (hs : P s) :
    P (setTot p x s) := by
  unfold setTot
  exact K.upd ‹_›

theorem keepTot_keeps (K : Keeps P) {p : Nat} {x : MeterRes} {s : State} (hs : P s) :
    P (keepTot p x s) := by
  unfold keepTot
  extract_lets -merge +onlyGivenNames x1
  try clear_value x1
  extract_lets -merge +onlyGivenNames x2
  have hx2 : P x2 := by
    refine setTot_keeps K (K.upd ?_)
    assumption
  clear_value x2
  refine ite_keeps P (fun _ => ?_) (fun _ => ?_)
  · assumption
  · exact capture_keeps K ‹_›

theorem shadowRes_keeps (K : Keeps P) {res : Twin → Bool × MeterRes} {s : State} (hs : P s) :
    P (shadowRes res s) := by
  unfold shadowRes
  split
  · refine ite_keeps P (fun _ => ?_) (fun _ => ?_)
    · assumption
    · exact declareFailed_keeps K ‹_›
  · assumption

theorem keepPoint_keeps (K : Keeps P) {again : Bool} {us : List MeterUpset} {forced : Twin → Bool} {p : Nat} {w : MeterWork} {s : State} (hs : P s) :
    P (keepPoint again us forced p w s) := by
  unfold keepPoint
  extract_lets -merge +onlyGivenNames x1
  try clear_value x1
  extract_lets -merge +onlyGivenNames x2
  have hx2 : ∀ a0, P a0 → P (x2 a0) := by
    intro a0 _
    refine ite_keeps P (fun _ => ?_) (fun _ => ?_)
    · exact dropStep_keeps K ‹_›
    · exact toRetry_keeps K ‹_›
  clear_value x2
  extract_lets -merge +onlyGivenNames x3
  have hx3 : ∀ a0 a1, P a1 → P (x3 a0 a1) := by
    intro a0 a1 _
    refine strike_keeps K (keepTot_keeps K ?_)
    refine raise_keeps K (bump_keeps K ?_)
    assumption
  clear_value x3
  refine ite_keeps P (fun _ => ?_) (fun _ => ?_)
  · split
    · refine ite_keeps P (fun _ => ?_) (fun _ => ?_)
      · exact keepTot_keeps K ‹_›
      · refine divergence_keeps K (keepTot_keeps K ?_)
        exact bump_keeps K ‹_›
    · refine hx3 _ _ ?_
      · assumption
    · refine hx3 _ _ ?_
      · assumption
    · refine strike_keeps K (strike_keeps K ?_)
      refine hx2 _ ?_
      · assumption
  · split
    · refine shadowRes_keeps K (ite_keeps P (fun _ => ?_) (fun _ => ?_))
      · exact keepTot_keeps K ‹_›
      · refine strike_keeps K (hx2 _ ?_)
        · assumption
    · assumption

theorem accumulate_keeps (K : Keeps P) {m : MeterIn} {forced : Nat → Twin → Bool} {s : State} (hs : P s) :
    P (accumulate m forced s) := by
  unfold accumulate
  extract_lets -merge +onlyGivenNames x1
  have hx1 : P x1 := by
    refine ite_keeps P (fun _ => ?_) (fun _ => ?_)
    · exact feedFeeders_keeps K ‹_›
    · assumption
  clear_value x1
  extract_lets -merge +onlyGivenNames x2
  try clear_value x2
  extract_lets -merge +onlyGivenNames x3
  have hx3 : P x3 := by
    refine ite_keeps P (fun _ => ?_) (fun _ => ?_)
    · assumption
    · exact writeGap_keeps K ‹_›
  clear_value x3
  extract_lets -merge +onlyGivenNames x4
  try clear_value x4
  extract_lets -merge +onlyGivenNames x5
  have hx5 : P x5 := by
    refine each_keeps K (fun _ _ _ => ?_) ?_
    · exact keepPoint_keeps K ‹_›
    · assumption
  clear_value x5
  split
  · exact K.upd ‹_›
  · assumption

theorem showPulse_keeps (K : Keeps P) {k : Nat} {s : State} (hs : P s) :
    P (showPulse k s) := by
  unfold showPulse
  extract_lets -merge +onlyGivenNames x1
  try clear_value x1
  refine setR_keeps K (setR_keeps K ?_)
  assumption

theorem setPulse_keeps (K : Keeps P) {k : Nat} {x : PulseSt} {s : State} (hs : P s) :
    P (setPulse k x s) := by
  unfold setPulse
  split
  · exact K.upd ‹_›
  · exact K.upd ‹_›
  · exact K.upd ‹_›
  · exact K.upd ‹_›

theorem startPulse_keeps (K : Keeps P) {k : Nat} {s : State} (hs : P s) :
    P (startPulse k s) := by
  unfold startPulse
  refine showPulse_keeps K (setPulse_keeps K ?_)
  assumption

theorem startPulses_keeps (K : Keeps P) {s : State} (hs : P s) :
    P (startPulses s) := by
  unfold startPulses
  refine each_keeps K (fun _ _ _ => ?_) ?_
  · exact startPulse_keeps K ‹_›
  · assumption

theorem applyZeros_keeps (K : Keeps P) {step : Nat} {s : State} (hs : P s) :
    P (applyZeros step s) := by
  unfold applyZeros
  extract_lets -merge +onlyGivenNames x1
  try clear_value x1
  refine ite_keeps P (fun _ => ?_) (fun _ => ?_)
  · assumption
  · extract_lets -merge +onlyGivenNames x2
    try clear_value x2
    extract_lets -merge +onlyGivenNames x3
    have hx3 : P x3 := by
      exact K.upd ‹_›
    clear_value x3
    refine startPulses_keeps K (each_keeps K (fun _ _ _ => ?_) ?_)
    · refine setF_keeps K (setTot_keeps K ?_)
      assumption
    · assumption

theorem takePart_keeps (K : Keeps P) {chan : List (List (Int × Int))} {s : State} (hs : P s) :
    P (takePart chan s) := by
  unfold takePart
  refine ite_keeps P (fun _ => ?_) (fun _ => ?_)
  · assumption
  · extract_lets -merge +onlyGivenNames x1
    try clear_value x1
    extract_lets -merge +onlyGivenNames x2
    try clear_value x2
    extract_lets -merge +onlyGivenNames x3
    have hx3 : P x3 := by
      refine each_keeps K (fun _ _ _ => ?_) ?_
      · exact keepPoint_keeps K ‹_›
      · exact K.upd ‹_›
    clear_value x3
    refine accumulate_keeps K (K.upd ?_)
    assumption

theorem setBank_keeps (K : Keeps P) {b : Bool} {x : Tab Byte} {s : State} (hs : P s) :
    P (setBank b x s) := by
  unfold setBank
  refine ite_keeps P (fun _ => ?_) (fun _ => ?_)
  · exact K.upd ‹_›
  · exact K.upd ‹_›

theorem beginSave_keeps (K : Keeps P) {k : SaveKind} {ns : Nat} {s : State} (hs : P s) :
    P (beginSave k ns s) := by
  unfold beginSave
  extract_lets -merge +onlyGivenNames x1
  try clear_value x1
  extract_lets -merge +onlyGivenNames x2
  have hx2 : P x2 := by
    exact setBank_keeps K ‹_›
  clear_value x2
  refine setB_keeps K (K.upd ?_)
  assumption

theorem beginFinal_keeps (K : Keeps P) {chan : List (List (Int × Int))} {s : State} (hs : P s) :
    P (beginFinal chan s) := by
  unfold beginFinal
  refine ite_keeps P (fun _ => ?_) (fun _ => ?_)
  · assumption
  · extract_lets -merge +onlyGivenNames x1
    have hx1 : P x1 := by
      exact takePart_keeps K ‹_›
    clear_value x1
    refine setB_keeps K (beginSave_keeps K ?_)
    exact K.upd ‹_›

theorem firePulse_keeps (K : Keeps P) {k : Nat} {s : State} (hs : P s) :
    P (firePulse k s) := by
  unfold firePulse
  extract_lets -merge +onlyGivenNames x1
  try clear_value x1
  refine ite_keeps P (fun _ => ?_) (fun _ => ?_)
  · refine showPulse_keeps K (setPulse_keeps K ?_)
    assumption
  · assumption

theorem mtrRestore_keeps (K : Keeps P) {s : State} (hs : P s) :
    P (mtrRestore s) := by
  unfold mtrRestore
  extract_lets -merge +onlyGivenNames x1
  try clear_value x1
  extract_lets -merge +onlyGivenNames x2
  try clear_value x2
  extract_lets -merge +onlyGivenNames x3
  try clear_value x3
  extract_lets -merge +onlyGivenNames x4
  try clear_value x4
  extract_lets -merge +onlyGivenNames x5
  try clear_value x5
  extract_lets -merge +onlyGivenNames x6
  try clear_value x6
  extract_lets -merge +onlyGivenNames x7
  try clear_value x7
  extract_lets -merge +onlyGivenNames x8
  have hx8 : P x8 := by
    exact K.upd ‹_›
  clear_value x8
  extract_lets -merge +onlyGivenNames x9
  have hx9 : P x9 := by
    exact setF_keeps K ‹_›
  clear_value x9
  refine ite_keeps P (fun _ => ?_) (fun _ => ?_)
  · exact setF_keeps K ‹_›
  · assumption

theorem residueForced_keeps (K : Keeps P) {s : State} (hs : P s) :
    Snd (Snd P) (residueForced s) := by
  unfold residueForced
  extract_lets -merge +onlyGivenNames x1
  try clear_value x1
  extract_lets -merge +onlyGivenNames x2
  have hx2 : Snd P x2 := by
    refine ite_keeps (Snd P) (fun _ => ?_) (fun _ => ?_)
    · exact tstApply_keeps K ‹_›
    · exact snd_mk ‹_›
  clear_value x2
  extract_lets -merge +onlyGivenNames x3
  have hx3 : Snd P x3 := by
    refine ite_keeps (Snd P) (fun _ => ?_) (fun _ => ?_)
    · refine tstApply_keeps K (of_snd ?_)
      assumption
    · refine snd_mk (of_snd ?_)
      assumption
  clear_value x3
  split
  · refine ite_keeps (Snd (Snd P)) (fun _ => ?_) (fun _ => ?_)
    · refine snd_mk (snd_mk ?_)
      assumption
    · refine snd_mk (snd_mk ?_)
      exact of_snd ‹_›
  · refine snd_mk (snd_mk ?_)
    exact of_snd ‹_›

theorem writeMean_keeps (K : Keeps P) {p : Nat} {s : State} (hs : P s) :
    P (writeMean p s) := by
  unfold writeMean
  extract_lets -merge +onlyGivenNames x1
  try clear_value x1
  extract_lets -merge +onlyGivenNames x2
  have hx2 : P x2 := by
    refine ite_keeps P (fun _ => ?_) (fun _ => ?_)
    · refine drawn_keeps K (drawn_keeps K ?_)
      assumption
    · assumption
  clear_value x2
  refine setR_keeps K (setR_keeps K ?_)
  exact setR_keeps K ‹_›

theorem writeMeans_keeps (K : Keeps P) {s : State} (hs : P s) :
    P (writeMeans s) := by
  unfold writeMeans
  extract_lets -merge +onlyGivenNames x1
  have hx1 : P x1 := by
    refine each_keeps K (fun _ _ _ => ?_) ?_
    · exact writeMean_keeps K ‹_›
    · assumption
  clear_value x1
  exact K.upd ‹_›

theorem runMeter_keeps (K : Keeps P) {m : MeterIn} {s : State} (hs : P s) :
    P (runMeter m s) := by
  unfold runMeter
  extract_lets -merge +onlyGivenNames x1
  have hx1 : Snd (Snd P) x1 := by
    exact residueForced_keeps K ‹_›
  clear_value x1
  extract_lets -merge +onlyGivenNames x2
  try clear_value x2
  extract_lets -merge +onlyGivenNames x3
  have hx3 : P x3 := by
    refine applyZeros_keeps K (accumulate_keeps K ?_)
    refine of_snd (of_snd ?_)
    assumption
  clear_value x3
  refine ite_keeps P (fun _ => ?_) (fun _ => ?_)
  · exact writeMeans_keeps K ‹_›
  · assumption

theorem saveWaits_keeps (K : Keeps P) {k : SaveKind} {s : State} (hs : P s) :
    P (saveWaits k s) := by
  unfold saveWaits
  exact K.upd ‹_›

theorem stepPulse_keeps (K : Keeps P) {k : Nat} {s : State} (hs : P s) :
    P (stepPulse k s) := by
  unfold stepPulse
  extract_lets -merge +onlyGivenNames x1
  have hx1 : P x1 := by
    refine ite_keeps P (fun _ => ?_) (fun _ => ?_)
    · refine drawn_keeps K (drawn_keeps K ?_)
      assumption
    · assumption
  clear_value x1
  refine ite_keeps P (fun _ => ?_) (fun _ => ?_)
  · refine showPulse_keeps K (setPulse_keeps K ?_)
    assumption
  · extract_lets -merge +onlyGivenNames x2
    try clear_value x2
    extract_lets -merge +onlyGivenNames x3
    have hx3 : P x3 := by
      refine ite_keeps P (fun _ => ?_) (fun _ => ?_)
      · refine raise_keeps K (bump_keeps K ?_)
        exact setPulse_keeps K ‹_›
      · assumption
    clear_value x3
    refine firePulse_keeps K (showPulse_keeps K ?_)
    assumption

/-! Mtr -/

theorem mtrFault_keeps (K : Keeps P) {i : Nat} {s : State} (hs : P s) :
    P (mtrFault i s) := by
  unfold mtrFault
  extract_lets -merge +onlyGivenNames x1
  have hx1 : P x1 := by
    exact setF_keeps K ‹_›
  clear_value x1
  refine ite_keeps P (fun _ => ?_) (fun _ => ?_)
  · exact raise_keeps K ‹_›
  · assumption

theorem clipPoints_keeps (K : Keeps P) {uses : Nat → Bool} {s : State} (hs : P s) :
    P (clipPoints uses s) := by
  unfold clipPoints
  refine mtrFault_keeps K (each_keeps K (fun _ _ _ => ?_) ?_)
  · exact setF_keeps K ‹_›
  · assumption

theorem clipChans_keeps (K : Keeps P) {cs : List Nat} {s : State} (hs : P s) :
    P (clipChans cs s) := by
  unfold clipChans
  refine ite_keeps P (fun _ => ?_) (fun _ => ?_)
  · assumption
  · exact clipPoints_keeps K ‹_›

theorem execIslandFrame_keeps (K : Keeps P) {crcOk : Bool} {samples : List Int} {adcFail : BitVec 12} {clip : BitVec 12} {freq : Option Nat} {s : State} (hs : P s) :
    Nxt P (execIslandFrame crcOk samples adcFail clip freq s) := by
  unfold execIslandFrame
  refine nxt_keeps (ite_keeps P (fun _ => ?_) (fun _ => ?_))
  · assumption
  · extract_lets -merge +onlyGivenNames x1
    try clear_value x1
    extract_lets -merge +onlyGivenNames x2
    have hx2 : P x2 := by
      refine setF_keeps K (K.upd ?_)
      assumption
    clear_value x2
    refine ite_keeps P (fun _ => ?_) (fun _ => ?_)
    · refine mtrFault_keeps K (bump_keeps K ?_)
      assumption
    · extract_lets -merge +onlyGivenNames x3
      try clear_value x3
      extract_lets -merge +onlyGivenNames x4
      try clear_value x4
      extract_lets -merge +onlyGivenNames x5
      have hx5 : P x5 := by
        exact K.upd ‹_›
      clear_value x5
      extract_lets -merge +onlyGivenNames x6
      have hx6 : P x6 := by
        refine ite_keeps P (fun _ => ?_) (fun _ => ?_)
        · assumption
        · exact mtrFault_keeps K ‹_›
      clear_value x6
      extract_lets -merge +onlyGivenNames x7
      have hx7 : P x7 := by
        refine ite_keeps P (fun _ => ?_) (fun _ => ?_)
        · assumption
        · exact clipPoints_keeps K ‹_›
      clear_value x7
      split
      · extract_lets -merge +onlyGivenNames x8
        try clear_value x8
        extract_lets -merge +onlyGivenNames x9
        have hx9 : P x9 := by
          exact K.upd ‹_›
        clear_value x9
        refine ite_keeps P (fun _ => ?_) (fun _ => ?_)
        · exact mtrFault_keeps K ‹_›
        · assumption
      · assumption

theorem execMeterRetry_keeps (K : Keeps P) {p : Fin 128} {us : List MeterUpset} {s : State} (hs : P s) :
    Nxt P (execMeterRetry p us s) := by
  unfold execMeterRetry
  refine nxt_keeps ?_
  split
  · refine keepPoint_keeps K (K.upd ?_)
    assumption
  · assumption

theorem releaseHeld_keeps (K : Keeps P) {s : State} (hs : P s) :
    P (releaseHeld s) := by
  unfold releaseHeld
  refine ite_keeps P (fun _ => ?_) (fun _ => ?_)
  · assumption
  · refine each_keeps K (fun _ _ _ => ?_) ?_
    · exact runMeter_keeps K ‹_›
    · exact K.upd ‹_›

theorem execMeterSaveDone_keeps (K : Keeps P) {s : State} (hs : P s) :
    Nxt P (execMeterSaveDone s) := by
  unfold execMeterSaveDone
  refine nxt_keeps ?_
  split
  · assumption
  · extract_lets -merge +onlyGivenNames x1
    have hx1 : P x1 := by
      exact setBank_keeps K ‹_›
    clear_value x1
    extract_lets -merge +onlyGivenNames x2
    try clear_value x2
    extract_lets -merge +onlyGivenNames x3
    have hx3 : P x3 := by
      refine setB_keeps K (setB_keeps K ?_)
      exact K.upd ‹_›
    clear_value x3
    extract_lets -merge +onlyGivenNames x4
    try clear_value x4
    extract_lets -merge +onlyGivenNames x5
    have hx5 : P x5 := by
      refine setR_keeps K (setR_keeps K ?_)
      exact setR_keeps K ‹_›
    clear_value x5
    extract_lets -merge +onlyGivenNames x6
    have hx6 : P x6 := by
      exact bump_keeps K ‹_›
    clear_value x6
    split
    · exact K.upd ‹_›
    · refine releaseHeld_keeps K (setB_keeps K ?_)
      assumption
    · assumption

theorem execMeterSaveStart_keeps (K : Keeps P) {kind : SaveKind} {s : State} (hs : P s) :
    Nxt P (execMeterSaveStart kind s) := by
  unfold execMeterSaveStart
  refine nxt_keeps (ite_keeps P (fun _ => ?_) (fun _ => ?_))
  · assumption
  · split
    · refine ite_keeps P (fun _ => ?_) (fun _ => ?_)
      · exact beginFinal_keeps K ‹_›
      · assumption
    · extract_lets -merge +onlyGivenNames x1
      try clear_value x1
      refine ite_keeps P (fun _ => ?_) (fun _ => ?_)
      · assumption
      · refine ite_keeps P (fun _ => ?_) (fun _ => ?_)
        · exact saveWaits_keeps K ‹_›
        · extract_lets -merge +onlyGivenNames x2
          try clear_value x2
          extract_lets -merge +onlyGivenNames x3
          have hx3 : P x3 := by
            refine ite_keeps P (fun _ => ?_) (fun _ => ?_)
            · exact K.upd ‹_›
            · assumption
          clear_value x3
          exact beginSave_keeps K ‹_›

theorem execMeterStep_keeps (K : Keeps P) {x : MeterStep} {s : State} (hs : P s) :
    Nxt P (execMeterStep x s) := by
  unfold execMeterStep
  refine nxt_keeps (ite_keeps P (fun _ => ?_) (fun _ => ?_))
  · assumption
  · extract_lets -merge +onlyGivenNames x1
    try clear_value x1
    extract_lets -merge +onlyGivenNames x2
    try clear_value x2
    extract_lets -merge +onlyGivenNames x3
    have hx3 : P x3 := by
      refine clipChans_keeps K (K.upd ?_)
      assumption
    clear_value x3
    refine ite_keeps P (fun _ => ?_) (fun _ => ?_)
    · exact K.upd ‹_›
    · exact runMeter_keeps K ‹_›

theorem execPulseStep_keeps (K : Keeps P) {s : State} (hs : P s) :
    Nxt P (execPulseStep s) := by
  unfold execPulseStep
  refine nxt_keeps (ite_keeps P (fun _ => ?_) (fun _ => ?_))
  · refine each_keeps K (fun _ _ _ => ?_) ?_
    · exact stepPulse_keeps K ‹_›
    · assumption
  · assumption

theorem execPulseWidthExpire_keeps (K : Keeps P) {k : Fin 4} {s : State} (hs : P s) :
    Nxt P (execPulseWidthExpire k s) := by
  unfold execPulseWidthExpire
  refine nxt_keeps (ite_keeps P (fun _ => ?_) (fun _ => ?_))
  · assumption
  · split
    · exact setPulse_keeps K ‹_›
    · refine firePulse_keeps K (setPulse_keeps K ?_)
      assumption
    · assumption

theorem execS0Pulse_keeps (K : Keeps P) {j : Fin 32} {s : State} (hs : P s) :
    Nxt P (execS0Pulse j s) := by
  unfold execS0Pulse
  refine nxt_keeps (ite_keeps P (fun _ => ?_) (fun _ => ?_))
  · assumption
  · extract_lets -merge +onlyGivenNames x1
    try clear_value x1
    extract_lets -merge +onlyGivenNames x2
    have hx2 : P x2 := by
      exact setR_keeps K ‹_›
    clear_value x2
    refine capture_keeps K (K.upd ?_)
    assumption

theorem mtrAnswer_keeps (K : Keeps P) {c : Code} {s : State} (hs : P s) :
    P (mtrAnswer c s) := by
  unfold mtrAnswer
  exact setF_keeps K ‹_›

theorem execSaveNow_keeps (K : Keeps P) {s : State} (hs : P s) :
    Nxt P (execSaveNow s) := by
  unfold execSaveNow
  refine nxt_keeps (ite_keeps P (fun _ => ?_) (fun _ => ?_))
  · assumption
  · refine ite_keeps P (fun _ => ?_) (fun _ => ?_)
    · exact mtrAnswer_keeps K ‹_›
    · refine mtrAnswer_keeps K (K.upd ?_)
      assumption

theorem latchTotals_keeps (K : Keeps P) {p : Nat} {s : State} (hs : P s) :
    P (latchTotals p s) := by
  unfold latchTotals
  extract_lets -merge +onlyGivenNames x1
  try clear_value x1
  exact K.upd ‹_›

theorem execTotalsLatchRead_keeps (K : Keeps P) {route : Route} {p : Fin 128} {s : State} (hs : P s) :
    Nxt P (execTotalsLatchRead route p s) := by
  unfold execTotalsLatchRead
  refine nxt_keeps (readBy_keeps K (fun _ _ => ?_) ?_)
  · refine ite_keeps P (fun _ => ?_) (fun _ => ?_)
    · exact latchTotals_keeps K ‹_›
    · exact K.upd ‹_›
  · assumption

theorem execZero_keeps (K : Keeps P) {p : Fin 128} {s : State} (hs : P s) :
    Nxt P (execZero p s) := by
  unfold execZero
  refine nxt_keeps (ite_keeps P (fun _ => ?_) (fun _ => ?_))
  · assumption
  · refine ite_keeps P (fun _ => ?_) (fun _ => ?_)
    · refine mtrAnswer_keeps K (K.upd ?_)
      assumption
    · exact mtrAnswer_keeps K ‹_›

/-! AirOps -/

theorem setLease_keeps (K : Keeps P) {e : Nat} {x : LeaseSt} {s : State} (hs : P s) :
    P (setLease e x s) := by
  unfold setLease
  exact K.upd ‹_›

theorem countFc_keeps (K : Keeps P) {s : State} (hs : P s) :
    P (countFc s) := by
  unfold countFc
  exact K.upd ‹_›

theorem anyFrame_keeps (K : Keeps P) {r : Nat} {n : Nat} {s : State} (hs : P s) :
    P (anyFrame r n s) := by
  unfold anyFrame
  extract_lets -merge +onlyGivenNames x1
  try clear_value x1
  extract_lets -merge +onlyGivenNames x2
  try clear_value x2
  extract_lets -merge +onlyGivenNames x3
  have hx3 : P x3 := by
    refine drawn_keeps K (drawn_keeps K ?_)
    assumption
  clear_value x3
  extract_lets -merge +onlyGivenNames x4
  try clear_value x4
  extract_lets -merge +onlyGivenNames x5
  try clear_value x5
  extract_lets -merge +onlyGivenNames x6
  have hx6 : P x6 := by
    refine drawn_keeps K (drawn_keeps K ?_)
    assumption
  clear_value x6
  refine emit_keeps K (K.upd ?_)
  assumption

theorem sendAck_keeps (K : Keeps P) {rx : RadioRx} {s : State} (hs : P s) :
    P (sendAck rx s) := by
  unfold sendAck
  extract_lets -merge +onlyGivenNames x1
  try clear_value x1
  extract_lets -merge +onlyGivenNames x2
  have hx2 : Snd P x2 := by
    exact tstApply_keeps K ‹_›
  clear_value x2
  refine ite_keeps P (fun _ => ?_) (fun _ => ?_)
  · assumption
  · refine ite_keeps P (fun _ => ?_) (fun _ => ?_)
    · exact of_snd ‹_›
    · refine ite_keeps P (fun _ => ?_) (fun _ => ?_)
      · refine ite_keeps P (fun _ => ?_) (fun _ => ?_)
        · refine countFc_keeps K (anyFrame_keeps K ?_)
          refine drawn_keeps K (of_snd ?_)
          assumption
        · refine drawn_keeps K (of_snd ?_)
          assumption
      · refine countFc_keeps K (emit_keeps K ?_)
        exact of_snd ‹_›

theorem clearMiss_keeps (K : Keeps P) {e : Nat} {r : Nat} {s : State} (hs : P s) :
    P (clearMiss e r s) := by
  unfold clearMiss
  refine setF_keeps K (setB_keeps K ?_)
  exact setF_keeps K ‹_›

theorem acceptRx_keeps (K : Keeps P) {rx : RadioRx} {e : Nat} {s : State} (hs : P s) :
    P (acceptRx rx e s) := by
  unfold acceptRx
  extract_lets -merge +onlyGivenNames x1
  try clear_value x1
  extract_lets -merge +onlyGivenNames x2
  have hx2 : P x2 := by
    refine setLease_keeps K (setR_keeps K ?_)
    assumption
  clear_value x2
  refine sendAck_keeps K (bump_keeps K ?_)
  exact clearMiss_keeps K ‹_›

theorem setRadio_keeps (K : Keeps P) {r : Nat} {x : RadioSt} {s : State} (hs : P s) :
    P (setRadio r x s) := by
  unfold setRadio
  split
  · exact K.upd ‹_›
  · exact K.upd ‹_›
  · exact K.upd ‹_›
  · exact K.upd ‹_›

theorem airDrain_keeps (K : Keeps P) {s : State} (hs : P s) :
    P (airDrain s) := by
  unfold airDrain
  refine each_keeps K (fun _ _ _ => ?_) ?_
  · refine setRadio_keeps K (each_keeps K (fun _ _ _ => ?_) ?_)
    · exact capture_keeps K ‹_›
    · assumption
  · assumption

theorem airEvt_keeps (K : Keeps P) {r : Nat} {i : Nat} {s : State} (hs : P s) :
    P (airEvt r i s) := by
  unfold airEvt
  extract_lets -merge +onlyGivenNames x1
  have hx1 : P x1 := by
    exact setF_keeps K ‹_›
  clear_value x1
  refine ite_keeps P (fun _ => ?_) (fun _ => ?_)
  · exact raise_keeps K ‹_›
  · assumption

theorem airReport_keeps (K : Keeps P) {r : Nat} {x : SplitIn} {s : State} (hs : P s) :
    P (airReport r x s) := by
  unfold airReport
  refine ite_keeps P (fun _ => ?_) (fun _ => ?_)
  · exact capture_keeps K ‹_›
  · exact setRadio_keeps K ‹_›

theorem setLeaseState_keeps (K : Keeps P) {e : Nat} {n : Nat} {s : State} (hs : P s) :
    P (setLeaseState e n s) := by
  unfold setLeaseState
  refine ite_keeps P (fun _ => ?_) (fun _ => ?_)
  · assumption
  · extract_lets -merge +onlyGivenNames x1
    try clear_value x1
    refine airReport_keeps K (airEvt_keeps K ?_)
    exact setF_keeps K ‹_›

theorem endLease_keeps (K : Keeps P) {e : Nat} {n : Nat} {s : State} (hs : P s) :
    P (endLease e n s) := by
  unfold endLease
  refine setLeaseState_keeps K (setB_keeps K ?_)
  refine setB_keeps K (setF_keeps K ?_)
  assumption

theorem eraseLink_keeps (K : Keeps P) {e : Nat} {s : State} (hs : P s) :
    P (eraseLink e s) := by
  unfold eraseLink
  refine setR_keeps K (setLease_keeps K ?_)
  assumption

theorem dropLease_keeps (K : Keeps P) {e : Nat} {s : State} (hs : P s) :
    P (dropLease e s) := by
  unfold dropLease
  refine endLease_keeps K (eraseLink_keeps K ?_)
  assumption

theorem newEpoch_keeps (K : Keeps P) {s : State} (hs : P s) :
    P (newEpoch s) := by
  unfold newEpoch
  extract_lets -merge +onlyGivenNames x1
  try clear_value x1
  extract_lets -merge +onlyGivenNames x2
  have hx2 : P x2 := by
    exact K.upd ‹_›
  clear_value x2
  refine each_keeps K (fun _ _ _ => ?_) ?_
  · exact dropLease_keeps K ‹_›
  · exact setR_keeps K ‹_›

theorem airRise_keeps (K : Keeps P) {s : State} (hs : P s) :
    P (airRise s) := by
  unfold airRise
  extract_lets -merge +onlyGivenNames x1
  have hx1 : P x1 := by
    exact clearRegs_keeps K ‹_›
  clear_value x1
  extract_lets -merge +onlyGivenNames x2
  try clear_value x2
  extract_lets -merge +onlyGivenNames x3
  have hx3 : P x3 := by
    exact K.upd ‹_›
  clear_value x3
  refine newEpoch_keeps K (each_keeps K (fun _ _ _ => ?_) ?_)
  · refine setB_keeps K (setB_keeps K ?_)
    exact setR_keeps K ‹_›
  · assumption

theorem airWake_keeps (K : Keeps P) {s : State} (hs : P s) :
    P (airWake s) := by
  unfold airWake
  refine ite_keeps P (fun _ => ?_) (fun _ => ?_)
  · assumption
  · exact wakeSource_keeps K ‹_›

theorem leaveSent_keeps (K : Keeps P) {f : RadioTx} {s : State} (hs : P s) :
    P (leaveSent f s) := by
  unfold leaveSent
  split
  · refine ite_keeps P (fun _ => ?_) (fun _ => ?_)
    · exact dropLease_keeps K ‹_›
    · assumption
  · assumption

theorem attempt_keeps (K : Keeps P) {r : Nat} {e : RadioEnt} {shared : Bool} {acked : Bool} {s : State} (hs : P s) :
    P (attempt r e shared acked s) := by
  unfold attempt
  extract_lets -merge +onlyGivenNames x1
  try clear_value x1
  extract_lets -merge +onlyGivenNames x2
  try clear_value x2
  refine ite_keeps P (fun _ => ?_) (fun _ => ?_)
  · refine bump_keeps K (setRadio_keeps K ?_)
    assumption
  · refine ite_keeps P (fun _ => ?_) (fun _ => ?_)
    · refine leaveSent_keeps K (bump_keeps K ?_)
      exact setRadio_keeps K ‹_›
    · extract_lets -merge +onlyGivenNames x3
      have hx3 : P x3 := by
        exact bump_keeps K ‹_›
      clear_value x3
      extract_lets -merge +onlyGivenNames x4
      try clear_value x4
      extract_lets -merge +onlyGivenNames x5
      have hx5 : P x5 := by
        refine ite_keeps P (fun _ => ?_) (fun _ => ?_)
        · exact drawn_keeps K ‹_›
        · assumption
      clear_value x5
      refine ite_keeps P (fun _ => ?_) (fun _ => ?_)
      · refine airReport_keeps K (airEvt_keeps K ?_)
        refine bump_keeps K (setRadio_keeps K ?_)
        assumption
      · exact setRadio_keeps K ‹_›

theorem eraseKeys_keeps (K : Keeps P) {e : Nat} {s : State} (hs : P s) :
    P (eraseKeys e s) := by
  unfold eraseKeys
  refine eraseLink_keeps K (setLease_keeps K ?_)
  assumption

theorem issueQuerad_keeps (K : Keeps P) {r : Nat} {qtype : Nat} {dst : RadioDst} {body : List Byte} {s : State} (hs : P s) :
    P (issueQuerad r qtype dst body s) := by
  unfold issueQuerad
  refine emit_keeps K (K.upd ?_)
  assumption

theorem joinResp_keeps (K : Keeps P) {rx : RadioRx} {nonceG : List Byte} {s : State} (hs : P s) :
    P (joinResp rx nonceG s) := by
  unfold joinResp
  split
  · refine emit_keeps K (K.upd ?_)
    assumption
  · assumption

theorem judgeRx_keeps (K : Keeps P) {rx : RadioRx} {e : Nat} {act : State → State} {s : State} (hact : ∀ a0, P a0 → P (act a0)) (hs : P s) :
    P (judgeRx rx e act s) := by
  unfold judgeRx
  extract_lets -merge +onlyGivenNames x1
  try clear_value x1
  extract_lets -merge +onlyGivenNames x2
  try clear_value x2
  refine ite_keeps P (fun _ => ?_) (fun _ => ?_)
  · refine hact _ ?_
    · exact acceptRx_keeps K ‹_›
  · refine ite_keeps P (fun _ => ?_) (fun _ => ?_)
    · refine sendAck_keeps K (bump_keeps K ?_)
      exact clearMiss_keeps K ‹_›
    · refine raise_keeps K (bump_keeps K ?_)
      assumption

theorem missBeacon_keeps (K : Keeps P) {r : Nat} {s : State} (hs : P s) :
    P (missBeacon r s) := by
  unfold missBeacon
  extract_lets -merge +onlyGivenNames x1
  try clear_value x1
  extract_lets -merge +onlyGivenNames x2
  try clear_value x2
  extract_lets -merge +onlyGivenNames x3
  have hx3 : P x3 := by
    refine bump_keeps K (setRadio_keeps K ?_)
    assumption
  clear_value x3
  refine ite_keeps P (fun _ => ?_) (fun _ => ?_)
  · refine raise_keeps K (airEvt_keeps K ?_)
    exact setB_keeps K ‹_›
  · assumption

theorem queueRadio_keeps (K : Keeps P) {r : Nat} {f : RadioTx} {s : State} (hs : P s) :
    P (queueRadio r f s) := by
  unfold queueRadio
  extract_lets -merge +onlyGivenNames x1
  try clear_value x1
  refine ite_keeps P (fun _ => ?_) (fun _ => ?_)
  · exact bump_keeps K ‹_›
  · refine ite_keeps P (fun _ => ?_) (fun _ => ?_)
    · refine airEvt_keeps K (bump_keeps K ?_)
      assumption
    · exact setRadio_keeps K ‹_›

theorem radioCopy_keeps (K : Keeps P) {r : Nat} {t : Twin} {f : RadioTx} {s : State} (hs : P s) :
    P (radioCopy r t f s) := by
  unfold radioCopy
  refine ite_keeps P (fun _ => ?_) (fun _ => ?_)
  · assumption
  · extract_lets -merge +onlyGivenNames x1
    have hx1 : Snd P x1 := by
      exact copyFlipped_keeps K ‹_›
    clear_value x1
    extract_lets -merge +onlyGivenNames x2
    try clear_value x2
    extract_lets -merge +onlyGivenNames x3
    try clear_value x3
    extract_lets -merge +onlyGivenNames x4
    have hx4 : P x4 := by
      refine each_keeps K (fun _ _ _ => ?_) ?_
      · exact queueRadio_keeps K ‹_›
      · refine setRadio_keeps K (of_snd ?_)
        assumption
    clear_value x4
    refine ite_keeps P (fun _ => ?_) (fun _ => ?_)
    · refine routeDiff_keeps K (ite_keeps P (fun _ => ?_) (fun _ => ?_))
      · refine airEvt_keeps K (bump_keeps K ?_)
        assumption
      · assumption
    · assumption

theorem radioTakes_keeps (K : Keeps P) {rx : RadioRx} {s : State} (hs : P s) :
    Snd P (radioTakes rx s) := by
  unfold radioTakes
  extract_lets -merge +onlyGivenNames x1
  try clear_value x1
  extract_lets -merge +onlyGivenNames x2
  try clear_value x2
  refine ite_keeps (Snd P) (fun _ => ?_) (fun _ => ?_)
  · exact snd_mk ‹_›
  · refine ite_keeps (Snd P) (fun _ => ?_) (fun _ => ?_)
    · refine snd_mk (drawn_keeps K ?_)
      assumption
    · exact snd_mk ‹_›

theorem toTwins_keeps (K : Keeps P) {rx : RadioRx} {body : List Byte} {s : State} (hs : P s) :
    P (toTwins rx body s) := by
  unfold toTwins
  extract_lets -merge +onlyGivenNames x1
  try clear_value x1
  extract_lets -merge +onlyGivenNames x2
  try clear_value x2
  extract_lets -merge +onlyGivenNames x3
  have hx3 : P x3 := by
    refine ite_keeps P (fun _ => ?_) (fun _ => ?_)
    · exact K.upd ‹_›
    · assumption
  clear_value x3
  refine ite_keeps P (fun _ => ?_) (fun _ => ?_)
  · refine airEvt_keeps K (bump_keeps K ?_)
    assumption
  · exact airReport_keeps K ‹_›

theorem rxFrame_keeps (K : Keeps P) {rx : RadioRx} {wakes : Bool} {body : List Byte} {act : Nat → State → State} {s : State} (hact : ∀ a0 a1, P a1 → P (act a0 a1)) (hs : P s) :
    P (rxFrame rx wakes body act s) := by
  unfold rxFrame
  extract_lets -merge +onlyGivenNames x1
  have hx1 : Snd P x1 := by
    exact radioTakes_keeps K ‹_›
  clear_value x1
  extract_lets -merge +onlyGivenNames x2
  have hx2 : P x2 := by
    exact of_snd ‹_›
  clear_value x2
  refine ite_keeps P (fun _ => ?_) (fun _ => ?_)
  · assumption
  · split
    · exact bump_keeps K ‹_›
    · extract_lets -merge +onlyGivenNames x3
      try clear_value x3
      refine ite_keeps P (fun _ => ?_) (fun _ => ?_)
      · exact bump_keeps K ‹_›
      · refine judgeRx_keeps K (fun _ _ => ?_) ?_
        · extract_lets -merge +onlyGivenNames x4
          have hx4 : P x4 := by
            refine ite_keeps P (fun _ => ?_) (fun _ => ?_)
            · exact setLeaseState_keeps K ‹_›
            · assumption
          clear_value x4
          extract_lets -merge +onlyGivenNames x5
          have hx5 : P x5 := by
            refine hact _ _ ?_
            · exact toTwins_keeps K ‹_›
          clear_value x5
          refine ite_keeps P (fun _ => ?_) (fun _ => ?_)
          · exact airWake_keeps K ‹_›
          · assumption
        · assumption

theorem sendBeacon_keeps (K : Keeps P) {r : Nat} {khz : Nat} {asn : Nat} {c : BitVec 64} {s : State} (hs : P s) :
    P (sendBeacon r khz asn c s) := by
  unfold sendBeacon
  refine ite_keeps P (fun _ => ?_) (fun _ => ?_)
  · exact anyFrame_keeps K ‹_›
  · exact emit_keeps K ‹_›

theorem sendRadio_keeps (K : Keeps P) {r : Nat} {khz : Nat} {f : RadioTx} {s : State} (hs : P s) :
    P (sendRadio r khz f s) := by
  unfold sendRadio
  refine countFc_keeps K (ite_keeps P (fun _ => ?_) (fun _ => ?_))
  · exact anyFrame_keeps K ‹_›
  · exact emit_keeps K ‹_›

theorem useCell_keeps (K : Keeps P) {r : Nat} {asn : Nat} {c : BitVec 64} {acked : Bool} {s : State} (hs : P s) :
    P (useCell r asn c acked s) := by
  unfold useCell
  extract_lets -merge +onlyGivenNames x1
  try clear_value x1
  extract_lets -merge +onlyGivenNames x2
  have hx2 : Snd P x2 := by
    exact tstApply_keeps K ‹_›
  clear_value x2
  extract_lets -merge +onlyGivenNames x3
  have hx3 : P x3 := by
    refine ite_keeps P (fun _ => ?_) (fun _ => ?_)
    · exact of_snd ‹_›
    · assumption
  clear_value x3
  extract_lets -merge +onlyGivenNames x4
  try clear_value x4
  extract_lets -merge +onlyGivenNames x5
  have hx5 : P x5 := by
    exact setRadio_keeps K ‹_›
  clear_value x5
  extract_lets -merge +onlyGivenNames x6
  try clear_value x6
  refine ite_keeps P (fun _ => ?_) (fun _ => ?_)
  · assumption
  · refine ite_keeps P (fun _ => ?_) (fun _ => ?_)
    · exact sendBeacon_keeps K ‹_›
    · split
      · assumption
      · refine ite_keeps P (fun _ => ?_) (fun _ => ?_)
        · exact setRadio_keeps K ‹_›
        · refine attempt_keeps K (sendRadio_keeps K ?_)
          assumption

/-! Air -/

theorem commitEui_keeps (K : Keeps P) {e : Nat} {v : BitVec 64} {s : State} (hs : P s) :
    P (commitEui e v s) := by
  unfold commitEui
  extract_lets -merge +onlyGivenNames x1
  try clear_value x1
  extract_lets -merge +onlyGivenNames x2
  try clear_value x2
  extract_lets -merge +onlyGivenNames x3
  have hx3 : P x3 := by
    exact setLease_keeps K ‹_›
  clear_value x3
  refine ite_keeps P (fun _ => ?_) (fun _ => ?_)
  · refine endLease_keeps K (eraseKeys_keeps K ?_)
    assumption
  · refine ite_keeps P (fun _ => ?_) (fun _ => ?_)
    · exact setLeaseState_keeps K ‹_›
    · refine ite_keeps P (fun _ => ?_) (fun _ => ?_)
      · assumption
      · refine endLease_keeps K (eraseKeys_keeps K ?_)
        assumption

theorem completeJoin_keeps (K : Keeps P) {rx : RadioRx} {e : Nat} {k : TileKey} {s : State} (hs : P s) :
    P (completeJoin rx e k s) := by
  unfold completeJoin
  extract_lets -merge +onlyGivenNames x1
  try clear_value x1
  extract_lets -merge +onlyGivenNames x2
  have hx2 : P x2 := by
    exact setLease_keeps K ‹_›
  clear_value x2
  extract_lets -merge +onlyGivenNames x3
  have hx3 : P x3 := by
    exact acceptRx_keeps K ‹_›
  clear_value x3
  extract_lets -merge +onlyGivenNames x4
  have hx4 : P x4 := by
    refine setF_keeps K (setB_keeps K ?_)
    exact bump_keeps K ‹_›
  clear_value x4
  exact setLeaseState_keeps K ‹_›

theorem latchAsn_keeps (K : Keeps P) {r : Nat} {s : State} (hs : P s) :
    P (latchAsn r s) := by
  unfold latchAsn
  extract_lets -merge +onlyGivenNames x1
  try clear_value x1
  extract_lets -merge +onlyGivenNames x2
  have hx2 : P x2 := by
    exact setR_keeps K ‹_›
  clear_value x2
  exact K.upd ‹_›

theorem execAirAsnRead_keeps (K : Keeps P) {route : Route} {r : Fin 4} {s : State} (hs : P s) :
    Nxt P (execAirAsnRead route r s) := by
  unfold execAirAsnRead
  refine nxt_keeps (readBy_keeps K (fun _ _ => ?_) ?_)
  · refine ite_keeps P (fun _ => ?_) (fun _ => ?_)
    · exact latchAsn_keeps K ‹_›
    · exact K.upd ‹_›
  · assumption

theorem execBeaconMissed_keeps (K : Keeps P) {r : Fin 4} {s : State} (hs : P s) :
    Nxt P (execBeaconMissed r s) := by
  unfold execBeaconMissed
  refine nxt_keeps (ite_keeps P (fun _ => ?_) (fun _ => ?_))
  · exact missBeacon_keeps K ‹_›
  · assumption

theorem execBeaconReceive_keeps (K : Keeps P) {r : Fin 4} {pan : BitVec 16} {asn : BitVec 40} {offset : Int} {s : State} (hs : P s) :
    Nxt P (execBeaconReceive r pan asn offset s) := by
  unfold execBeaconReceive
  refine nxt_keeps (ite_keeps P (fun _ => ?_) (fun _ => ?_))
  · assumption
  · extract_lets -merge +onlyGivenNames x1
    try clear_value x1
    extract_lets -merge +onlyGivenNames x2
    have hx2 : Snd P x2 := by
      exact tstApply_keeps K ‹_›
    clear_value x2
    extract_lets -merge +onlyGivenNames x3
    have hx3 : P x3 := by
      exact of_snd ‹_›
    clear_value x3
    refine ite_keeps P (fun _ => ?_) (fun _ => ?_)
    · refine ite_keeps P (fun _ => ?_) (fun _ => ?_)
      · exact missBeacon_keeps K ‹_›
      · assumption
    · refine ite_keeps P (fun _ => ?_) (fun _ => ?_)
      · assumption
      · extract_lets -merge +onlyGivenNames x4
        try clear_value x4
        extract_lets -merge +onlyGivenNames x5
        try clear_value x5
        extract_lets -merge +onlyGivenNames x6
        try clear_value x6
        extract_lets -merge +onlyGivenNames x7
        try clear_value x7
        extract_lets -merge +onlyGivenNames x8
        have hx8 : P x8 := by
          refine ite_keeps P (fun _ => ?_) (fun _ => ?_)
          · exact K.upd ‹_›
          · assumption
        clear_value x8
        refine ite_keeps P (fun _ => ?_) (fun _ => ?_)
        · assumption
        · extract_lets -merge +onlyGivenNames x9
          try clear_value x9
          refine ite_keeps P (fun _ => ?_) (fun _ => ?_)
          · exact missBeacon_keeps K ‹_›
          · extract_lets -merge +onlyGivenNames x10
            try clear_value x10
            extract_lets -merge +onlyGivenNames x11
            have hx11 : P x11 := by
              refine setB_keeps K (setRadio_keeps K ?_)
              assumption
            clear_value x11
            refine ite_keeps P (fun _ => ?_) (fun _ => ?_)
            · refine setRadio_keeps K (setR_keeps K ?_)
              assumption
            · assumption

theorem execFrameCounterExhaust_keeps (K : Keeps P) {s : State} (hs : P s) :
    Nxt P (execFrameCounterExhaust s) := by
  unfold execFrameCounterExhaust
  refine nxt_keeps (ite_keeps P (fun _ => ?_) (fun _ => ?_))
  · exact newEpoch_keeps K ‹_›
  · assumption

theorem execJoinConf_keeps (K : Keeps P) {rx : RadioRx} {nonceM : BitVec 64} {s : State} (hs : P s) :
    Nxt P (execJoinConf rx nonceM s) := by
  unfold execJoinConf
  refine nxt_keeps ?_
  extract_lets -merge +onlyGivenNames x1
  try clear_value x1
  extract_lets -merge +onlyGivenNames x2
  have hx2 : P x2 := by
    refine rxFrame_keeps K (fun _ _ _ => ?_) ?_
    · assumption
    · assumption
  clear_value x2
  split
  · assumption
  · split
    · assumption
    · refine ite_keeps P (fun _ => ?_) (fun _ => ?_)
      · extract_lets -merge +onlyGivenNames x3
        have hx3 : Snd P x3 := by
          exact radioTakes_keeps K ‹_›
        clear_value x3
        refine ite_keeps P (fun _ => ?_) (fun _ => ?_)
        · refine toTwins_keeps K (completeJoin_keeps K ?_)
          exact of_snd ‹_›
        · exact of_snd ‹_›
      · assumption

theorem execJoinReq_keeps (K : Keeps P) {rx : RadioRx} {caps : Byte} {nonceG : BitVec 64} {s : State} (hs : P s) :
    Nxt P (execJoinReq rx caps nonceG s) := by
  unfold execJoinReq
  refine nxt_keeps ?_
  extract_lets -merge +onlyGivenNames x1
  have hx1 : Snd P x1 := by
    exact radioTakes_keeps K ‹_›
  clear_value x1
  extract_lets -merge +onlyGivenNames x2
  have hx2 : P x2 := by
    exact of_snd ‹_›
  clear_value x2
  refine ite_keeps P (fun _ => ?_) (fun _ => ?_)
  · assumption
  · split
    · exact bump_keeps K ‹_›
    · refine ite_keeps P (fun _ => ?_) (fun _ => ?_)
      · exact bump_keeps K ‹_›
      · refine judgeRx_keeps K (fun _ _ => ?_) ?_
        · extract_lets -merge +onlyGivenNames x3
          have hx3 : P x3 := by
            refine ite_keeps P (fun _ => ?_) (fun _ => ?_)
            · exact setB_keeps K ‹_›
            · exact setLeaseState_keeps K ‹_›
          clear_value x3
          refine airWake_keeps K (toTwins_keeps K ?_)
          assumption
        · assumption

end Sys2Proof.Machine
end

