-- ==== Sys2Proof/Laws/Keeps3.lean ====
section
/-! SUPPORT. What every operation of the model keeps, continued: the operations of Air, RegWrite, Drv, Chn, KeyOps, Key, StgOps, Img, UpdOps, Rec, PlnOps. -/

namespace Sys2Proof.Machine

variable {P : State → Prop}

/-! Air -/

theorem execJoinWaitExpire_keeps (K : Keeps P) {e : Fin 1024} {s : State} (hs : P s) :
    Nxt P (execJoinWaitExpire e s) := by
  unfold execJoinWaitExpire
  refine nxt_keeps ?_
  extract_lets -merge +onlyGivenNames x1
  have hx1 : ∀ a0, P a0 → P (x1 a0) := by
    intro a0 _
    exact setLease_keeps K ‹_›
  clear_value x1
  refine ite_keeps P (fun _ => ?_) (fun _ => ?_)
  · assumption
  · refine ite_keeps P (fun _ => ?_) (fun _ => ?_)
    · refine setLeaseState_keeps K (bump_keeps K ?_)
      refine hx1 _ ?_
      · assumption
    · refine ite_keeps P (fun _ => ?_) (fun _ => ?_)
      · refine bump_keeps K (setB_keeps K ?_)
        refine hx1 _ ?_
        · assumption
      · assumption

theorem execKeepalive_keeps (K : Keeps P) {rx : RadioRx} {status : Byte} {s : State} (hs : P s) :
    Nxt P (execKeepalive rx status s) := by
  unfold execKeepalive
  refine nxt_keeps (rxFrame_keeps K (fun _ _ _ => ?_) ?_)
  · assumption
  · assumption

theorem execKeepaliveMiss_keeps (K : Keeps P) {r : Fin 4} {e : Fin 1024} {s : State} (hs : P s) :
    Nxt P (execKeepaliveMiss r e s) := by
  unfold execKeepaliveMiss
  refine nxt_keeps (ite_keeps P (fun _ => ?_) (fun _ => ?_))
  · extract_lets -merge +onlyGivenNames x1
    try clear_value x1
    extract_lets -merge +onlyGivenNames x2
    have hx2 : P x2 := by
      refine addF_keeps K (bump_keeps K ?_)
      assumption
    clear_value x2
    refine ite_keeps P (fun _ => ?_) (fun _ => ?_)
    · refine airEvt_keeps K (setB_keeps K ?_)
      assumption
    · assumption
  · assumption

theorem execLeaseEuiWrite_keeps (K : Keeps P) {e : Fin 1024} {v : Word} {s : State} (hs : P s) :
    Nxt P (execLeaseEuiWrite e v s) := by
  unfold execLeaseEuiWrite
  refine nxt_keeps (ite_keeps P (fun _ => ?_) (fun _ => ?_))
  · extract_lets -merge +onlyGivenNames x1
    have hx1 : P x1 := by
      refine unspoil_keeps K (setR_keeps K ?_)
      assumption
    clear_value x1
    exact commitEui_keeps K ‹_›
  · assumption

theorem execLeaseExpire_keeps (K : Keeps P) {e : Fin 1024} {s : State} (hs : P s) :
    Nxt P (execLeaseExpire e s) := by
  unfold execLeaseExpire
  refine nxt_keeps (ite_keeps P (fun _ => ?_) (fun _ => ?_))
  · refine dropLease_keeps K (bump_keeps K ?_)
    assumption
  · assumption

theorem execLeaseSilent_keeps (K : Keeps P) {e : Fin 1024} {s : State} (hs : P s) :
    Nxt P (execLeaseSilent e s) := by
  unfold execLeaseSilent
  refine nxt_keeps (ite_keeps P (fun _ => ?_) (fun _ => ?_))
  · refine setLeaseState_keeps K (bump_keeps K ?_)
    assumption
  · assumption

theorem execLeave_keeps (K : Keeps P) {rx : RadioRx} {reason : Byte} {s : State} (hs : P s) :
    Nxt P (execLeave rx reason s) := by
  unfold execLeave
  refine nxt_keeps (rxFrame_keeps K (fun _ _ _ => ?_) ?_)
  · refine ite_keeps P (fun _ => ?_) (fun _ => ?_)
    · exact dropLease_keeps K ‹_›
    · assumption
  · assumption

theorem execQueradData_keeps (K : Keeps P) {rx : RadioRx} {m : QueradMsg} {s : State} (hs : P s) :
    Nxt P (execQueradData rx m s) := by
  unfold execQueradData
  refine nxt_keeps ?_
  split
  · refine rxFrame_keeps K (fun _ _ _ => ?_) ?_
    · assumption
    · assumption
  · refine rxFrame_keeps K (fun _ _ _ => ?_) ?_
    · assumption
    · assumption

theorem execRadioCopyTimeout_keeps (K : Keeps P) {r : Fin 4} {s : State} (hs : P s) :
    Nxt P (execRadioCopyTimeout r s) := by
  unfold execRadioCopyTimeout
  refine nxt_keeps ?_
  split
  · assumption
  · refine passSolo_keeps K (fun _ _ _ => ?_) (fun _ _ => ?_) ?_
    · exact queueRadio_keeps K ‹_›
    · exact bump_keeps K ‹_›
    · exact setRadio_keeps K ‹_›

theorem execRadioTxCopy_keeps (K : Keeps P) {r : Fin 4} {t : Twin} {f : RadioTx} {s : State} (hs : P s) :
    Nxt P (execRadioTxCopy r t f s) := by
  unfold execRadioTxCopy
  refine nxt_keeps (ite_keeps P (fun _ => ?_) (fun _ => ?_))
  · assumption
  · refine delayCopy_keeps K (fun _ _ => ?_) ?_
    · exact radioCopy_keeps K ‹_›
    · assumption

theorem execRelay_keeps (K : Keeps P) {rx : RadioRx} {finalDst : BitVec 16} {origSrc : BitVec 16} {hops : Byte} {inner : List Byte} {s : State} (hs : P s) :
    Nxt P (execRelay rx finalDst origSrc hops inner s) := by
  unfold execRelay
  refine nxt_keeps (rxFrame_keeps K (fun _ _ _ => ?_) ?_)
  · assumption
  · assumption

theorem execRenew_keeps (K : Keeps P) {rx : RadioRx} {s : State} (hs : P s) :
    Nxt P (execRenew rx s) := by
  unfold execRenew
  refine nxt_keeps (rxFrame_keeps K (fun _ _ _ => ?_) ?_)
  · refine ite_keeps P (fun _ => ?_) (fun _ => ?_)
    · refine queueRadio_keeps K (setF_keeps K ?_)
      assumption
    · assumption
  · assumption

theorem execSearchChannelHop_keeps (K : Keeps P) {r : Fin 4} {s : State} (hs : P s) :
    Nxt P (execSearchChannelHop r s) := by
  unfold execSearchChannelHop
  refine nxt_keeps (ite_keeps P (fun _ => ?_) (fun _ => ?_))
  · split
    · exact setRadio_keeps K ‹_›
    · assumption
  · assumption

theorem execTimeslotStart_keeps (K : Keeps P) {r : Fin 4} {asn : BitVec 40} {acked : Bool} {s : State} (hs : P s) :
    Nxt P (execTimeslotStart r asn acked s) := by
  unfold execTimeslotStart
  refine nxt_keeps (ite_keeps P (fun _ => ?_) (fun _ => ?_))
  · assumption
  · extract_lets -merge +onlyGivenNames x1
    try clear_value x1
    extract_lets -merge +onlyGivenNames x2
    try clear_value x2
    extract_lets -merge +onlyGivenNames x3
    try clear_value x3
    extract_lets -merge +onlyGivenNames x4
    have hx4 : P x4 := by
      exact setRadio_keeps K ‹_›
    clear_value x4
    extract_lets -merge +onlyGivenNames x5
    have hx5 : P x5 := by
      exact setR_keeps K ‹_›
    clear_value x5
    refine ite_keeps P (fun _ => ?_) (fun _ => ?_)
    · assumption
    · extract_lets -merge +onlyGivenNames x6
      try clear_value x6
      split
      · refine useCell_keeps K (ite_keeps P (fun _ => ?_) (fun _ => ?_))
        · exact drawn_keeps K ‹_›
        · assumption
      · refine ite_keeps P (fun _ => ?_) (fun _ => ?_)
        · exact drawn_keeps K ‹_›
        · assumption

/-! RegWrite -/

theorem writeScope_keeps (K : Keeps P) {off : Nat} {v : Word} {s : State} (hs : P s) :
    P (writeScope off v s) := by
  unfold writeScope
  refine ite_keeps P (fun _ => ?_) (fun _ => ?_)
  · exact unspoil_keeps K ‹_›
  · exact spoil_keeps K ‹_›

theorem writeReg_keeps (K : Keeps P) {off : Nat} {v : Word} {setNow : Word} {s : State} (hs : P s) :
    P (writeReg off v setNow s) := by
  unfold writeReg
  refine writeScope_keeps K (setR_keeps K ?_)
  assumption

/-! Drv -/

theorem execBiasEstablished_keeps (K : Keeps P) {ch : Fin 64} {s : State} (hs : P s) :
    Nxt P (execBiasEstablished ch s) := by
  unfold execBiasEstablished
  refine nxt_keeps ?_
  split
  · refine noteBlank_keeps K (setSlice_keeps K ?_)
    assumption
  · exact setSlice_keeps K ‹_›
  · assumption

theorem execClear_keeps (K : Keeps P) {ch : Fin 64} {s : State} (hs : P s) :
    Nxt P (execClear ch s) := by
  unfold execClear
  refine nxt_keeps ?_
  split
  · exact biasOrWait_keeps K ‹_›
  · exact biasOrWait_keeps K ‹_›
  · assumption

theorem execDrvChSet_keeps (K : Keeps P) {ch : Fin 64} {v : Word} {s : State} (hs : P s) :
    Nxt P (execDrvChSet ch v s) := by
  unfold execDrvChSet
  refine nxt_keeps (ite_keeps P (fun _ => ?_) (fun _ => ?_))
  · refine captureReq_keeps K (writeReg_keeps K ?_)
    assumption
  · assumption

theorem execKyoviLoss_keeps (K : Keeps P) {die : Fin 8} {s : State} (hs : P s) :
    Nxt P (execKyoviLoss die s) := by
  unfold execKyoviLoss
  refine nxt_keeps (ite_keeps P (fun _ => ?_) (fun _ => ?_))
  · extract_lets -merge +onlyGivenNames x1
    try clear_value x1
    extract_lets -merge +onlyGivenNames x2
    have hx2 : P x2 := by
      exact K.upd ‹_›
    clear_value x2
    refine rewriteReport_keeps K (each_keeps K (fun _ _ _ => ?_) ?_)
    · exact setSlice_keeps K ‹_›
    · assumption
  · assumption

theorem qualified_keeps (K : Keeps P) {n : Nat} {opened : Bool} {s : State} (hs : P s) :
    P (qualified n opened s) := by
  unfold qualified
  extract_lets -merge +onlyGivenNames x1
  have hx1 : P x1 := by
    refine addF_keeps K (setFault_keeps K ?_)
    assumption
  clear_value x1
  refine ite_keeps P (fun _ => ?_) (fun _ => ?_)
  · exact setSlice_keeps K ‹_›
  · assumption

theorem judgeWindow_keeps (K : Keeps P) {n : Nat} {loop : Nat} {vMv : Nat} {iCode : Nat} {s : State} (hs : P s) :
    P (judgeWindow n loop vMv iCode s) := by
  unfold judgeWindow
  extract_lets -merge +onlyGivenNames x1
  try clear_value x1
  extract_lets -merge +onlyGivenNames x2
  try clear_value x2
  extract_lets -merge +onlyGivenNames x3
  try clear_value x3
  refine ite_keeps P (fun _ => ?_) (fun _ => ?_)
  · exact setSlice_keeps K ‹_›
  · split
    · exact setSlice_keeps K ‹_›
    · extract_lets -merge +onlyGivenNames x4
      try clear_value x4
      refine ite_keeps P (fun _ => ?_) (fun _ => ?_)
      · refine qualified_keeps K (setSlice_keeps K ?_)
        assumption
      · exact setSlice_keeps K ‹_›

theorem execMeasWindowEnd_keeps (K : Keeps P) {ch : Fin 64} {vMv : Nat} {iCode : Nat} {s : State} (hs : P s) :
    Nxt P (execMeasWindowEnd ch vMv iCode s) := by
  unfold execMeasWindowEnd
  refine nxt_keeps (ite_keeps P (fun _ => ?_) (fun _ => ?_))
  · assumption
  · extract_lets -merge +onlyGivenNames x1
    try clear_value x1
    extract_lets -merge +onlyGivenNames x2
    have hx2 : P x2 := by
      refine capture_keeps K (setR_keeps K ?_)
      assumption
    clear_value x2
    extract_lets -merge +onlyGivenNames x3
    try clear_value x3
    extract_lets -merge +onlyGivenNames x4
    try clear_value x4
    refine judgeWindow_keeps K (ite_keeps P (fun _ => ?_) (fun _ => ?_))
    · refine drawn_keeps K (drawn_keeps K ?_)
      assumption
    · assumption

theorem execPhaseFault_keeps (K : Keeps P) {ch : Fin 64} {phaseB : Bool} {s : State} (hs : P s) :
    Nxt P (execPhaseFault ch phaseB s) := by
  unfold execPhaseFault
  extract_lets -merge +onlyGivenNames x1
  try clear_value x1
  refine nxt_keeps (ite_keeps P (fun _ => ?_) (fun _ => ?_))
  · exact openPhase_keeps K ‹_›
  · exact setSlice_keeps K ‹_›

theorem execPhaseRetry_keeps (K : Keeps P) {ch : Fin 64} {s : State} (hs : P s) :
    Nxt P (execPhaseRetry ch s) := by
  unfold execPhaseRetry
  refine nxt_keeps (ite_keeps P (fun _ => ?_) (fun _ => ?_))
  · assumption
  · refine ite_keeps P (fun _ => ?_) (fun _ => ?_)
    · exact biasOrWait_keeps K ‹_›
    · exact setSlice_keeps K ‹_›

theorem startProbe_keeps (K : Keeps P) {n : Nat} {s : State} (hs : P s) :
    P (startProbe n s) := by
  unfold startProbe
  refine detectLatent_keeps K (setSlice_keeps K ?_)
  assumption

theorem execProbeDue_keeps (K : Keeps P) {ch : Fin 64} {s : State} (hs : P s) :
    Nxt P (execProbeDue ch s) := by
  unfold execProbeDue
  extract_lets -merge +onlyGivenNames x1
  try clear_value x1
  extract_lets -merge +onlyGivenNames x2
  try clear_value x2
  refine nxt_keeps (ite_keeps P (fun _ => ?_) (fun _ => ?_))
  · exact startProbe_keeps K ‹_›
  · assumption

theorem execProbeEnd_keeps (K : Keeps P) {ch : Fin 64} {vMv : Nat} {iUa : Nat} {s : State} (hs : P s) :
    Nxt P (execProbeEnd ch vMv iUa s) := by
  unfold execProbeEnd
  extract_lets -merge +onlyGivenNames x1
  try clear_value x1
  extract_lets -merge +onlyGivenNames x2
  try clear_value x2
  refine nxt_keeps (ite_keeps P (fun _ => ?_) (fun _ => ?_))
  · extract_lets -merge +onlyGivenNames x3
    try clear_value x3
    split
    · refine noteBlank_keeps K (setSlice_keeps K ?_)
      assumption
    · refine ite_keeps P (fun _ => ?_) (fun _ => ?_)
      · refine addF_keeps K (setFault_keeps K ?_)
        refine noteBlank_keeps K (setSlice_keeps K ?_)
        assumption
      · refine noteBlank_keeps K (setSlice_keeps K ?_)
        assumption
  · assumption

theorem execProbeNow_keeps (K : Keeps P) {ch : Fin 64} {s : State} (hs : P s) :
    Nxt P (execProbeNow ch s) := by
  unfold execProbeNow
  extract_lets -merge +onlyGivenNames x1
  try clear_value x1
  refine nxt_keeps (ite_keeps P (fun _ => ?_) (fun _ => ?_))
  · exact startProbe_keeps K ‹_›
  · assumption

theorem execPwrClamp_keeps (K : Keeps P) {ch : Fin 64} {engaged : Bool} {s : State} (hs : P s) :
    Nxt P (execPwrClamp ch engaged s) := by
  unfold execPwrClamp
  extract_lets -merge +onlyGivenNames x1
  try clear_value x1
  refine nxt_keeps (ite_keeps P (fun _ => ?_) (fun _ => ?_))
  · refine ite_keeps P (fun _ => ?_) (fun _ => ?_)
    · refine setFault_keeps K (noteBlank_keeps K ?_)
      exact setSlice_keeps K ‹_›
    · assumption
  · refine noteBlank_keeps K (setSlice_keeps K ?_)
    assumption

theorem execRampEnd_keeps (K : Keeps P) {ch : Fin 64} {s : State} (hs : P s) :
    Nxt P (execRampEnd ch s) := by
  unfold execRampEnd
  extract_lets -merge +onlyGivenNames x1
  try clear_value x1
  refine nxt_keeps ?_
  split
  · refine ite_keeps P (fun _ => ?_) (fun _ => ?_)
    · assumption
    · refine noteBlank_keeps K (setSlice_keeps K ?_)
      assumption
  · assumption

theorem execReferenceArrival_keeps (K : Keeps P) {ch : Fin 64} {us : List Nat} {s : State} (hs : P s) :
    Nxt P (execReferenceArrival ch us s) := by
  unfold execReferenceArrival
  refine nxt_keeps ?_
  split
  · extract_lets -merge +onlyGivenNames x1
    try clear_value x1
    extract_lets -merge +onlyGivenNames x2
    have hx2 : P x2 := by
      exact K.upd ‹_›
    clear_value x2
    refine ite_keeps P (fun _ => ?_) (fun _ => ?_)
    · exact arrive_keeps K ‹_›
    · assumption
  · assumption

theorem execRetryDue_keeps (K : Keeps P) {ch : Fin 64} {vMv : Nat} {iUa : Nat} {s : State} (hs : P s) :
    Nxt P (execRetryDue ch vMv iUa s) := by
  unfold execRetryDue
  extract_lets -merge +onlyGivenNames x1
  try clear_value x1
  refine nxt_keeps (ite_keeps P (fun _ => ?_) (fun _ => ?_))
  · extract_lets -merge +onlyGivenNames x2
    try clear_value x2
    extract_lets -merge +onlyGivenNames x3
    have hx3 : P x3 := by
      refine detectLatent_keeps K (setSlice_keeps K ?_)
      assumption
    clear_value x3
    extract_lets -merge +onlyGivenNames x4
    try clear_value x4
    extract_lets -merge +onlyGivenNames x5
    have hx5 : P x5 := by
      exact setSlice_keeps K ‹_›
    clear_value x5
    refine ite_keeps P (fun _ => ?_) (fun _ => ?_)
    · exact biasOrWait_keeps K ‹_›
    · assumption
  · assumption

theorem execSoftStartEnd_keeps (K : Keeps P) {ch : Fin 64} {s : State} (hs : P s) :
    Nxt P (execSoftStartEnd ch s) := by
  unfold execSoftStartEnd
  refine nxt_keeps (ite_keeps P (fun _ => ?_) (fun _ => ?_))
  · refine noteBlank_keeps K (setSlice_keeps K ?_)
    assumption
  · assumption

/-! Chn -/

theorem setChain_keeps (K : Keeps P) {k : Nat} {x : ChainSt} {s : State} (hs : P s) :
    P (setChain k x s) := by
  unfold setChain
  exact K.upd ‹_›

theorem chnEnableRise_keeps (K : Keeps P) {k : Nat} {s : State} (hs : P s) :
    P (chnEnableRise k s) := by
  unfold chnEnableRise
  extract_lets -merge +onlyGivenNames x1
  try clear_value x1
  extract_lets -merge +onlyGivenNames x2
  try clear_value x2
  refine setB_keeps K (setChain_keeps K ?_)
  assumption

theorem chnFall_keeps (K : Keeps P) {k : Nat} {s : State} (hs : P s) :
    P (chnFall k s) := by
  unfold chnFall
  extract_lets -merge +onlyGivenNames x1
  try clear_value x1
  extract_lets -merge +onlyGivenNames x2
  try clear_value x2
  extract_lets -merge +onlyGivenNames x3
  have hx3 : P x3 := by
    exact setChain_keeps K ‹_›
  clear_value x3
  refine setB_keeps K (setB_keeps K ?_)
  assumption

theorem chnFaultIrq_keeps (K : Keeps P) {k : Nat} {s : State} (hs : P s) :
    P (chnFaultIrq k s) := by
  unfold chnFaultIrq
  refine ite_keeps P (fun _ => ?_) (fun _ => ?_)
  · exact raise_keeps K ‹_›
  · assumption

theorem endMeasure_keeps (K : Keeps P) {k : Nat} {s : State} (hs : P s) :
    P (endMeasure k s) := by
  unfold endMeasure
  refine setB_keeps K (setChain_keeps K ?_)
  assumption

theorem showDiv_keeps (K : Keeps P) {k : Nat} {s : State} (hs : P s) :
    P (showDiv k s) := by
  unfold showDiv
  extract_lets -merge +onlyGivenNames x1
  try clear_value x1
  refine ite_keeps P (fun _ => ?_) (fun _ => ?_)
  · refine drawn_keeps K (setF_keeps K ?_)
    assumption
  · exact setF_keeps K ‹_›

theorem startFrame_keeps (K : Keeps P) {k : Nat} {s : State} (hs : P s) :
    P (startFrame k s) := by
  unfold startFrame
  extract_lets -merge +onlyGivenNames x1
  try clear_value x1
  extract_lets -merge +onlyGivenNames x2
  have hx2 : P x2 := by
    refine ite_keeps P (fun _ => ?_) (fun _ => ?_)
    · exact K.upd ‹_›
    · assumption
  clear_value x2
  extract_lets -merge +onlyGivenNames x3
  try clear_value x3
  extract_lets -merge +onlyGivenNames x4
  have hx4 : P x4 := by
    exact setChain_keeps K ‹_›
  clear_value x4
  refine showDiv_keeps K (setB_keeps K ?_)
  assumption

theorem execChainFrameStart_keeps (K : Keeps P) {k : Fin 4} {s : State} (hs : P s) :
    Nxt P (execChainFrameStart k s) := by
  unfold execChainFrameStart
  refine nxt_keeps (ite_keeps P (fun _ => ?_) (fun _ => ?_))
  · exact startFrame_keeps K ‹_›
  · assumption

theorem setChnFault_keeps (K : Keeps P) {k : Nat} {i : Nat} {s : State} (hs : P s) :
    P (setChnFault k i s) := by
  unfold setChnFault
  refine chnFaultIrq_keeps K (setF_keeps K ?_)
  assumption

theorem returnCheck_keeps (K : Keeps P) {k : Nat} {ret : List Bool} {s : State} (hs : P s) :
    P (returnCheck k ret s) := by
  unfold returnCheck
  extract_lets -merge +onlyGivenNames x1
  try clear_value x1
  extract_lets -merge +onlyGivenNames x2
  try clear_value x2
  refine ite_keeps P (fun _ => ?_) (fun _ => ?_)
  · extract_lets -merge +onlyGivenNames x3
    have hx3 : P x3 := by
      exact setB_keeps K ‹_›
    clear_value x3
    refine ite_keeps P (fun _ => ?_) (fun _ => ?_)
    · refine addF_keeps K (setChnFault_keeps K ?_)
      assumption
    · split
      · assumption
      · extract_lets -merge +onlyGivenNames x4
        have hx4 : P x4 := by
          refine setF_keeps K (setF_keeps K ?_)
          assumption
        clear_value x4
        refine addF_keeps K (setChnFault_keeps K ?_)
        assumption
  · exact setB_keeps K ‹_›

theorem latchWords_keeps (K : Keeps P) {k : Nat} {ws : List (BitVec 48)} {s : State} (hs : P s) :
    P (latchWords k ws s) := by
  unfold latchWords
  refine each_keeps K (fun _ _ _ => ?_) ?_
  · refine setR_keeps K (setR_keeps K ?_)
    assumption
  · assumption

theorem startMeasure_keeps (K : Keeps P) {k : Nat} {s : State} (hs : P s) :
    P (startMeasure k s) := by
  unfold startMeasure
  refine ite_keeps P (fun _ => ?_) (fun _ => ?_)
  · refine showDiv_keeps K (setB_keeps K ?_)
    exact setChain_keeps K ‹_›
  · assumption

theorem execChainLatch_keeps (K : Keeps P) {k : Fin 4} {ret : List Bool} {s : State} (hs : P s) :
    Nxt P (execChainLatch k ret s) := by
  unfold execChainLatch
  refine nxt_keeps (ite_keeps P (fun _ => ?_) (fun _ => ?_))
  · extract_lets -merge +onlyGivenNames x1
    try clear_value x1
    extract_lets -merge +onlyGivenNames x2
    try clear_value x2
    extract_lets -merge +onlyGivenNames x3
    have hx3 : P x3 := by
      refine returnCheck_keeps K (latchWords_keeps K ?_)
      exact setB_keeps K ‹_›
    clear_value x3
    extract_lets -merge +onlyGivenNames x4
    try clear_value x4
    extract_lets -merge +onlyGivenNames x5
    have hx5 : P x5 := by
      exact setChain_keeps K ‹_›
    clear_value x5
    refine startMeasure_keeps K (raise_keeps K ?_)
    refine bump_keeps K (emit_keeps K ?_)
    assumption
  · assumption

theorem execChainRefreshDue_keeps (K : Keeps P) {k : Fin 4} {s : State} (hs : P s) :
    Nxt P (execChainRefreshDue k s) := by
  unfold execChainRefreshDue
  refine nxt_keeps (ite_keeps P (fun _ => ?_) (fun _ => ?_))
  · extract_lets -merge +onlyGivenNames x1
    try clear_value x1
    extract_lets -merge +onlyGivenNames x2
    have hx2 : P x2 := by
      exact setChain_keeps K ‹_›
    clear_value x2
    refine ite_keeps P (fun _ => ?_) (fun _ => ?_)
    · refine addF_keeps K (setChnFault_keeps K ?_)
      assumption
    · assumption
  · assumption

theorem execChnDrvSet_keeps (K : Keeps P) {k : Fin 4} {d : Fin 128} {v : Word} {s : State} (hs : P s) :
    Nxt P (execChnDrvSet k d v s) := by
  unfold execChnDrvSet
  refine nxt_keeps (ite_keeps P (fun _ => ?_) (fun _ => ?_))
  · extract_lets -merge +onlyGivenNames x1
    have hx1 : P x1 := by
      exact writeReg_keeps K ‹_›
    clear_value x1
    exact captureReq_keeps K ‹_›
  · assumption

theorem execMeasure_keeps (K : Keeps P) {k : Fin 4} {s : State} (hs : P s) :
    Nxt P (execMeasure k s) := by
  unfold execMeasure
  refine nxt_keeps (ite_keeps P (fun _ => ?_) (fun _ => ?_))
  · refine startMeasure_keeps K (setChain_keeps K ?_)
    assumption
  · assumption

theorem execMeasureDone_keeps (K : Keeps P) {k : Fin 4} {edges : Nat} {s : State} (hs : P s) :
    Nxt P (execMeasureDone k edges s) := by
  unfold execMeasureDone
  refine nxt_keeps (ite_keeps P (fun _ => ?_) (fun _ => ?_))
  · extract_lets -merge +onlyGivenNames x1
    have hx1 : P x1 := by
      refine setF_keeps K (endMeasure_keeps K ?_)
      assumption
    clear_value x1
    refine ite_keeps P (fun _ => ?_) (fun _ => ?_)
    · exact setChnFault_keeps K ‹_›
    · assumption
  · assumption

theorem execMeasureNoret_keeps (K : Keeps P) {k : Fin 4} {s : State} (hs : P s) :
    Nxt P (execMeasureNoret k s) := by
  unfold execMeasureNoret
  refine nxt_keeps (ite_keeps P (fun _ => ?_) (fun _ => ?_))
  · refine setChnFault_keeps K (endMeasure_keeps K ?_)
    assumption
  · assumption

theorem execReshift_keeps (K : Keeps P) {k : Fin 4} {s : State} (hs : P s) :
    Nxt P (execReshift k s) := by
  unfold execReshift
  refine nxt_keeps (ite_keeps P (fun _ => ?_) (fun _ => ?_))
  · exact setChain_keeps K ‹_›
  · assumption

theorem judgeReady_keeps (K : Keeps P) {k : Nat} {s : State} (hs : P s) :
    P (judgeReady k s) := by
  unfold judgeReady
  refine ite_keeps P (fun _ => ?_) (fun _ => ?_)
  · exact setB_keeps K ‹_›
  · assumption

theorem passWord_keeps (K : Keeps P) {k : Nat} {d : Nat} {w : BitVec 48} {s : State} (hs : P s) :
    P (passWord k d w s) := by
  unfold passWord
  extract_lets -merge +onlyGivenNames x1
  try clear_value x1
  extract_lets -merge +onlyGivenNames x2
  try clear_value x2
  refine judgeReady_keeps K (setChain_keeps K ?_)
  assumption

/-! KeyOps -/

theorem showOpen_keeps (K : Keeps P) {s : State} (hs : P s) :
    P (showOpen s) := by
  unfold showOpen
  exact setB_keeps K ‹_›

theorem recordZero_keeps (K : Keeps P) {cause : Nat} {s : State} (hs : P s) :
    P (recordZero cause s) := by
  unfold recordZero
  refine setR_keeps K (addF_keeps K ?_)
  exact setF_keeps K ‹_›

theorem closeDebug_keeps (K : Keeps P) {s : State} (hs : P s) :
    P (closeDebug s) := by
  unfold closeDebug
  refine setB_keeps K (setB_keeps K ?_)
  exact K.upd ‹_›

theorem clearLoaded_keeps (K : Keeps P) {p : Nat → Bool} {s : State} (hs : P s) :
    P (clearLoaded p s) := by
  unfold clearLoaded
  extract_lets -merge +onlyGivenNames x1
  try clear_value x1
  extract_lets -merge +onlyGivenNames x2
  try clear_value x2
  exact K.upd ‹_›

theorem keyAnswer_keeps (K : Keeps P) {c : Code} {s : State} (hs : P s) :
    P (keyAnswer c s) := by
  unfold keyAnswer
  refine raise_keeps K (unspoilLong_keeps K ?_)
  exact setF_keeps K ‹_›

theorem keyOut_keeps (K : Keeps P) {b : Option (List Byte)} {s : State} (hs : P s) :
    P (keyOut b s) := by
  unfold keyOut
  split
  · refine each_keeps K (fun _ _ _ => ?_) ?_
    · refine unspoil_keeps K (setR_keeps K ?_)
      assumption
    · assumption
  · refine each_keeps K (fun _ _ _ => ?_) ?_
    · exact spoilReg_keeps K ‹_›
    · assumption

theorem zeroStore_keeps (K : Keeps P) {s : State} (hs : P s) :
    P (zeroStore s) := by
  unfold zeroStore
  extract_lets -merge +onlyGivenNames x1
  try clear_value x1
  extract_lets -merge +onlyGivenNames x2
  have hx2 : P x2 := by
    refine each_keeps K (fun _ _ _ => ?_) ?_
    · exact setR_keeps K ‹_›
    · exact K.upd ‹_›
  clear_value x2
  extract_lets -merge +onlyGivenNames x3
  have hx3 : P x3 := by
    exact clearLoaded_keeps K ‹_›
  clear_value x3
  split
  · refine keyAnswer_keeps K (keyOut_keeps K ?_)
    refine setB_keeps K (K.upd ?_)
    assumption
  · assumption

theorem haltCores_keeps (K : Keeps P) {s : State} (hs : P s) :
    P (haltCores s) := by
  unfold haltCores
  extract_lets -merge +onlyGivenNames x1
  try clear_value x1
  extract_lets -merge +onlyGivenNames x2
  have hx2 : P x2 := by
    refine setB_keeps K (K.upd ?_)
    assumption
  clear_value x2
  refine setF_keeps K (setF_keeps K ?_)
  assumption

theorem tamperTrip_keeps (K : Keeps P) {t : TamperSrc} {s : State} (hs : P s) :
    P (tamperTrip t s) := by
  unfold tamperTrip
  extract_lets -merge +onlyGivenNames x1
  have hx1 : P x1 := by
    refine raise_keeps K (setB_keeps K ?_)
    refine recordZero_keeps K (closeDebug_keeps K ?_)
    exact zeroStore_keeps K ‹_›
  clear_value x1
  refine ite_keeps P (fun _ => ?_) (fun _ => ?_)
  · refine ite_keeps P (fun _ => ?_) (fun _ => ?_)
    · exact K.upd ‹_›
    · exact haltCores_keeps K ‹_›
  · assumption

theorem armLoop_keeps (K : Keeps P) {t : TamperSrc} {s : State} (hs : P s) :
    P (armLoop t s) := by
  unfold armLoop
  extract_lets -merge +onlyGivenNames x1
  try clear_value x1
  extract_lets -merge +onlyGivenNames x2
  have hx2 : P x2 := by
    exact setF_keeps K ‹_›
  clear_value x2
  refine ite_keeps P (fun _ => ?_) (fun _ => ?_)
  · refine showOpen_keeps K (tamperTrip_keeps K ?_)
    assumption
  · assumption

theorem endTest_keeps (K : Keeps P) {s : State} (hs : P s) :
    P (endTest s) := by
  unfold endTest
  refine ite_keeps P (fun _ => ?_) (fun _ => ?_)
  · refine closeDebug_keeps K (zeroStore_keeps K ?_)
    assumption
  · assumption

theorem setMaterial_keeps (K : Keeps P) {n : Nat} {m : List Byte} {s : State} (hs : P s) :
    P (setMaterial n m s) := by
  unfold setMaterial
  exact K.upd ‹_›

theorem fillSlot_keeps (K : Keeps P) {n : Nat} {type : Nat} {usage : Nat} {parent : Nat} {depth : Nat} {pgen : Nat} {imported : Bool} {mat : List Byte} {s : State} (hs : P s) :
    P (fillSlot n type usage parent depth pgen imported mat s) := by
  unfold fillSlot
  extract_lets -merge +onlyGivenNames x1
  try clear_value x1
  refine setR_keeps K (setR_keeps K ?_)
  exact setMaterial_keeps K ‹_›

theorem purgeKeys_keeps (K : Keeps P) {s : State} (hs : P s) :
    P (purgeKeys s) := by
  unfold purgeKeys
  extract_lets -merge +onlyGivenNames x1
  try clear_value x1
  refine each_keeps K (fun _ _ _ => ?_) ?_
  · exact clearLoaded_keeps K ‹_›
  · exact K.upd ‹_›

theorem randomBits_keeps (K : Keeps P) {s : State} (hs : P s) :
    Snd P (randomBits s) := by
  unfold randomBits
  refine snd_mk (K.upd ?_)
  assumption

theorem setKeyWords_keeps (K : Keeps P) {ws : List Word} {s : State} (hs : P s) :
    P (setKeyWords ws s) := by
  unfold setKeyWords
  refine each_keeps K (fun _ _ _ => ?_) ?_
  · exact setR_keeps K ‹_›
  · assumption

/-! Key -/

theorem keyAsk_keeps (K : Keeps P) {who : KeyIssuer} {v : Word} {random : Nat} {f : State → State} {s : State} (hf : ∀ a0, P a0 → P (f a0)) (hs : P s) :
    P (keyAsk who v random f s) := by
  unfold keyAsk
  split
  · refine ite_keeps P (fun _ => ?_) (fun _ => ?_)
    · exact keyAnswer_keeps K ‹_›
    · refine ite_keeps P (fun _ => ?_) (fun _ => ?_)
      · refine byPort_keeps K (fun _ _ => ?_) ?_
        · refine hf _ ?_
          · assumption
        · assumption
      · refine ite_keeps P (fun _ => ?_) (fun _ => ?_)
        · assumption
        · exact captureReq_keeps K ‹_›
  · refine byPort_keeps K (fun _ _ => ?_) ?_
    · refine hf _ ?_
      · assumption
    · assumption

theorem keyPort_keeps (K : Keeps P) {start : State → Code × Option KeyRun × State} {s : State} (hstart : ∀ a0, P a0 → Snd (Snd P) (start a0)) (hs : P s) :
    P (keyPort start s) := by
  unfold keyPort
  refine ite_keeps P (fun _ => ?_) (fun _ => ?_)
  · exact keyAnswer_keeps K ‹_›
  · extract_lets -merge +onlyGivenNames x1
    have hx1 : Snd (Snd P) x1 := by
      refine hstart _ ?_
      · assumption
    clear_value x1
    split
    · refine setB_keeps K ?_
      extract_lets -merge +onlyGivenNames x2
      have hx2 : P x2 := by
        refine of_snd (of_snd ?_)
        assumption
      clear_value x2
      exact K.upd ‹_›
    · refine keyAnswer_keeps K (of_snd ?_)
      exact of_snd ‹_›

theorem keyCommand_keeps (K : Keeps P) {who : KeyIssuer} {v : Word} {random : Nat} {hostOnly : Bool} {start : State → Code × Option KeyRun × State} {s : State} (hstart : ∀ a0, P a0 → Snd (Snd P) (start a0)) (hs : P s) :
    P (keyCommand who v random hostOnly start s) := by
  unfold keyCommand
  refine keyAsk_keeps K (fun _ _ => ?_) ?_
  · refine ite_keeps P (fun _ => ?_) (fun _ => ?_)
    · exact keyAnswer_keeps K ‹_›
    · refine keyPort_keeps K (fun _ _ => ?_) ?_
      · refine hstart _ ?_
        · assumption
      · assumption
  · assumption

theorem execDebugChal_keeps (K : Keeps P) {who : KeyIssuer} {random : BitVec 128} {s : State} (hs : P s) :
    Nxt P (execDebugChal who random s) := by
  unfold execDebugChal
  refine nxt_keeps (keyCommand_keeps K (fun _ _ => ?_) ?_)
  · refine ite_keeps (Snd (Snd P)) (fun _ => ?_) (fun _ => ?_)
    · extract_lets -merge +onlyGivenNames x1
      try clear_value x1
      refine snd_mk (snd_mk ?_)
      exact K.upd ‹_›
    · refine snd_mk (snd_mk ?_)
      assumption
  · assumption

theorem execDebugOpen_keeps (K : Keeps P) {who : KeyIssuer} {s : State} (hs : P s) :
    Nxt P (execDebugOpen who s) := by
  unfold execDebugOpen
  refine nxt_keeps (keyCommand_keeps K (fun _ _ => ?_) ?_)
  · split
    · refine snd_mk (snd_mk ?_)
      assumption
    · extract_lets -merge +onlyGivenNames x1
      try clear_value x1
      refine snd_mk (snd_mk ?_)
      exact K.upd ‹_›
  · assumption

theorem execDerive_keeps (K : Keeps P) {who : KeyIssuer} {a : KeyArgs} {s : State} (hs : P s) :
    Nxt P (execDerive who a s) := by
  unfold execDerive
  refine nxt_keeps (keyCommand_keeps K (fun _ _ => ?_) ?_)
  · split
    · refine snd_mk (snd_mk ?_)
      assumption
    · extract_lets -merge +onlyGivenNames x1
      try clear_value x1
      refine ite_keeps (Snd (Snd P)) (fun _ => ?_) (fun _ => ?_)
      · refine snd_mk (snd_mk ?_)
        assumption
      · refine snd_mk (snd_mk ?_)
        exact K.upd ‹_›
  · assumption

theorem execDestroy_keeps (K : Keeps P) {who : KeyIssuer} {a : KeyArgs} {s : State} (hs : P s) :
    Nxt P (execDestroy who a s) := by
  unfold execDestroy
  extract_lets -merge +onlyGivenNames x1
  try clear_value x1
  refine nxt_keeps (keyAsk_keeps K (fun _ _ => ?_) ?_)
  · refine ite_keeps P (fun _ => ?_) (fun _ => ?_)
    · exact keyAnswer_keeps K ‹_›
    · refine ite_keeps P (fun _ => ?_) (fun _ => ?_)
      · exact keyAnswer_keeps K ‹_›
      · extract_lets -merge +onlyGivenNames x2
        have hx2 : P x2 := by
          refine setF_keeps K (setMaterial_keeps K ?_)
          assumption
        clear_value x2
        refine keyAnswer_keeps K (purgeKeys_keeps K ?_)
        exact K.upd ‹_›
  · assumption

theorem execDisarm_keeps (K : Keeps P) {who : KeyIssuer} {s : State} (hs : P s) :
    Nxt P (execDisarm who s) := by
  unfold execDisarm
  refine nxt_keeps (keyCommand_keeps K (fun _ _ => ?_) ?_)
  · refine ite_keeps (Snd (Snd P)) (fun _ => ?_) (fun _ => ?_)
    · refine snd_mk (snd_mk ?_)
      assumption
    · refine snd_mk (snd_mk ?_)
      assumption
  · assumption

theorem execGenRoot_keeps (K : Keeps P) {who : KeyIssuer} {a : KeyArgs} {random : BitVec 256} {s : State} (hs : P s) :
    Nxt P (execGenRoot who a random s) := by
  unfold execGenRoot
  refine nxt_keeps (keyCommand_keeps K (fun _ _ => ?_) ?_)
  · refine ite_keeps (Snd (Snd P)) (fun _ => ?_) (fun _ => ?_)
    · refine snd_mk (snd_mk ?_)
      assumption
    · refine snd_mk (snd_mk ?_)
      assumption
  · assumption

theorem execImportKey_keeps (K : Keeps P) {who : KeyIssuer} {a : KeyArgs} {s : State} (hs : P s) :
    Nxt P (execImportKey who a s) := by
  unfold execImportKey
  refine nxt_keeps (keyCommand_keeps K (fun _ _ => ?_) ?_)
  · split
    · refine snd_mk (snd_mk ?_)
      assumption
    · refine snd_mk (snd_mk ?_)
      assumption
  · assumption

theorem keySign_keeps (K : Keeps P) {c : Copies} {b : Option (List Byte)} {s : State} (hs : P s) :
    P (keySign c b s) := by
  unfold keySign
  split
  · exact keyOut_keeps K ‹_›
  · refine routeDiff_keeps K (keyOut_keeps K ?_)
    assumption
  · refine routeMissing_keeps K (keyOut_keeps K ?_)
    assumption

theorem placeKey_keeps (K : Keeps P) {dst : LoadDst} {k : TileKey} {s : State} (hs : P s) :
    P (placeKey dst k s) := by
  unfold placeKey
  split
  · exact K.upd ‹_›
  · refine ite_keeps P (fun _ => ?_) (fun _ => ?_)
    · refine setR_keeps K (setLease_keeps K ?_)
      assumption
    · assumption
  · extract_lets -merge +onlyGivenNames x1
    try clear_value x1
    refine ite_keeps P (fun _ => ?_) (fun _ => ?_)
    · exact setLease_keeps K ‹_›
    · assumption

theorem openDebug_keeps (K : Keeps P) {s : State} (hs : P s) :
    P (openDebug s) := by
  unfold openDebug
  extract_lets -merge +onlyGivenNames x1
  have hx1 : P x1 := by
    refine recordZero_keeps K (zeroStore_keeps K ?_)
    assumption
  clear_value x1
  refine fillSlot_keeps K (setB_keeps K ?_)
  exact setB_keeps K ‹_›

theorem keyFinish_keeps (K : Keeps P) {x : KeyRun} {c : Copies} {s : State} (hs : P s) :
    Snd P (keyFinish x c s) := by
  unfold keyFinish
  split
  · refine snd_mk (fillSlot_keeps K ?_)
    assumption
  · refine snd_mk (keyOut_keeps K ?_)
    assumption
  · refine snd_mk (keySign_keeps K ?_)
    assumption
  · refine snd_mk (placeKey_keeps K ?_)
    assumption
  · refine snd_mk (showOpen_keeps K ?_)
    exact setF_keeps K ‹_›
  · refine ite_keeps (Snd P) (fun _ => ?_) (fun _ => ?_)
    · refine snd_mk (openDebug_keeps K ?_)
      assumption
    · exact snd_mk ‹_›

theorem execKeyOpDone_keeps (K : Keeps P) {c : Copies} {s : State} (hs : P s) :
    Nxt P (execKeyOpDone c s) := by
  unfold execKeyOpDone
  refine nxt_keeps ?_
  split
  · assumption
  · extract_lets -merge +onlyGivenNames x1
    try clear_value x1
    extract_lets -merge +onlyGivenNames x2
    have hx2 : P x2 := by
      refine setB_keeps K (K.upd ?_)
      assumption
    clear_value x2
    extract_lets -merge +onlyGivenNames x3
    have hx3 : Snd P x3 := by
      exact keyFinish_keeps K ‹_›
    clear_value x3
    refine keyAnswer_keeps K (purgeKeys_keeps K ?_)
    exact of_snd ‹_›

theorem loadRoute_keeps (K : Keeps P) {who : KeyIssuer} {dst : LoadDst} {s : State} (hs : P s) :
    Snd P (loadRoute who dst s) := by
  unfold loadRoute
  split
  · exact snd_mk ‹_›
  · refine ite_keeps (Snd P) (fun _ => ?_) (fun _ => ?_)
    · split
      · exact snd_mk ‹_›
      · refine snd_mk (routeDiff_keeps K ?_)
        refine airEvt_keeps K (bump_keeps K ?_)
        assumption
      · refine snd_mk (routeMissing_keeps K ?_)
        exact bump_keeps K ‹_›
    · exact snd_mk ‹_›
  · exact snd_mk ‹_›

theorem execLoad_keeps (K : Keeps P) {who : KeyIssuer} {a : KeyArgs} {dst : LoadDst} {s : State} (hs : P s) :
    Nxt P (execLoad who a dst s) := by
  unfold execLoad
  extract_lets -merge +onlyGivenNames x1
  try clear_value x1
  extract_lets -merge +onlyGivenNames x2
  have hx2 : Snd P x2 := by
    exact loadRoute_keeps K ‹_›
  clear_value x2
  refine nxt_keeps (keyCommand_keeps K (fun _ _ => ?_) ?_)
  · refine ite_keeps (Snd (Snd P)) (fun _ => ?_) (fun _ => ?_)
    · refine snd_mk (snd_mk ?_)
      assumption
    · split
      · refine snd_mk (snd_mk ?_)
        assumption
      · refine ite_keeps (Snd (Snd P)) (fun _ => ?_) (fun _ => ?_)
        · refine snd_mk (snd_mk ?_)
          assumption
        · refine snd_mk (snd_mk ?_)
          assumption
  · exact of_snd ‹_›

theorem execPubkey_keeps (K : Keeps P) {who : KeyIssuer} {a : KeyArgs} {s : State} (hs : P s) :
    Nxt P (execPubkey who a s) := by
  unfold execPubkey
  extract_lets -merge +onlyGivenNames x1
  try clear_value x1
  refine nxt_keeps (keyCommand_keeps K (fun _ _ => ?_) ?_)
  · refine ite_keeps (Snd (Snd P)) (fun _ => ?_) (fun _ => ?_)
    · refine snd_mk (snd_mk ?_)
      assumption
    · split
      · refine snd_mk (snd_mk ?_)
        assumption
      · refine snd_mk (snd_mk ?_)
        assumption
  · assumption

theorem execSign_keeps (K : Keeps P) {who : KeyIssuer} {a : KeyArgs} {s : State} (hs : P s) :
    Nxt P (execSign who a s) := by
  unfold execSign
  extract_lets -merge +onlyGivenNames x1
  try clear_value x1
  refine nxt_keeps (keyCommand_keeps K (fun _ _ => ?_) ?_)
  · refine ite_keeps (Snd (Snd P)) (fun _ => ?_) (fun _ => ?_)
    · refine snd_mk (snd_mk ?_)
      assumption
    · split
      · refine snd_mk (snd_mk ?_)
        assumption
      · refine snd_mk (snd_mk ?_)
        assumption
  · assumption

theorem execTamperSourceClose_keeps (K : Keeps P) {t : TamperSrc} {s : State} (hs : P s) :
    Nxt P (execTamperSourceClose t s) := by
  unfold execTamperSourceClose
  refine nxt_keeps (showOpen_keeps K ?_)
  refine setF_keeps K (K.upd ?_)
  assumption

theorem execTamperTrip_keeps (K : Keeps P) {t : TamperSrc} {s : State} (hs : P s) :
    Nxt P (execTamperTrip t s) := by
  unfold execTamperTrip
  refine nxt_keeps (ite_keeps P (fun _ => ?_) (fun _ => ?_))
  · assumption
  · extract_lets -merge +onlyGivenNames x1
    try clear_value x1
    extract_lets -merge +onlyGivenNames x2
    have hx2 : P x2 := by
      refine setF_keeps K (K.upd ?_)
      assumption
    clear_value x2
    refine ite_keeps P (fun _ => ?_) (fun _ => ?_)
    · refine showOpen_keeps K (tamperTrip_keeps K ?_)
      assumption
    · assumption

theorem keyOp_keeps (K : Keeps P) {v : Word} {c : Copies} {random : Nat} {s : State} (hs : P s) :
    Nxt P (keyOp v c random s) := by
  unfold keyOp
  extract_lets -merge +onlyGivenNames x1
  try clear_value x1
  split
  · exact execGenRoot_keeps K ‹_›
  · exact execDerive_keeps K ‹_›
  · exact execImportKey_keeps K ‹_›
  · exact execDestroy_keeps K ‹_›
  · exact execSign_keeps K ‹_›
  · exact execPubkey_keeps K ‹_›
  · exact execLoad_keeps K ‹_›
  · exact execDisarm_keeps K ‹_›
  · exact execDebugChal_keeps K ‹_›
  · exact execDebugOpen_keeps K ‹_›
  · exact nxt_keeps ‹_›

theorem takeKey_keeps (K : Keeps P) {v : Word} {ws : List Word} {c : Copies} {random : Nat} {s : State} (hs : P s) :
    P (takeKey v ws c random s) := by
  unfold takeKey
  refine setKeyWords_keeps K (after_keeps K ?_ ?_)
  · refine keyOp_keeps K (setKeyWords_keeps K ?_)
    assumption
  · assumption

/-! StgOps -/

theorem imgReport_keeps (K : Keeps P) {r : Nat × Option Nat} {s : State} (hs : P s) :
    P (imgReport r s) := by
  unfold imgReport
  extract_lets -merge +onlyGivenNames x1
  try clear_value x1
  extract_lets -merge +onlyGivenNames x2
  have hx2 : P x2 := by
    refine ite_keeps P (fun _ => ?_) (fun _ => ?_)
    · exact drawn_keeps K ‹_›
    · assumption
  clear_value x2
  refine setF_keeps K (setF_keeps K ?_)
  exact setR_keeps K ‹_›

theorem setStaged_keeps (K : Keeps P) {d : StoreId} {t : Tab Byte} {s : State} (hs : P s) :
    P (setStaged d t s) := by
  unfold setStaged
  split
  · exact K.upd ‹_›
  · exact K.upd ‹_›
  · exact K.upd ‹_›
  · exact K.upd ‹_›

theorem setStagedLen_keeps (K : Keeps P) {d : StoreId} {n : Nat} {s : State} (hs : P s) :
    P (setStagedLen d n s) := by
  unfold setStagedLen
  split
  · exact K.upd ‹_›
  · exact K.upd ‹_›
  · exact K.upd ‹_›
  · exact K.upd ‹_›

theorem setStaging_keeps (K : Keeps P) {d : StoreId} {x : Staging} {s : State} (hs : P s) :
    P (setStaging d x s) := by
  unfold setStaging
  split
  · exact K.upd ‹_›
  · exact K.upd ‹_›

theorem stgAnswer_keeps (K : Keeps P) {d : StoreId} {c : Code} {s : State} (hs : P s) :
    P (stgAnswer d c s) := by
  unfold stgAnswer
  extract_lets -merge +onlyGivenNames x1
  have hx1 : P x1 := by
    exact setF_keeps K ‹_›
  clear_value x1
  split
  · exact raise_keeps K ‹_›
  · assumption

theorem stgAbort_keeps (K : Keeps P) {d : StoreId} {who : Party} {s : State} (hs : P s) :
    Snd P (stgAbort d who s) := by
  unfold stgAbort
  extract_lets -merge +onlyGivenNames x1
  try clear_value x1
  refine ite_keeps (Snd P) (fun _ => ?_) (fun _ => ?_)
  · extract_lets -merge +onlyGivenNames x2
    try clear_value x2
    extract_lets -merge +onlyGivenNames x3
    have hx3 : P x3 := by
      exact setStaging_keeps K ‹_›
    clear_value x3
    refine snd_mk (stgAnswer_keeps K ?_)
    split
    · exact raise_keeps K ‹_›
    · assumption
  · refine snd_mk (stgAnswer_keeps K ?_)
    assumption

theorem stgBegin_keeps (K : Keeps P) {d : StoreId} {who : Party} {s : State} (hs : P s) :
    Snd P (stgBegin d who s) := by
  unfold stgBegin
  extract_lets -merge +onlyGivenNames x1
  try clear_value x1
  refine ite_keeps (Snd P) (fun _ => ?_) (fun _ => ?_)
  · extract_lets -merge +onlyGivenNames x2
    have hx2 : P x2 := by
      refine setB_keeps K (setStaging_keeps K ?_)
      assumption
    clear_value x2
    extract_lets -merge +onlyGivenNames x3
    try clear_value x3
    extract_lets -merge +onlyGivenNames x4
    have hx4 : P x4 := by
      unfold x4
      split
      · exact K.upd ‹_›
      · assumption
    clear_value x4
    refine snd_mk (stgAnswer_keeps K ?_)
    assumption
  · refine snd_mk (stgAnswer_keeps K ?_)
    assumption

theorem stgCommit_keeps (K : Keeps P) {d : StoreId} {who : Party} {len : Nat} {s : State} (hs : P s) :
    Snd P (stgCommit d who len s) := by
  unfold stgCommit
  extract_lets -merge +onlyGivenNames x1
  try clear_value x1
  refine ite_keeps (Snd P) (fun _ => ?_) (fun _ => ?_)
  · extract_lets -merge +onlyGivenNames x2
    try clear_value x2
    extract_lets -merge +onlyGivenNames x3
    have hx3 : P x3 := by
      refine setStagedLen_keeps K (setStaging_keeps K ?_)
      assumption
    clear_value x3
    refine snd_mk (stgAnswer_keeps K ?_)
    split
    · exact raise_keeps K ‹_›
    · assumption
  · refine snd_mk (stgAnswer_keeps K ?_)
    assumption

theorem stgStore_keeps (K : Keeps P) {d : StoreId} {off : Nat} {bs : List Byte} {s : State} (hs : P s) :
    P (stgStore d off bs s) := by
  unfold stgStore
  exact setStaged_keeps K ‹_›

theorem stgWrite_keeps (K : Keeps P) {d : StoreId} {who : Party} {off : Nat} {bs : List Byte} {s : State} (hs : P s) :
    Snd P (stgWrite d who off bs s) := by
  unfold stgWrite
  extract_lets -merge +onlyGivenNames x1
  try clear_value x1
  refine ite_keeps (Snd P) (fun _ => ?_) (fun _ => ?_)
  · refine snd_mk (ite_keeps P (fun _ => ?_) (fun _ => ?_))
    · exact setStaging_keeps K ‹_›
    · exact stgStore_keeps K ‹_›
  · exact snd_mk ‹_›

theorem stgData_keeps (K : Keeps P) {d : StoreId} {v : Word} {s : State} (hs : P s) :
    P (stgData d v s) := by
  unfold stgData
  extract_lets -merge +onlyGivenNames x1
  try clear_value x1
  extract_lets -merge +onlyGivenNames x2
  have hx2 : Snd P x2 := by
    exact stgWrite_keeps K ‹_›
  clear_value x2
  refine ite_keeps P (fun _ => ?_) (fun _ => ?_)
  · refine setR_keeps K (of_snd ?_)
    assumption
  · exact of_snd ‹_›

theorem stgDiscard_keeps (K : Keeps P) {d : StoreId} {s : State} (hs : P s) :
    P (stgDiscard d s) := by
  unfold stgDiscard
  refine ite_keeps P (fun _ => ?_) (fun _ => ?_)
  · exact stgAnswer_keeps K ‹_›
  · split
    · refine stgAnswer_keeps K (setStaging_keeps K ?_)
      assumption
    · refine stgAnswer_keeps K (setStaging_keeps K ?_)
      assumption
    · exact stgAnswer_keeps K ‹_›

theorem stgIssue_keeps (K : Keeps P) {who : StgIssuer} {f : Party → State → Code × State} {s : State} (hf : ∀ a0 a1, P a1 → Snd P (f a0 a1)) (hs : P s) :
    P (stgIssue who f s) := by
  unfold stgIssue
  refine ite_keeps P (fun _ => ?_) (fun _ => ?_)
  · assumption
  · split
    · refine of_snd (hf _ _ ?_)
      · assumption
    · refine of_snd (hf _ _ ?_)
      · assumption
    · refine byPort_keeps K (fun _ _ => ?_) ?_
      · refine of_snd (hf _ _ ?_)
        · assumption
      · assumption

theorem stgZeroed_keeps (K : Keeps P) {d : StoreId} {s : State} (hs : P s) :
    P (stgZeroed d s) := by
  unfold stgZeroed
  extract_lets -merge +onlyGivenNames x1
  try clear_value x1
  refine ite_keeps P (fun _ => ?_) (fun _ => ?_)
  · extract_lets -merge +onlyGivenNames x2
    have hx2 : P x2 := by
      refine setStaged_keeps K (setStaging_keeps K ?_)
      assumption
    clear_value x2
    refine setB_keeps K (each_keeps K (fun _ _ _ => ?_) ?_)
    · exact stgStore_keeps K ‹_›
    · assumption
  · assumption

/-! Img -/

theorem execImgAbort_keeps (K : Keeps P) {who : StgIssuer} {s : State} (hs : P s) :
    Nxt P (execImgAbort who s) := by
  unfold execImgAbort
  refine nxt_keeps (stgIssue_keeps K (fun _ _ _ => ?_) ?_)
  · exact stgAbort_keeps K ‹_›
  · assumption

theorem execImgBegin_keeps (K : Keeps P) {who : StgIssuer} {s : State} (hs : P s) :
    Nxt P (execImgBegin who s) := by
  unfold execImgBegin
  refine nxt_keeps (stgIssue_keeps K (fun _ _ _ => ?_) ?_)
  · exact stgBegin_keeps K ‹_›
  · assumption

theorem execImgBeginDone_keeps (K : Keeps P) {s : State} (hs : P s) :
    Nxt P (execImgBeginDone s) := by
  unfold execImgBeginDone
  refine nxt_keeps (stgZeroed_keeps K ?_)
  assumption

theorem execImgCommit_keeps (K : Keeps P) {who : StgIssuer} {s : State} (hs : P s) :
    Nxt P (execImgCommit who s) := by
  unfold execImgCommit
  refine nxt_keeps (stgIssue_keeps K (fun _ _ _ => ?_) ?_)
  · exact stgCommit_keeps K ‹_›
  · assumption

theorem execImgDiscard_keeps (K : Keeps P) {s : State} (hs : P s) :
    Nxt P (execImgDiscard s) := by
  unfold execImgDiscard
  refine nxt_keeps (ite_keeps P (fun _ => ?_) (fun _ => ?_))
  · exact stgDiscard_keeps K ‹_›
  · assumption

theorem execImgStgData_keeps (K : Keeps P) {v : Word} {s : State} (hs : P s) :
    Nxt P (execImgStgData v s) := by
  unfold execImgStgData
  refine nxt_keeps (ite_keeps P (fun _ => ?_) (fun _ => ?_))
  · exact stgData_keeps K ‹_›
  · assumption

theorem execImgVerify_keeps (K : Keeps P) {s : State} (hs : P s) :
    Nxt P (execImgVerify s) := by
  unfold execImgVerify
  refine nxt_keeps (ite_keeps P (fun _ => ?_) (fun _ => ?_))
  · assumption
  · refine ite_keeps P (fun _ => ?_) (fun _ => ?_)
    · exact stgAnswer_keeps K ‹_›
    · refine ite_keeps P (fun _ => ?_) (fun _ => ?_)
      · refine setB_keeps K (K.upd ?_)
        assumption
      · exact stgAnswer_keeps K ‹_›

theorem execImgVerifyDone_keeps (K : Keeps P) {s : State} (hs : P s) :
    Nxt P (execImgVerifyDone s) := by
  unfold execImgVerifyDone
  refine nxt_keeps (ite_keeps P (fun _ => ?_) (fun _ => ?_))
  · extract_lets -merge +onlyGivenNames x1
    try clear_value x1
    refine raise_keeps K (imgReport_keeps K ?_)
    refine setB_keeps K (K.upd ?_)
    assumption
  · assumption

/-! UpdOps -/

theorem putRw_keeps (K : Keeps P) {off : Nat} {v : Word} {s : State} (hs : P s) :
    P (putRw off v s) := by
  unfold putRw
  extract_lets -merge +onlyGivenNames x1
  try clear_value x1
  exact setR_keeps K ‹_›

theorem applyItems_keeps (K : Keeps P) {p : Nat → Bool} {xs : List (Nat × List Word)} {s : State} (hs : P s) :
    P (applyItems p xs s) := by
  unfold applyItems
  refine each_keeps K (fun _ _ _ => ?_) ?_
  · split
    · refine each_keeps K (fun _ _ _ => ?_) ?_
      · refine ite_keeps P (fun _ => ?_) (fun _ => ?_)
        · exact putRw_keeps K ‹_›
        · assumption
      · assumption
    · assumption
  · assumption

theorem breakSeals_keeps (K : Keeps P) {s : State} (hs : P s) :
    P (breakSeals s) := by
  unfold breakSeals
  extract_lets -merge +onlyGivenNames x1
  have hx1 : P x1 := by
    refine setB_keeps K (setB_keeps K ?_)
    assumption
  clear_value x1
  exact K.upd ‹_›

theorem fwNone_keeps (K : Keeps P) {s : State} (hs : P s) :
    P (fwNone s) := by
  unfold fwNone
  extract_lets -merge +onlyGivenNames x1
  have hx1 : P x1 := by
    refine setF_keeps K (setR_keeps K ?_)
    exact setF_keeps K ‹_›
  clear_value x1
  refine setB_keeps K (setB_keeps K ?_)
  assumption

theorem enterRecovery_keeps (K : Keeps P) {reason : Nat} {s : State} (hs : P s) :
    P (enterRecovery reason s) := by
  unfold enterRecovery
  extract_lets -merge +onlyGivenNames x1
  try clear_value x1
  extract_lets -merge +onlyGivenNames x2
  have hx2 : P x2 := by
    refine setF_keeps K (fwNone_keeps K ?_)
    exact K.upd ‹_›
  clear_value x2
  extract_lets -merge +onlyGivenNames x3
  have hx3 : P x3 := by
    refine setF_keeps K (setR_keeps K ?_)
    assumption
  clear_value x3
  extract_lets -merge +onlyGivenNames x4
  have hx4 : P x4 := by
    refine each_keeps K (fun _ _ _ => ?_) ?_
    · exact setR_keeps K ‹_›
    · assumption
  clear_value x4
  refine pwrIssue_keeps K (setF_keeps K ?_)
  assumption

theorem fwRun_keeps (K : Keeps P) {s : State} (hs : P s) :
    P (fwRun s) := by
  unfold fwRun
  extract_lets -merge +onlyGivenNames x1
  try clear_value x1
  extract_lets -merge +onlyGivenNames x2
  try clear_value x2
  extract_lets -merge +onlyGivenNames x3
  have hx3 : P x3 := by
    refine setF_keeps K (setR_keeps K ?_)
    exact setR_keeps K ‹_›
  clear_value x3
  extract_lets -merge +onlyGivenNames x4
  have hx4 : P x4 := by
    exact setF_keeps K ‹_›
  clear_value x4
  extract_lets -merge +onlyGivenNames x5
  have hx5 : P x5 := by
    exact setB_keeps K ‹_›
  clear_value x5
  exact setB_keeps K ‹_›

theorem fwRecord_keeps (K : Keeps P) {e : Nat × Option Nat} {s : State} (hs : P s) :
    P (fwRecord e s) := by
  unfold fwRecord
  extract_lets -merge +onlyGivenNames x1
  try clear_value x1
  extract_lets -merge +onlyGivenNames x2
  have hx2 : P x2 := by
    refine ite_keeps P (fun _ => ?_) (fun _ => ?_)
    · exact drawn_keeps K ‹_›
    · assumption
  clear_value x2
  refine setF_keeps K (setR_keeps K ?_)
  assumption

theorem fwSettle_keeps (K : Keeps P) {s : State} (hs : P s) :
    P (fwSettle s) := by
  unfold fwSettle
  extract_lets -merge +onlyGivenNames x1
  try clear_value x1
  refine ite_keeps P (fun _ => ?_) (fun _ => ?_)
  · exact fwRun_keeps K ‹_›
  · extract_lets -merge +onlyGivenNames x2
    have hx2 : P x2 := by
      exact fwRecord_keeps K ‹_›
    clear_value x2
    extract_lets -merge +onlyGivenNames x3
    try clear_value x3
    refine ite_keeps P (fun _ => ?_) (fun _ => ?_)
    · exact enterRecovery_keeps K ‹_›
    · refine ite_keeps P (fun _ => ?_) (fun _ => ?_)
      · refine fwRun_keeps K (setF_keeps K ?_)
        exact K.upd ‹_›
      · refine enterRecovery_keeps K (fwRecord_keeps K ?_)
        assumption

theorem fwReject_keeps (K : Keeps P) {e : Nat × Option Nat} {s : State} (hs : P s) :
    P (fwReject e s) := by
  unfold fwReject
  refine raise_keeps K (setF_keeps K ?_)
  refine fwRecord_keeps K (setStaging_keeps K ?_)
  assumption

theorem chooseFw_keeps (K : Keeps P) {full : Bool} {s : State} (hs : P s) :
    P (chooseFw full s) := by
  unfold chooseFw
  refine ite_keeps P (fun _ => ?_) (fun _ => ?_)
  · refine enterRecovery_keeps K (K.upd ?_)
    assumption
  · refine ite_keeps P (fun _ => ?_) (fun _ => ?_)
    · extract_lets -merge +onlyGivenNames x1
      try clear_value x1
      refine ite_keeps P (fun _ => ?_) (fun _ => ?_)
      · refine fwRun_keeps K (K.upd ?_)
        assumption
      · refine fwSettle_keeps K (fwReject_keeps K ?_)
        exact K.upd ‹_›
    · refine ite_keeps P (fun _ => ?_) (fun _ => ?_)
      · extract_lets -merge +onlyGivenNames x2
        try clear_value x2
        refine ite_keeps P (fun _ => ?_) (fun _ => ?_)
        · refine fwRun_keeps K (K.upd ?_)
          assumption
        · refine fwSettle_keeps K (fwReject_keeps K ?_)
          assumption
      · exact fwSettle_keeps K ‹_›

theorem endSession_keeps (K : Keeps P) {s : State} (hs : P s) :
    P (endSession s) := by
  unfold endSession
  exact K.upd ‹_›

theorem freshTwins_keeps (K : Keeps P) {s : State} (hs : P s) :
    P (freshTwins s) := by
  unfold freshTwins
  refine setB_keeps K (K.upd ?_)
  assumption

theorem holdOut_keeps (K : Keeps P) {s : State} (hs : P s) :
    P (holdOut s) := by
  unfold holdOut
  extract_lets -merge +onlyGivenNames x1
  try clear_value x1
  extract_lets -merge +onlyGivenNames x2
  try clear_value x2
  extract_lets -merge +onlyGivenNames x3
  try clear_value x3
  extract_lets -merge +onlyGivenNames x4
  try clear_value x4
  extract_lets -merge +onlyGivenNames x5
  have hx5 : P x5 := by
    refine ite_keeps P (fun _ => ?_) (fun _ => ?_)
    · refine setF_keeps K (setTwin_keeps K ?_)
      exact K.upd ‹_›
    · refine ite_keeps P (fun _ => ?_) (fun _ => ?_)
      · refine setF_keeps K (setTwin_keeps K ?_)
        assumption
      · assumption
  clear_value x5
  exact rewriteReport_keeps K ‹_›

theorem putCopy_keeps (K : Keeps P) {sver : Nat} {items : List (Nat × List Word)} {s : State} (hs : P s) :
    P (putCopy sver items s) := by
  unfold putCopy
  extract_lets -merge +onlyGivenNames x1
  try clear_value x1
  extract_lets -merge +onlyGivenNames x2
  try clear_value x2
  refine ite_keeps P (fun _ => ?_) (fun _ => ?_)
  · exact K.upd ‹_›
  · exact K.upd ‹_›

theorem loadSettings_keeps (K : Keeps P) {p : Nat → Bool} {s : State} (hs : P s) :
    P (loadSettings p s) := by
  unfold loadSettings
  extract_lets -merge +onlyGivenNames x1
  try clear_value x1
  extract_lets -merge +onlyGivenNames x2
  try clear_value x2
  extract_lets -merge +onlyGivenNames x3
  have hx3 : ∀ a0 a1, P a1 → P (x3 a0 a1) := by
    intro a0 a1 _
    exact setF_keeps K ‹_›
  clear_value x3
  extract_lets -merge +onlyGivenNames x4
  have hx4 : ∀ a0 a1, P a1 → P (x4 a0 a1) := by
    intro a0 a1 _
    exact setF_keeps K ‹_›
  clear_value x4
  split
  · refine applyItems_keeps K (hx3 _ _ ?_)
    · refine hx4 _ _ ?_
      · assumption
  · split
    · extract_lets -merge +onlyGivenNames x5
      try clear_value x5
      refine raise_keeps K (applyItems_keeps K ?_)
      refine putCopy_keeps K (hx3 _ _ ?_)
      · refine hx4 _ _ ?_
        · assumption
    · extract_lets -merge +onlyGivenNames x6
      try clear_value x6
      refine applyItems_keeps K (putCopy_keeps K ?_)
      refine hx3 _ _ ?_
      · refine hx4 _ _ ?_
        · assumption

theorem openCopy_keeps (K : Keeps P) {s : State} (hs : P s) :
    P (openCopy s) := by
  unfold openCopy
  extract_lets -merge +onlyGivenNames x1
  try clear_value x1
  refine ite_keeps P (fun _ => ?_) (fun _ => ?_)
  · exact K.upd ‹_›
  · exact K.upd ‹_›

theorem rcvAnswer_keeps (K : Keeps P) {op : Nat} {q : RcvReq} {data : State → List Byte} {f : State → Code × State} {s : State} (hf : ∀ a0, P a0 → Snd P (f a0)) (hs : P s) :
    P (rcvAnswer op q data f s) := by
  unfold rcvAnswer
  extract_lets -merge +onlyGivenNames x1
  try clear_value x1
  extract_lets -merge +onlyGivenNames x2
  have hx2 : ∀ a0 a1 a2, P a2 → P (x2 a0 a1 a2) := by
    intro a0 a1 a2 _
    exact emit_keeps K ‹_›
  clear_value x2
  refine ite_keeps P (fun _ => ?_) (fun _ => ?_)
  · assumption
  · refine ite_keeps P (fun _ => ?_) (fun _ => ?_)
    · refine hx2 _ _ _ ?_
      · assumption
    · split
      · refine ite_keeps P (fun _ => ?_) (fun _ => ?_)
        · refine hx2 _ _ _ ?_
          · assumption
        · extract_lets -merge +onlyGivenNames x3
          have hx3 : Snd P x3 := by
            refine hf _ ?_
            · assumption
          clear_value x3
          refine hx2 _ _ _ ?_
          · extract_lets -merge +onlyGivenNames x4
            have hx4 : P x4 := by
              exact of_snd ‹_›
            clear_value x4
            exact K.upd ‹_›
      · extract_lets -merge +onlyGivenNames x5
        have hx5 : Snd P x5 := by
          refine hf _ ?_
          · assumption
        clear_value x5
        refine hx2 _ _ _ ?_
        · extract_lets -merge +onlyGivenNames x6
          have hx6 : P x6 := by
            exact of_snd ‹_›
          clear_value x6
          exact K.upd ‹_›

theorem romStage_keeps (K : Keeps P) {full : Bool} {s : State} (hs : P s) :
    P (romStage full s) := by
  unfold romStage
  refine holdOut_keeps K (chooseFw_keeps K ?_)
  refine freshTwins_keeps K (setF_keeps K ?_)
  assumption

theorem settingsCommand_keeps (K : Keeps P) {defaults : Bool} {s : State} (hs : P s) :
    P (settingsCommand defaults s) := by
  unfold settingsCommand
  refine ite_keeps P (fun _ => ?_) (fun _ => ?_)
  · exact stgAnswer_keeps K ‹_›
  · refine ite_keeps P (fun _ => ?_) (fun _ => ?_)
    · refine setB_keeps K (K.upd ?_)
      assumption
    · exact stgAnswer_keeps K ‹_›

theorem trialFail_keeps (K : Keeps P) {s : State} (hs : P s) :
    P (trialFail s) := by
  unfold trialFail
  refine romStage_keeps K (breakSeals_keeps K ?_)
  assumption

theorem trialPass_keeps (K : Keeps P) {s : State} (hs : P s) :
    P (trialPass s) := by
  unfold trialPass
  extract_lets -merge +onlyGivenNames x1
  try clear_value x1
  extract_lets -merge +onlyGivenNames x2
  try clear_value x2
  refine raise_keeps K (setR_keeps K ?_)
  refine setB_keeps K (K.upd ?_)
  assumption

/-! Rec -/

theorem setRec_keeps (K : Keeps P) {r : Nat} {x : EpRec} {s : State} (hs : P s) :
    P (setRec r x s) := by
  unfold setRec
  exact K.upd ‹_›

theorem changeRec_keeps (K : Keeps P) {r : Nat} {y : EpRec} {s : State} (hs : P s) :
    P (changeRec r y s) := by
  unfold changeRec
  refine ite_keeps P (fun _ => ?_) (fun _ => ?_)
  · assumption
  · extract_lets -merge +onlyGivenNames x1
    try clear_value x1
    refine setRec_keeps K (drawn_keeps K ?_)
    exact drawn_keeps K ‹_›

theorem showPresence_keeps (K : Keeps P) {i : Nat} {level : Bool} {edge : Bool} {s : State} (hs : P s) :
    P (showPresence i level edge s) := by
  unfold showPresence
  refine each_keeps K (fun _ _ _ => ?_) ?_
  · exact changeRec_keeps K ‹_›
  · assumption

theorem filterDue_keeps (K : Keeps P) {s : State} (hs : P s) :
    P (filterDue s) := by
  unfold filterDue
  extract_lets -merge +onlyGivenNames x1
  try clear_value x1
  refine each_keeps K (fun _ _ _ => ?_) ?_
  · exact showPresence_keeps K ‹_›
  · exact K.upd ‹_›

theorem filterEdge_keeps (K : Keeps P) {i : Nat} {level : Bool} {s : State} (hs : P s) :
    P (filterEdge i level s) := by
  unfold filterEdge
  extract_lets -merge +onlyGivenNames x1
  try clear_value x1
  refine ite_keeps P (fun _ => ?_) (fun _ => ?_)
  · exact K.upd ‹_›
  · refine ite_keeps P (fun _ => ?_) (fun _ => ?_)
    · exact showPresence_keeps K ‹_›
    · extract_lets -merge +onlyGivenNames x2
      try clear_value x2
      exact K.upd ‹_›

theorem showAin_keeps (K : Keeps P) {means : List Nat} {s : State} (hs : P s) :
    P (showAin means s) := by
  unfold showAin
  refine each_keeps K (fun _ _ _ => ?_) ?_
  · extract_lets -merge +onlyGivenNames x1
    try clear_value x1
    refine changeRec_keeps K (drawn_keeps K ?_)
    assumption
  · assumption

theorem recItem_keeps (K : Keeps P) {e : Nat} {i : DataItem} {s : State} (hs : P s) :
    P (recItem e i s) := by
  unfold recItem
  extract_lets -merge +onlyGivenNames x1
  try clear_value x1
  extract_lets -merge +onlyGivenNames x2
  try clear_value x2
  split
  · assumption
  · refine each_keeps K (fun _ _ _ => ?_) ?_
    · exact changeRec_keeps K ‹_›
    · assumption
  · refine each_keeps K (fun _ _ _ => ?_) ?_
    · exact changeRec_keeps K ‹_›
    · assumption
  · refine each_keeps K (fun _ _ _ => ?_) ?_
    · exact changeRec_keeps K ‹_›
    · assumption
  · refine each_keeps K (fun _ _ _ => ?_) ?_
    · exact changeRec_keeps K ‹_›
    · assumption
  · assumption

theorem recInput_keeps (K : Keeps P) {x : SplitIn} {s : State} (hs : P s) :
    P (recInput x s) := by
  unfold recInput
  split
  · exact filterEdge_keeps K ‹_›
  · refine showAin_keeps K (each_keeps K (fun _ _ _ => ?_) ?_)
    · exact showPresence_keeps K ‹_›
    · exact K.upd ‹_›
  · exact showAin_keeps K ‹_›
  · split
    · assumption
    · extract_lets -merge +onlyGivenNames x1
      have hx1 : P x1 := by
        refine each_keeps K (fun _ _ _ => ?_) ?_
        · exact changeRec_keeps K ‹_›
        · assumption
      clear_value x1
      refine ite_keeps P (fun _ => ?_) (fun _ => ?_)
      · refine each_keeps K (fun _ _ _ => ?_) ?_
        · exact recItem_keeps K ‹_›
        · assumption
      · assumption
  · assumption

theorem recTarget_keeps (K : Keeps P) {code : Nat} {r : Nat} {s : State} (hs : P s) :
    P (recTarget code r s) := by
  unfold recTarget
  exact changeRec_keeps K ‹_›

theorem recUpdate_keeps (K : Keeps P) {r : Nat} {s : State} (hs : P s) :
    P (recUpdate r s) := by
  unfold recUpdate
  extract_lets -merge +onlyGivenNames x1
  try clear_value x1
  extract_lets -merge +onlyGivenNames x2
  try clear_value x2
  extract_lets -merge +onlyGivenNames x3
  try clear_value x3
  refine changeRec_keeps K (ite_keeps P (fun _ => ?_) (fun _ => ?_))
  · exact K.upd ‹_›
  · assumption

/-! PlnOps -/

theorem setAcc_keeps (K : Keeps P) {r : Nat} {x : SAcc} {s : State} (hs : P s) :
    P (setAcc r x s) := by
  unfold setAcc
  exact K.upd ‹_›

theorem accStep_keeps (K : Keeps P) {r : Nat} {s : State} (hs : P s) :
    P (accStep r s) := by
  unfold accStep
  extract_lets -merge +onlyGivenNames x1
  try clear_value x1
  extract_lets -merge +onlyGivenNames x2
  try clear_value x2
  extract_lets -merge +onlyGivenNames x3
  try clear_value x3
  extract_lets -merge +onlyGivenNames x4
  try clear_value x4
  extract_lets -merge +onlyGivenNames x5
  try clear_value x5
  exact setAcc_keeps K ‹_›

theorem badDrawn_keeps (K : Keeps P) {bad : Bool} {len : Nat} {s : State} (hs : P s) :
    P (badDrawn bad len s) := by
  unfold badDrawn
  refine ite_keeps P (fun _ => ?_) (fun _ => ?_)
  · exact K.upd ‹_›
  · assumption

theorem setSeries_keeps (K : Keeps P) {k : Nat} {x : Option BSer} {s : State} (hs : P s) :
    P (setSeries k x s) := by
  unfold setSeries
  exact K.upd ‹_›

theorem closeSeries_keeps (K : Keeps P) {k : Nat} {s : State} (hs : P s) :
    P (closeSeries k s) := by
  unfold closeSeries
  split
  · extract_lets -merge +onlyGivenNames x1
    try clear_value x1
    extract_lets -merge +onlyGivenNames x2
    try clear_value x2
    extract_lets -merge +onlyGivenNames x3
    try clear_value x3
    extract_lets -merge +onlyGivenNames x4
    try clear_value x4
    extract_lets -merge +onlyGivenNames x5
    try clear_value x5
    extract_lets -merge +onlyGivenNames x6
    try clear_value x6
    extract_lets -merge +onlyGivenNames x7
    have hx7 : P x7 := by
      exact setSeries_keeps K ‹_›
    clear_value x7
    exact K.upd ‹_›
  · assumption

theorem upPush_keeps (K : Keeps P) {e : UpEnt} {s : State} (hs : P s) :
    P (upPush e s) := by
  unfold upPush
  exact K.upd ‹_›

theorem toTlm_keeps (K : Keeps P) {cls : Nat} {b : List Byte} {s : State} (hs : P s) :
    P (toTlm cls b s) := by
  unfold toTlm
  refine ite_keeps P (fun _ => ?_) (fun _ => ?_)
  · exact emit_keeps K ‹_›
  · exact bump_keeps K ‹_›

theorem sendBlock_keeps (K : Keeps P) {cls : Nat} {b : List Byte} {s : State} (hs : P s) :
    Snd P (sendBlock cls b s) := by
  unfold sendBlock
  refine ite_keeps (Snd P) (fun _ => ?_) (fun _ => ?_)
  · refine ite_keeps (Snd P) (fun _ => ?_) (fun _ => ?_)
    · refine snd_mk (upPush_keeps K ?_)
      assumption
    · exact snd_mk ‹_›
  · refine snd_mk (toTlm_keeps K ?_)
    assumption

theorem countClose_keeps (K : Keeps P) {cls : Nat} {s : State} (hs : P s) :
    P (countClose cls s) := by
  unfold countClose
  refine raise_keeps K (bump_keeps K ?_)
  assumption

theorem closeB_keeps (K : Keeps P) {s : State} (hs : P s) :
    P (closeB s) := by
  unfold closeB
  refine ite_keeps P (fun _ => ?_) (fun _ => ?_)
  · assumption
  · extract_lets -merge +onlyGivenNames x1
    have hx1 : P x1 := by
      refine each_keeps K (fun _ _ _ => ?_) ?_
      · exact closeSeries_keeps K ‹_›
      · assumption
    clear_value x1
    split
    · assumption
    · extract_lets -merge +onlyGivenNames x2
      try clear_value x2
      extract_lets -merge +onlyGivenNames x3
      try clear_value x3
      extract_lets -merge +onlyGivenNames x4
      have hx4 : Snd P x4 := by
        refine sendBlock_keeps K (badDrawn_keeps K ?_)
        exact countClose_keeps K ‹_›
      clear_value x4
      extract_lets -merge +onlyGivenNames x5
      have hx5 : P x5 := by
        exact of_snd ‹_›
      clear_value x5
      extract_lets -merge +onlyGivenNames x6
      try clear_value x6
      extract_lets -merge +onlyGivenNames x7
      have hx7 : P x7 := by
        exact K.upd ‹_›
      clear_value x7
      refine ite_keeps P (fun _ => ?_) (fun _ => ?_)
      · assumption
      · exact bump_keeps K ‹_›

theorem setLEnt_keeps (K : Keeps P) {k : Nat} {x : LEnt} {s : State} (hs : P s) :
    P (setLEnt k x s) := by
  unfold setLEnt
  exact K.upd ‹_›

theorem takePend_keeps (K : Keeps P) {items : List LItem} {s : State} (hs : P s) :
    Snd P (takePend items s) := by
  unfold takePend
  refine foldl_keeps (Snd P) (fun _ _ _ => ?_) ?_
  · refine ite_keeps (Snd P) (fun _ => ?_) (fun _ => ?_)
    · refine snd_mk (setLEnt_keeps K ?_)
      exact of_snd ‹_›
    · assumption
  · exact snd_mk ‹_›

theorem lPend_keeps (K : Keeps P) {i : LItem} {s : State} (hs : P s) :
    P (lPend i s) := by
  unfold lPend
  extract_lets -merge +onlyGivenNames x1
  try clear_value x1
  extract_lets -merge +onlyGivenNames x2
  try clear_value x2
  split
  · exact setLEnt_keeps K ‹_›
  · refine bump_keeps K (setLEnt_keeps K ?_)
    assumption

theorem closeL_keeps (K : Keeps P) {s : State} (hs : P s) :
    P (closeL s) := by
  unfold closeL
  split
  · assumption
  · extract_lets -merge +onlyGivenNames x1
    try clear_value x1
    extract_lets -merge +onlyGivenNames x2
    have hx2 : Snd P x2 := by
      refine takePend_keeps K (K.upd ?_)
      assumption
    clear_value x2
    extract_lets -merge +onlyGivenNames x3
    have hx3 : P x3 := by
      exact of_snd ‹_›
    clear_value x3
    extract_lets -merge +onlyGivenNames x4
    try clear_value x4
    extract_lets -merge +onlyGivenNames x5
    try clear_value x5
    extract_lets -merge +onlyGivenNames x6
    have hx6 : Snd P x6 := by
      refine sendBlock_keeps K (badDrawn_keeps K ?_)
      exact countClose_keeps K ‹_›
    clear_value x6
    refine ite_keeps P (fun _ => ?_) (fun _ => ?_)
    · extract_lets -merge +onlyGivenNames x7
      have hx7 : P x7 := by
        exact of_snd ‹_›
      clear_value x7
      exact K.upd ‹_›
    · refine each_keeps K (fun _ _ _ => ?_) ?_
      · exact lPend_keeps K ‹_›
      · exact of_snd ‹_›

theorem sBack_keeps (K : Keeps P) {b : SBlk} {i : SItem} {s : State} (hs : P s) :
    P (sBack b i s) := by
  unfold sBack
  split
  · exact K.upd ‹_›
  · exact K.upd ‹_›

theorem closeS_keeps (K : Keeps P) {s : State} (hs : P s) :
    P (closeS s) := by
  unfold closeS
  split
  · assumption
  · extract_lets -merge +onlyGivenNames x1
    try clear_value x1
    extract_lets -merge +onlyGivenNames x2
    have hx2 : P x2 := by
      exact K.upd ‹_›
    clear_value x2
    extract_lets -merge +onlyGivenNames x3
    try clear_value x3
    extract_lets -merge +onlyGivenNames x4
    try clear_value x4
    extract_lets -merge +onlyGivenNames x5
    have hx5 : Snd P x5 := by
      refine sendBlock_keeps K (badDrawn_keeps K ?_)
      exact countClose_keeps K ‹_›
    clear_value x5
    refine ite_keeps P (fun _ => ?_) (fun _ => ?_)
    · extract_lets -merge +onlyGivenNames x6
      have hx6 : P x6 := by
        exact of_snd ‹_›
      clear_value x6
      exact K.upd ‹_›
    · refine each_keeps K (fun _ _ _ => ?_) ?_
      · exact sBack_keeps K ‹_›
      · exact of_snd ‹_›

end Sys2Proof.Machine
end

