-- ==== Sys2Proof/Laws/Keeps4.lean ====
section
/-! SUPPORT. What every operation of the model keeps, continued: the operations of PlnOps, HierOps, Hier, Pln, Ulust, Blk, Cal. -/

namespace Sys2Proof.Machine

variable {P : State → Prop}

/-! PlnOps -/

theorem deferSample_keeps (K : Keeps P) {x : Nat × Nat} {s : State} (hs : P s) :
    P (deferSample x s) := by
  unfold deferSample
  extract_lets -merge +onlyGivenNames x1
  have hx1 : P x1 := by
    refine bump_keeps K (ite_keeps P (fun _ => ?_) (fun _ => ?_))
    · exact closeSeries_keeps K ‹_›
    · assumption
  clear_value x1
  exact K.upd ‹_›

theorem gatherFault_keeps (K : Keeps P) {x : Nat × Nat} {s : State} (hs : P s) :
    P (gatherFault x s) := by
  unfold gatherFault
  refine ite_keeps P (fun _ => ?_) (fun _ => ?_)
  · extract_lets -merge +onlyGivenNames x1
    try clear_value x1
    exact setLEnt_keeps K ‹_›
  · assumption

theorem placeL_keeps (K : Keeps P) {i : LItem} {bad : Bool} {s : State} (hs : P s) :
    P (placeL i bad s) := by
  unfold placeL
  extract_lets -merge +onlyGivenNames x1
  have hx1 : P x1 := by
    unfold x1
    split
    · refine ite_keeps P (fun _ => ?_) (fun _ => ?_)
      · assumption
      · exact closeL_keeps K ‹_›
    · assumption
  clear_value x1
  refine ite_keeps P (fun _ => ?_) (fun _ => ?_)
  · exact lPend_keeps K ‹_›
  · split
    · exact K.upd ‹_›
    · exact K.upd ‹_›

theorem placeS_keeps (K : Keeps P) {base : Word} {rounds : Nat} {i : SItem} {s : State} (hs : P s) :
    P (placeS base rounds i s) := by
  unfold placeS
  extract_lets -merge +onlyGivenNames x1
  have hx1 : P x1 := by
    unfold x1
    split
    · refine ite_keeps P (fun _ => ?_) (fun _ => ?_)
      · assumption
      · exact closeS_keeps K ‹_›
    · assumption
  clear_value x1
  split
  · exact K.upd ‹_›
  · exact K.upd ‹_›

theorem planeStarts_keeps (K : Keeps P) {s : State} (hs : P s) :
    P (planeStarts s) := by
  unfold planeStarts
  refine setB_keeps K (K.upd ?_)
  assumption

theorem refillL_keeps (K : Keeps P) {s : State} (hs : P s) :
    P (refillL s) := by
  unfold refillL
  refine ite_keeps P (fun _ => ?_) (fun _ => ?_)
  · assumption
  · split
    · assumption
    · extract_lets -merge +onlyGivenNames x1
      try clear_value x1
      refine placeL_keeps K (setLEnt_keeps K ?_)
      assumption

theorem summaryDone_keeps (K : Keeps P) {formed : Bool} {s : State} (hs : P s) :
    P (summaryDone formed s) := by
  unfold summaryDone
  refine ite_keeps P (fun _ => ?_) (fun _ => ?_)
  · exact raise_keeps K ‹_›
  · assumption

theorem retryOwn_keeps (K : Keeps P) {s : State} (hs : P s) :
    P (retryOwn s) := by
  unfold retryOwn
  refine ite_keeps P (fun _ => ?_) (fun _ => ?_)
  · assumption
  · extract_lets -merge +onlyGivenNames x1
    try clear_value x1
    refine summaryDone_keeps K (closeS_keeps K ?_)
    refine each_keeps K (fun _ _ _ => ?_) ?_
    · exact placeS_keeps K ‹_›
    · exact K.upd ‹_›

theorem roundRec_keeps (K : Keeps P) {r : Nat} {s : State} (hs : P s) :
    P (roundRec r s) := by
  unfold roundRec
  extract_lets -merge +onlyGivenNames x1
  try clear_value x1
  refine ite_keeps P (fun _ => ?_) (fun _ => ?_)
  · assumption
  · extract_lets -merge +onlyGivenNames x2
    try clear_value x2
    extract_lets -merge +onlyGivenNames x3
    try clear_value x3
    extract_lets -merge +onlyGivenNames x4
    have hx4 : P x4 := by
      exact K.upd ‹_›
    clear_value x4
    extract_lets -merge +onlyGivenNames x5
    try clear_value x5
    extract_lets -merge +onlyGivenNames x6
    have hx6 : P x6 := by
      refine ite_keeps P (fun _ => ?_) (fun _ => ?_)
      · assumption
      · exact bump_keeps K ‹_›
    clear_value x6
    refine placeS_keeps K (setAcc_keeps K ?_)
    assumption

theorem startSeries_keeps (K : Keeps P) {k : Nat} {x : Int} {s : State} (hs : P s) :
    P (startSeries k x s) := by
  unfold startSeries
  extract_lets -merge +onlyGivenNames x1
  try clear_value x1
  extract_lets -merge +onlyGivenNames x2
  have hx2 : P x2 := by
    unfold x2
    split
    · refine ite_keeps P (fun _ => ?_) (fun _ => ?_)
      · exact closeB_keeps K ‹_›
      · assumption
    · assumption
  clear_value x2
  extract_lets -merge +onlyGivenNames x3
  try clear_value x3
  extract_lets -merge +onlyGivenNames x4
  have hx4 : P x4 := by
    refine ite_keeps P (fun _ => ?_) (fun _ => ?_)
    · assumption
    · exact K.upd ‹_›
  clear_value x4
  exact setSeries_keeps K ‹_›

theorem sampleB_keeps (K : Keeps P) {r : Nat} {e : Nat} {x : Int} {s : State} (hs : P s) :
    P (sampleB r e x s) := by
  unfold sampleB
  extract_lets -merge +onlyGivenNames x1
  try clear_value x1
  extract_lets -merge +onlyGivenNames x2
  have hx2 : P x2 := by
    unfold x2
    split
    · exact startSeries_keeps K ‹_›
    · extract_lets -merge +onlyGivenNames x3
      try clear_value x3
      refine ite_keeps P (fun _ => ?_) (fun _ => ?_)
      · refine startSeries_keeps K (closeSeries_keeps K ?_)
        assumption
      · refine ite_keeps P (fun _ => ?_) (fun _ => ?_)
        · refine startSeries_keeps K (closeB_keeps K ?_)
          assumption
        · exact setSeries_keeps K ‹_›
  clear_value x2
  split
  · refine ite_keeps P (fun _ => ?_) (fun _ => ?_)
    · exact closeSeries_keeps K ‹_›
    · assumption
  · assumption

theorem sendL_keeps (K : Keeps P) {r : Nat} {e : Nat} {v : Nat} {refresh : Bool} {s : State} (hs : P s) :
    P (sendL r e v refresh s) := by
  unfold sendL
  extract_lets -merge +onlyGivenNames x1
  try clear_value x1
  extract_lets -merge +onlyGivenNames x2
  try clear_value x2
  extract_lets -merge +onlyGivenNames x3
  try clear_value x3
  extract_lets -merge +onlyGivenNames x4
  have hx4 : P x4 := by
    exact setLEnt_keeps K ‹_›
  clear_value x4
  refine ite_keeps P (fun _ => ?_) (fun _ => ?_)
  · exact lPend_keeps K ‹_›
  · exact placeL_keeps K ‹_›

theorem sampleL_keeps (K : Keeps P) {r : Nat} {e : Nat} {raw : Nat} {s : State} (hs : P s) :
    P (sampleL r e raw s) := by
  unfold sampleL
  extract_lets -merge +onlyGivenNames x1
  try clear_value x1
  extract_lets -merge +onlyGivenNames x2
  try clear_value x2
  extract_lets -merge +onlyGivenNames x3
  try clear_value x3
  extract_lets -merge +onlyGivenNames x4
  have hx4 : P x4 := by
    exact setLEnt_keeps K ‹_›
  clear_value x4
  refine ite_keeps P (fun _ => ?_) (fun _ => ?_)
  · assumption
  · exact sendL_keeps K ‹_›

theorem skipDeferred_keeps (K : Keeps P) {due : List (Nat × Nat)} {s : State} (hs : P s) :
    P (skipDeferred due s) := by
  unfold skipDeferred
  extract_lets -merge +onlyGivenNames x1
  try clear_value x1
  refine bumpBy_keeps K (K.upd ?_)
  assumption

theorem takeSample_keeps (K : Keeps P) {r : Nat} {e : Nat} {s : State} (hs : P s) :
    P (takeSample r e s) := by
  unfold takeSample
  split
  · assumption
  · extract_lets -merge +onlyGivenNames x1
    try clear_value x1
    refine ite_keeps P (fun _ => ?_) (fun _ => ?_)
    · exact sampleB_keeps K ‹_›
    · exact sampleL_keeps K ‹_›

theorem sampleStep_keeps (K : Keeps P) {s : State} (hs : P s) :
    P (sampleStep s) := by
  unfold sampleStep
  extract_lets -merge +onlyGivenNames x1
  try clear_value x1
  extract_lets -merge +onlyGivenNames x2
  try clear_value x2
  extract_lets -merge +onlyGivenNames x3
  have hx3 : P x3 := by
    refine each_keeps K (fun _ _ _ => ?_) ?_
    · exact gatherFault_keeps K ‹_›
    · exact skipDeferred_keeps K ‹_›
  clear_value x3
  extract_lets -merge +onlyGivenNames x4
  try clear_value x4
  extract_lets -merge +onlyGivenNames x5
  have hx5 : P x5 := by
    refine each_keeps K (fun _ _ _ => ?_) ?_
    · exact takeSample_keeps K ‹_›
    · assumption
  clear_value x5
  extract_lets -merge +onlyGivenNames x6
  try clear_value x6
  extract_lets -merge +onlyGivenNames x7
  have hx7 : P x7 := by
    refine each_keeps K (fun _ _ _ => ?_) ?_
    · exact takeSample_keeps K ‹_›
    · exact K.upd ‹_›
  clear_value x7
  extract_lets -merge +onlyGivenNames x8
  try clear_value x8
  extract_lets -merge +onlyGivenNames x9
  have hx9 : P x9 := by
    refine each_keeps K (fun _ _ _ => ?_) ?_
    · exact deferSample_keeps K ‹_›
    · assumption
  clear_value x9
  extract_lets -merge +onlyGivenNames x10
  have hx10 : P x10 := by
    refine ite_keeps P (fun _ => ?_) (fun _ => ?_)
    · assumption
    · exact raise_keeps K ‹_›
  clear_value x10
  extract_lets -merge +onlyGivenNames x11
  try clear_value x11
  refine each_keeps K (fun _ _ _ => ?_) ?_
  · split
    · exact sendL_keeps K ‹_›
    · assumption
  · assumption

/-! HierOps -/

theorem armFields_keeps (K : Keeps P) {e : Nat} {h : HierHdr} {action : Nat} {arg : Nat} {sec : Nat} {ns : Nat} {s : State} (hs : P s) :
    P (armFields e h action arg sec ns s) := by
  unfold armFields
  extract_lets -merge +onlyGivenNames x1
  have hx1 : P x1 := by
    refine setR_keeps K (setR_keeps K ?_)
    assumption
  clear_value x1
  extract_lets -merge +onlyGivenNames x2
  have hx2 : P x2 := by
    refine setR_keeps K (setR_keeps K ?_)
    exact setR_keeps K ‹_›
  clear_value x2
  exact setR_keeps K ‹_›

theorem armCommand_keeps (K : Keeps P) {h : HierHdr} {op : HierOp} {s : State} (hs : P s) :
    Snd P (armCommand h op s) := by
  unfold armCommand
  split
  · exact snd_mk ‹_›
  · extract_lets -merge +onlyGivenNames x1
    try clear_value x1
    extract_lets -merge +onlyGivenNames x2
    try clear_value x2
    extract_lets -merge +onlyGivenNames x3
    try clear_value x3
    extract_lets -merge +onlyGivenNames x4
    try clear_value x4
    extract_lets -merge +onlyGivenNames x5
    have hx5 : P x5 := by
      exact drawn_keeps K ‹_›
    clear_value x5
    extract_lets -merge +onlyGivenNames x6
    try clear_value x6
    extract_lets -merge +onlyGivenNames x7
    have hx7 : P x7 := by
      refine armFields_keeps K (K.upd ?_)
      assumption
    clear_value x7
    extract_lets -merge +onlyGivenNames x8
    have hx8 : P x8 := by
      refine ite_keeps P (fun _ => ?_) (fun _ => ?_)
      · refine schTick_keeps K (fun _ _ _ => ?_) ?_
        · exact schJudge_keeps K ‹_›
        · assumption
      · exact setSch_keeps K ‹_›
    clear_value x8
    refine ite_keeps (Snd P) (fun _ => ?_) (fun _ => ?_)
    · refine snd_mk (K.upd ?_)
      assumption
    · exact snd_mk ‹_›

theorem twinRequest_keeps (K : Keeps P) {ch : Nat} {r : Ref} {s : State} (hs : P s) :
    P (twinRequest ch r s) := by
  unfold twinRequest
  refine ite_keeps P (fun _ => ?_) (fun _ => ?_)
  · extract_lets -merge +onlyGivenNames x1
    try clear_value x1
    extract_lets -merge +onlyGivenNames x2
    have hx2 : P x2 := by
      exact K.upd ‹_›
    clear_value x2
    exact emit_keeps K ‹_›
  · assumption

theorem twinWord_keeps (K : Keeps P) {port : Nat} {pos : Nat} {w : BitVec 48} {s : State} (hs : P s) :
    P (twinWord port pos w s) := by
  unfold twinWord
  extract_lets -merge +onlyGivenNames x1
  try clear_value x1
  extract_lets -merge +onlyGivenNames x2
  have hx2 : P x2 := by
    refine ite_keeps P (fun _ => ?_) (fun _ => ?_)
    · assumption
    · exact setChain_keeps K ‹_›
  clear_value x2
  exact emit_keeps K ‹_›

theorem levelRec_keeps (K : Keeps P) {code : BitVec 16} {ramp : BitVec 16} {log : Bool} {r : Nat} {s : State} (hs : P s) :
    P (levelRec code ramp log r s) := by
  unfold levelRec
  extract_lets -merge +onlyGivenNames x1
  try clear_value x1
  extract_lets -merge +onlyGivenNames x2
  have hx2 : P x2 := by
    exact recTarget_keeps K ‹_›
  clear_value x2
  split
  · split
    · exact twinRequest_keeps K ‹_›
    · assumption
  · exact twinWord_keeps K ‹_›
  · extract_lets -merge +onlyGivenNames x3
    try clear_value x3
    exact issueQuerad_keeps K ‹_›

theorem pushSnap_keeps (K : Keeps P) {id : BitVec 16} {epa : Word} {own : Nat} {nt : Bool} {xs : List (BitVec 64)} {s : State} (hs : P s) :
    P (pushSnap id epa own nt xs s) := by
  unfold pushSnap
  exact upPush_keeps K ‹_›

theorem pumpOwn_keeps (K : Keeps P) (n : Nat) : ∀ {s : State}, P s → P (pumpOwn n s) := by
  induction n with
  | zero => exact fun h => h
  | succ n ih =>
    intro s hs
    unfold pumpOwn
    split
    · exact ite_keeps P (fun _ => hs) (fun _ => ih (K.upd (pushSnap_keeps K hs)))
    · exact hs

theorem placeRegion_keeps (K : Keeps P) {own : Nat} {epa : Word} {xs : List (BitVec 64)} {s : State} (hs : P s) :
    P (placeRegion own epa xs s) := by
  unfold placeRegion
  refine bumpBy_keeps K (K.upd ?_)
  assumption

theorem pumpPacks_keeps (K : Keeps P) {id : BitVec 16} {all : Bool} (n : Nat) : ∀ {s : State}, P s → P (pumpPacks id all n s) := by
  induction n with
  | zero => exact fun h => h
  | succ n ih =>
    intro s hs
    unfold pumpPacks
    split
    · exact hs
    · exact ite_keeps P (fun _ => hs) (fun _ => ih (K.upd (pushSnap_keeps K hs)))

theorem endCollect_keeps (K : Keeps P) {s : State} (hs : P s) :
    P (endCollect s) := by
  unfold endCollect
  split
  · assumption
  · extract_lets -merge +onlyGivenNames x1
    have hx1 : P x1 := by
      refine ite_keeps P (fun _ => ?_) (fun _ => ?_)
      · exact pumpPacks_keeps K _ ‹_›
      · assumption
    clear_value x1
    extract_lets -merge +onlyGivenNames x2
    try clear_value x2
    extract_lets -merge +onlyGivenNames x3
    have hx3 : P x3 := by
      refine setB_keeps K (setB_keeps K ?_)
      exact K.upd ‹_›
    clear_value x3
    refine ite_keeps P (fun _ => ?_) (fun _ => ?_)
    · exact raise_keeps K ‹_›
    · assumption

theorem startCollect_keeps (K : Keeps P) {h : HierHdr} {id : BitVec 16} {mine : Bool} {s : State} (hs : P s) :
    P (startCollect h id mine s) := by
  unfold startCollect
  extract_lets -merge +onlyGivenNames x1
  try clear_value x1
  extract_lets -merge +onlyGivenNames x2
  try clear_value x2
  extract_lets -merge +onlyGivenNames x3
  try clear_value x3
  extract_lets -merge +onlyGivenNames x4
  have hx4 : P x4 := by
    refine ite_keeps P (fun _ => ?_) (fun _ => ?_)
    · refine pumpOwn_keeps K _ (K.upd ?_)
      assumption
    · assumption
  clear_value x4
  refine ite_keeps P (fun _ => ?_) (fun _ => ?_)
  · assumption
  · extract_lets -merge +onlyGivenNames x5
    try clear_value x5
    extract_lets -merge +onlyGivenNames x6
    have hx6 : P x6 := by
      refine setB_keeps K (setB_keeps K ?_)
      refine setF_keeps K (setR_keeps K ?_)
      exact K.upd ‹_›
    clear_value x6
    extract_lets -merge +onlyGivenNames x7
    have hx7 : P x7 := by
      unfold x7
      split
      · exact placeRegion_keeps K ‹_›
      · assumption
    clear_value x7
    refine ite_keeps P (fun _ => ?_) (fun _ => ?_)
    · exact endCollect_keeps K ‹_›
    · assumption

theorem cancelCommand_keeps (K : Keeps P) {h : HierHdr} {id : BitVec 16} {s : State} (hs : P s) :
    Snd P (cancelCommand h id s) := by
  unfold cancelCommand
  split
  · refine snd_mk (setSch_keeps K ?_)
    refine unhand_keeps K (K.upd ?_)
    assumption
  · exact snd_mk ‹_›

theorem doCommand_keeps (K : Keeps P) {h : HierHdr} {op : HierOp} {s : State} (hs : P s) :
    Snd P (doCommand h op s) := by
  unfold doCommand
  refine ite_keeps (Snd P) (fun _ => ?_) (fun _ => ?_)
  · exact snd_mk ‹_›
  · refine ite_keeps (Snd P) (fun _ => ?_) (fun _ => ?_)
    · exact snd_mk ‹_›
    · split
      · refine ite_keeps (Snd P) (fun _ => ?_) (fun _ => ?_)
        · exact snd_mk ‹_›
        · refine ite_keeps (Snd P) (fun _ => ?_) (fun _ => ?_)
          · exact armCommand_keeps K ‹_›
          · refine snd_mk (each_keeps K (fun _ _ _ => ?_) ?_)
            · exact levelRec_keeps K ‹_›
            · assumption
      · refine ite_keeps (Snd P) (fun _ => ?_) (fun _ => ?_)
        · exact armCommand_keeps K ‹_›
        · extract_lets -merge +onlyGivenNames x1
          try clear_value x1
          extract_lets -merge +onlyGivenNames x2
          try clear_value x2
          refine snd_mk (byPort_keeps K (fun _ _ => ?_) ?_)
          · exact pwrIssue_keeps K ‹_›
          · assumption
      · refine ite_keeps (Snd P) (fun _ => ?_) (fun _ => ?_)
        · exact armCommand_keeps K ‹_›
        · split
          · refine snd_mk (byPort_keeps K (fun _ _ => ?_) ?_)
            · exact resetRequest_keeps K ‹_›
            · assumption
          · exact snd_mk ‹_›
      · refine ite_keeps (Snd P) (fun _ => ?_) (fun _ => ?_)
        · exact snd_mk ‹_›
        · exact armCommand_keeps K ‹_›
      · refine ite_keeps (Snd P) (fun _ => ?_) (fun _ => ?_)
        · exact snd_mk ‹_›
        · refine snd_mk (startCollect_keeps K ?_)
          assumption
      · exact cancelCommand_keeps K ‹_›

theorem passCollect_keeps (K : Keeps P) {h : HierHdr} {op : HierOp} {mine : Bool} {s : State} (hs : P s) :
    P (passCollect h op mine s) := by
  unfold passCollect
  split
  · refine ite_keeps P (fun _ => ?_) (fun _ => ?_)
    · assumption
    · exact startCollect_keeps K ‹_›
  · assumption

theorem actCommand_keeps (K : Keeps P) {h : HierHdr} {op : HierOp} {sel : Bool} {mine : Bool} {s : State} (hs : P s) :
    Snd P (actCommand h op sel mine s) := by
  unfold actCommand
  extract_lets -merge +onlyGivenNames x1
  have hx1 : Snd P x1 := by
    refine ite_keeps (Snd P) (fun _ => ?_) (fun _ => ?_)
    · exact doCommand_keeps K ‹_›
    · exact snd_mk ‹_›
  clear_value x1
  refine snd_mk (ite_keeps P (fun _ => ?_) (fun _ => ?_))
  · exact of_snd ‹_›
  · refine passCollect_keeps K (of_snd ?_)
    assumption

theorem hierStat_keeps (K : Keeps P) {s : State} (hs : P s) :
    P (hierStat s) := by
  unfold hierStat
  refine setF_keeps K (setF_keeps K ?_)
  exact setF_keeps K ‹_›

theorem adoptEpoch_keeps (K : Keeps P) {o : BitVec 16} {e : BitVec 8} {s : State} (hs : P s) :
    P (adoptEpoch o e s) := by
  unfold adoptEpoch
  refine ite_keeps P (fun _ => ?_) (fun _ => ?_)
  · assumption
  · extract_lets -merge +onlyGivenNames x1
    try clear_value x1
    extract_lets -merge +onlyGivenNames x2
    have hx2 : P x2 := by
      refine ite_keeps P (fun _ => ?_) (fun _ => ?_)
      · exact K.upd ‹_›
      · assumption
    clear_value x2
    refine hierStat_keeps K (ite_keeps P (fun _ => ?_) (fun _ => ?_))
    · exact K.upd ‹_›
    · assumption

theorem sendDown_keeps (K : Keeps P) {mtype : Nat} {queue : Nat} {h : HierHdr} {body : List Byte} {s : State} (hs : P s) :
    P (sendDown mtype queue h body s) := by
  unfold sendDown
  exact emit_keeps K ‹_›

theorem creditFrames_keeps (K : Keeps P) (n : Nat) : ∀ {is : List Nat} {s : State}, P s → P (creditFrames n is s) := by
  induction n with
  | zero => exact fun h => h
  | succ n ih =>
    intro is s hs
    unfold creditFrames
    exact ite_keeps P (fun _ => hs) (fun _ => ih (sendDown_keeps K hs))

theorem setChild_keeps (K : Keeps P) {i : Nat} {x : ChildSt} {s : State} (hs : P s) :
    P (setChild i x s) := by
  unfold setChild
  exact K.upd ‹_›

theorem giveCredit_keeps (K : Keeps P) {i : Nat} {s : State} (hs : P s) :
    P (giveCredit i s) := by
  unfold giveCredit
  extract_lets -merge +onlyGivenNames x1
  try clear_value x1
  extract_lets -merge +onlyGivenNames x2
  try clear_value x2
  refine ite_keeps P (fun _ => ?_) (fun _ => ?_)
  · assumption
  · refine creditFrames_keeps K _ (setChild_keeps K ?_)
    assumption

theorem chargeCells_keeps (K : Keeps P) {i : Nat} {sent : Word} {len : Nat} {s : State} (hs : P s) :
    P (chargeCells i sent len s) := by
  unfold chargeCells
  extract_lets -merge +onlyGivenNames x1
  try clear_value x1
  extract_lets -merge +onlyGivenNames x2
  try clear_value x2
  extract_lets -merge +onlyGivenNames x3
  try clear_value x3
  extract_lets -merge +onlyGivenNames x4
  try clear_value x4
  refine giveCredit_keeps K (bumpBy_keeps K ?_)
  exact setChild_keeps K ‹_›

theorem childBlock_keeps (K : Keeps P) {cells : Nat} {b : List Byte} {s : State} (hs : P s) :
    P (childBlock cells b s) := by
  unfold childBlock
  extract_lets -merge +onlyGivenNames x1
  try clear_value x1
  refine ite_keeps P (fun _ => ?_) (fun _ => ?_)
  · extract_lets -merge +onlyGivenNames x2
    try clear_value x2
    refine each_keeps K (fun _ _ _ => ?_) ?_
    · refine of_snd (foldl_keeps (Snd P) (fun _ _ _ => ?_) ?_)
      · refine snd_mk (placeS_keeps K ?_)
        exact of_snd ‹_›
      · exact snd_mk ‹_›
    · assumption
  · extract_lets -merge +onlyGivenNames x3
    try clear_value x3
    extract_lets -merge +onlyGivenNames x4
    have hx4 : P x4 := by
      refine ite_keeps P (fun _ => ?_) (fun _ => ?_)
      · exact K.upd ‹_›
      · assumption
    clear_value x4
    exact toTlm_keeps K ‹_›

theorem childRegs_keeps (K : Keeps P) {s : State} (hs : P s) :
    P (childRegs s) := by
  unfold childRegs
  extract_lets -merge +onlyGivenNames x1
  try clear_value x1
  extract_lets -merge +onlyGivenNames x2
  try clear_value x2
  extract_lets -merge +onlyGivenNames x3
  have hx3 : P x3 := by
    refine each_keeps K (fun _ _ _ => ?_) ?_
    · refine setR_keeps K (setR_keeps K ?_)
      assumption
    · assumption
  clear_value x3
  refine setF_keeps K (setF_keeps K ?_)
  exact setF_keeps K ‹_›

theorem slotDone_keeps (K : Keeps P) {i : Nat} {result : Nat} {expected : Nat} {missing : Nat} {counts : List Nat} {map : BitVec 128} {s : State} (hs : P s) :
    P (slotDone i result expected missing counts map s) := by
  unfold slotDone
  extract_lets -merge +onlyGivenNames x1
  have hx1 : P x1 := by
    refine setF_keeps K (setF_keeps K ?_)
    assumption
  clear_value x1
  extract_lets -merge +onlyGivenNames x2
  have hx2 : P x2 := by
    exact setR_keeps K ‹_›
  clear_value x2
  extract_lets -merge +onlyGivenNames x3
  have hx3 : P x3 := by
    refine each_keeps K (fun _ _ _ => ?_) ?_
    · exact setR_keeps K ‹_›
    · assumption
  clear_value x3
  refine raise_keeps K (each_keeps K (fun _ _ _ => ?_) ?_)
  · exact setR_keeps K ‹_›
  · assumption

theorem sendUp_keeps (K : Keeps P) {mtype : Nat} {queue : Nat} {h : HierHdr} {body : List Byte} {s : State} (hs : P s) :
    P (sendUp mtype queue h body s) := by
  unfold sendUp
  split
  · exact emit_keeps K ‹_›
  · assumption

theorem hierAck_keeps (K : Keeps P) {issuer : BitVec 16} {epoch : BitVec 8} {cmdId : BitVec 16} {result : Nat} {expected : Nat} {missing : Nat} {counts : List Nat} {map : BitVec 128} {s : State} (hs : P s) :
    P (hierAck issuer epoch cmdId result expected missing counts map s) := by
  unfold hierAck
  exact sendUp_keeps K ‹_›

theorem closeAck_keeps (K : Keeps P) {a : AckEnt} {s : State} (hs : P s) :
    P (closeAck a s) := by
  unfold closeAck
  extract_lets -merge +onlyGivenNames x1
  try clear_value x1
  extract_lets -merge +onlyGivenNames x2
  try clear_value x2
  extract_lets -merge +onlyGivenNames x3
  try clear_value x3
  extract_lets -merge +onlyGivenNames x4
  try clear_value x4
  extract_lets -merge +onlyGivenNames x5
  have hx5 : P x5 := by
    refine ite_keeps P (fun _ => ?_) (fun _ => ?_)
    · exact drawn_keeps K ‹_›
    · refine raise_keeps K (drawn_keeps K ?_)
      assumption
  clear_value x5
  split
  · exact slotDone_keeps K ‹_›
  · exact hierAck_keeps K ‹_›

theorem closeBar_keeps (K : Keeps P) {b : BarEnt} {s : State} (hs : P s) :
    P (closeBar b s) := by
  unfold closeBar
  extract_lets -merge +onlyGivenNames x1
  try clear_value x1
  extract_lets -merge +onlyGivenNames x2
  have hx2 : P x2 := by
    refine ite_keeps P (fun _ => ?_) (fun _ => ?_)
    · assumption
    · exact bump_keeps K ‹_›
  clear_value x2
  refine ite_keeps P (fun _ => ?_) (fun _ => ?_)
  · exact raise_keeps K ‹_›
  · exact sendUp_keeps K ‹_›

theorem judgeEpoch_keeps (K : Keeps P) {h : HierHdr} {s : State} (hs : P s) :
    Snd P (judgeEpoch h s) := by
  unfold judgeEpoch
  split
  · refine snd_mk (adoptEpoch_keeps K ?_)
    assumption
  · refine ite_keeps (Snd P) (fun _ => ?_) (fun _ => ?_)
    · refine snd_mk (adoptEpoch_keeps K ?_)
      assumption
    · refine snd_mk (raise_keeps K ?_)
      exact bump_keeps K ‹_›

theorem openAck_keeps (K : Keeps P) {h : HierHdr} {own : Option Code} {slot : Option Nat} {s : State} (hs : P s) :
    P (openAck h own slot s) := by
  unfold openAck
  extract_lets -merge +onlyGivenNames x1
  try clear_value x1
  extract_lets -merge +onlyGivenNames x2
  try clear_value x2
  extract_lets -merge +onlyGivenNames x3
  try clear_value x3
  extract_lets -merge +onlyGivenNames x4
  try clear_value x4
  extract_lets -merge +onlyGivenNames x5
  try clear_value x5
  refine ite_keeps P (fun _ => ?_) (fun _ => ?_)
  · assumption
  · refine ite_keeps P (fun _ => ?_) (fun _ => ?_)
    · exact closeAck_keeps K ‹_›
    · exact K.upd ‹_›

theorem command_keeps (K : Keeps P) {h : HierHdr} {op : HierOp} {s : State} (hs : P s) :
    P (command h op s) := by
  unfold command
  extract_lets -merge +onlyGivenNames x1
  have hx1 : Snd P x1 := by
    exact judgeEpoch_keeps K ‹_›
  clear_value x1
  extract_lets -merge +onlyGivenNames x2
  try clear_value x2
  refine ite_keeps P (fun _ => ?_) (fun _ => ?_)
  · extract_lets -merge +onlyGivenNames x3
    have hx3 : P x3 := by
      refine bump_keeps K (of_snd ?_)
      assumption
    clear_value x3
    extract_lets -merge +onlyGivenNames x4
    have hx4 : Snd P x4 := by
      exact actCommand_keeps K ‹_›
    clear_value x4
    extract_lets -merge +onlyGivenNames x5
    have hx5 : P x5 := by
      refine ite_keeps P (fun _ => ?_) (fun _ => ?_)
      · refine raise_keeps K (of_snd ?_)
        assumption
      · exact of_snd ‹_›
    clear_value x5
    refine ite_keeps P (fun _ => ?_) (fun _ => ?_)
    · exact openAck_keeps K ‹_›
    · assumption
  · refine ite_keeps P (fun _ => ?_) (fun _ => ?_)
    · refine openAck_keeps K (of_snd ?_)
      assumption
    · exact of_snd ‹_›

theorem freeSlot_keeps (K : Keeps P) {i : Nat} {s : State} (hs : P s) :
    P (freeSlot i s) := by
  unfold freeSlot
  refine setF_keeps K (K.upd ?_)
  assumption

theorem giveCredits_keeps (K : Keeps P) {s : State} (hs : P s) :
    P (giveCredits s) := by
  unfold giveCredits
  refine ite_keeps P (fun _ => ?_) (fun _ => ?_)
  · refine each_keeps K (fun _ _ _ => ?_) ?_
    · exact giveCredit_keeps K ‹_›
    · assumption
  · assumption

theorem hierHold_keeps (K : Keeps P) {i : Instr} {s : State} (hs : P s) :
    P (hierHold i s) := by
  unfold hierHold
  refine ite_keeps P (fun _ => ?_) (fun _ => ?_)
  · exact bump_keeps K ‹_›
  · exact K.upd ‹_›

theorem hierTake_keeps (K : Keeps P) {i : Instr} {f : State → State} {s : State} (hf : ∀ a0, P a0 → P (f a0)) (hs : P s) :
    P (hierTake i f s) := by
  unfold hierTake
  refine ite_keeps P (fun _ => ?_) (fun _ => ?_)
  · exact hierHold_keeps K ‹_›
  · refine ite_keeps P (fun _ => ?_) (fun _ => ?_)
    · refine hf _ ?_
      · assumption
    · assumption

theorem judgeCredit_keeps (K : Keeps P) {s : State} (hs : P s) :
    P (judgeCredit s) := by
  unfold judgeCredit
  refine ite_keeps P (fun _ => ?_) (fun _ => ?_)
  · refine ite_keeps P (fun _ => ?_) (fun _ => ?_)
    · refine each_keeps K (fun _ _ _ => ?_) ?_
      · exact giveCredit_keeps K ‹_›
      · exact K.upd ‹_›
    · assumption
  · refine ite_keeps P (fun _ => ?_) (fun _ => ?_)
    · refine raise_keeps K (K.upd ?_)
      assumption
    · assumption

theorem mailGo_keeps (K : Keeps P) {s : State} (hs : P s) :
    P (mailGo s) := by
  unfold mailGo
  extract_lets -merge +onlyGivenNames x1
  try clear_value x1
  extract_lets -merge +onlyGivenNames x2
  try clear_value x2
  split
  · exact setF_keeps K ‹_›
  · refine ite_keeps P (fun _ => ?_) (fun _ => ?_)
    · exact setF_keeps K ‹_›
    · extract_lets -merge +onlyGivenNames x3
      have hx3 : P x3 := by
        refine setF_keeps K (setF_keeps K ?_)
        assumption
      clear_value x3
      extract_lets -merge +onlyGivenNames x4
      have hx4 : P x4 := by
        exact setR_keeps K ‹_›
      clear_value x4
      extract_lets -merge +onlyGivenNames x5
      have hx5 : ∀ a0, P a0 → P (x5 a0) := by
        intro a0 _
        exact slotDone_keeps K ‹_›
      clear_value x5
      split
      · refine hx5 _ ?_
        · assumption
      · refine ite_keeps P (fun _ => ?_) (fun _ => ?_)
        · refine hx5 _ ?_
          · assumption
        · extract_lets -merge +onlyGivenNames x6
          try clear_value x6
          extract_lets -merge +onlyGivenNames x7
          have hx7 : P x7 := by
            refine ite_keeps P (fun _ => ?_) (fun _ => ?_)
            · assumption
            · exact sendDown_keeps K ‹_›
          clear_value x7
          extract_lets -merge +onlyGivenNames x8
          have hx8 : Snd P x8 := by
            exact actCommand_keeps K ‹_›
          clear_value x8
          extract_lets -merge +onlyGivenNames x9
          have hx9 : P x9 := by
            refine ite_keeps P (fun _ => ?_) (fun _ => ?_)
            · refine raise_keeps K (of_snd ?_)
              assumption
            · exact of_snd ‹_›
          clear_value x9
          extract_lets -merge +onlyGivenNames x10
          try clear_value x10
          refine ite_keeps P (fun _ => ?_) (fun _ => ?_)
          · refine ite_keeps P (fun _ => ?_) (fun _ => ?_)
            · exact slotDone_keeps K ‹_›
            · exact openAck_keeps K ‹_›
          · exact slotDone_keeps K ‹_›

theorem newEpochAtStart_keeps (K : Keeps P) {s : State} (hs : P s) :
    P (newEpochAtStart s) := by
  unfold newEpochAtStart
  exact K.upd ‹_›

theorem noteBseq_keeps (K : Keeps P) {i : Nat} {cls : Nat} {first : Bool} {bseq : BitVec 16} {s : State} (hs : P s) :
    P (noteBseq i cls first bseq s) := by
  unfold noteBseq
  extract_lets -merge +onlyGivenNames x1
  try clear_value x1
  extract_lets -merge +onlyGivenNames x2
  have hx2 : P x2 := by
    unfold x2
    split
    · refine ite_keeps P (fun _ => ?_) (fun _ => ?_)
      · assumption
      · exact bumpBy_keeps K ‹_›
    · assumption
  clear_value x2
  extract_lets -merge +onlyGivenNames x3
  try clear_value x3
  exact setChild_keeps K ‹_›

theorem openBar_keeps (K : Keeps P) {h : HierHdr} {s : State} (hs : P s) :
    P (openBar h s) := by
  unfold openBar
  extract_lets -merge +onlyGivenNames x1
  have hx1 : Snd P x1 := by
    exact judgeEpoch_keeps K ‹_›
  clear_value x1
  refine ite_keeps P (fun _ => ?_) (fun _ => ?_)
  · exact of_snd ‹_›
  · extract_lets -merge +onlyGivenNames x2
    have hx2 : P x2 := by
      exact of_snd ‹_›
    clear_value x2
    extract_lets -merge +onlyGivenNames x3
    try clear_value x3
    extract_lets -merge +onlyGivenNames x4
    try clear_value x4
    extract_lets -merge +onlyGivenNames x5
    have hx5 : P x5 := by
      refine ite_keeps P (fun _ => ?_) (fun _ => ?_)
      · exact sendDown_keeps K ‹_›
      · assumption
    clear_value x5
    refine ite_keeps P (fun _ => ?_) (fun _ => ?_)
    · assumption
    · extract_lets -merge +onlyGivenNames x6
      try clear_value x6
      refine ite_keeps P (fun _ => ?_) (fun _ => ?_)
      · exact closeBar_keeps K ‹_›
      · exact K.upd ‹_›

theorem retryStuck_keeps (K : Keeps P) {s : State} (hs : P s) :
    P (retryStuck s) := by
  unfold retryStuck
  extract_lets -merge +onlyGivenNames x1
  have hx1 : P x1 := by
    exact retryOwn_keeps K ‹_›
  clear_value x1
  refine ite_keeps P (fun _ => ?_) (fun _ => ?_)
  · assumption
  · refine each_keeps K (fun _ _ _ => ?_) ?_
    · exact placeS_keeps K ‹_›
    · exact K.upd ‹_›

theorem seen_keeps (K : Keeps P) {i : Nat} {s : State} (hs : P s) :
    P (seen i s) := by
  unfold seen
  refine ite_keeps P (fun _ => ?_) (fun _ => ?_)
  · assumption
  · refine childRegs_keeps K (setChild_keeps K ?_)
    assumption

theorem seenFrom_keeps (K : Keeps P) {h : HierHdr} {s : State} (hs : P s) :
    P (seenFrom h s) := by
  unfold seenFrom
  split
  · exact seen_keeps K ‹_›
  · assumption

theorem sendAnnounce_keeps (K : Keeps P) {s : State} (hs : P s) :
    P (sendAnnounce s) := by
  unfold sendAnnounce
  extract_lets -merge +onlyGivenNames x1
  try clear_value x1
  refine emit_keeps K (K.upd ?_)
  assumption

theorem sendHello_keeps (K : Keeps P) {s : State} (hs : P s) :
    P (sendHello s) := by
  unfold sendHello
  extract_lets -merge +onlyGivenNames x1
  try clear_value x1
  exact sendDown_keeps K ‹_›

theorem sendOwed_keeps (K : Keeps P) {s : State} (hs : P s) :
    P (sendOwed s) := by
  unfold sendOwed
  refine ite_keeps P (fun _ => ?_) (fun _ => ?_)
  · extract_lets -merge +onlyGivenNames x1
    try clear_value x1
    extract_lets -merge +onlyGivenNames x2
    have hx2 : P x2 := by
      exact K.upd ‹_›
    clear_value x2
    refine when_keeps K (fun _ _ => ?_) ?_
    · exact sendAnnounce_keeps K ‹_›
    · refine when_keeps K (fun _ _ => ?_) ?_
      · exact sendHello_keeps K ‹_›
      · assumption
  · assumption

theorem sendXfer_keeps (K : Keeps P) {h : HierHdr} {t : XferTarget} {op : Nat} {off : Nat} {len : Nat} {data : List Byte} {s : State} (hs : P s) :
    P (sendXfer h t op off len data s) := by
  unfold sendXfer
  extract_lets -merge +onlyGivenNames x1
  try clear_value x1
  exact sendDown_keeps K ‹_›

theorem setXfer_keeps (K : Keeps P) {t : XferTarget} {n : Nat} {s : State} (hs : P s) :
    P (setXfer t n s) := by
  unfold setXfer
  split
  · exact K.upd ‹_›
  · exact K.upd ‹_›

theorem takeAck_keeps (K : Keeps P) {h : HierHdr} {b : AckBody} {s : State} (hs : P s) :
    P (takeAck h b s) := by
  unfold takeAck
  extract_lets -merge +onlyGivenNames x1
  have hx1 : P x1 := by
    exact seenFrom_keeps K ‹_›
  clear_value x1
  refine ite_keeps P (fun _ => ?_) (fun _ => ?_)
  · exact bump_keeps K ‹_›
  · split
    · refine ite_keeps P (fun _ => ?_) (fun _ => ?_)
      · extract_lets -merge +onlyGivenNames x2
        try clear_value x2
        extract_lets -merge +onlyGivenNames x3
        try clear_value x3
        refine ite_keeps P (fun _ => ?_) (fun _ => ?_)
        · refine closeAck_keeps K (K.upd ?_)
          assumption
        · exact K.upd ‹_›
      · exact bump_keeps K ‹_›
    · exact bump_keeps K ‹_›

theorem takeArrive_keeps (K : Keeps P) {h : HierHdr} {modules : Nat} {missing : Nat} {s : State} (hs : P s) :
    P (takeArrive h modules missing s) := by
  unfold takeArrive
  extract_lets -merge +onlyGivenNames x1
  have hx1 : P x1 := by
    exact seenFrom_keeps K ‹_›
  clear_value x1
  split
  · refine ite_keeps P (fun _ => ?_) (fun _ => ?_)
    · extract_lets -merge +onlyGivenNames x2
      try clear_value x2
      extract_lets -merge +onlyGivenNames x3
      try clear_value x3
      refine ite_keeps P (fun _ => ?_) (fun _ => ?_)
      · refine closeBar_keeps K (K.upd ?_)
        assumption
      · exact K.upd ‹_›
    · assumption
  · assumption

theorem takeSnapdata_keeps (K : Keeps P) {i : Nat} {own : Nat} {id : BitVec 16} {epa : Word} {nt : Bool} {last : Bool} {sent : Word} {len : Nat} {xs : List (BitVec 64)} {s : State} (hs : P s) :
    P (takeSnapdata i own id epa nt last sent len xs s) := by
  unfold takeSnapdata
  extract_lets -merge +onlyGivenNames x1
  have hx1 : P x1 := by
    exact chargeCells_keeps K ‹_›
  clear_value x1
  split
  · assumption
  · refine ite_keeps P (fun _ => ?_) (fun _ => ?_)
    · assumption
    · extract_lets -merge +onlyGivenNames x2
      try clear_value x2
      extract_lets -merge +onlyGivenNames x3
      have hx3 : P x3 := by
        refine ite_keeps P (fun _ => ?_) (fun _ => ?_)
        · exact placeRegion_keeps K ‹_›
        · refine pumpPacks_keeps K _ (bumpBy_keeps K ?_)
          exact K.upd ‹_›
      clear_value x3
      extract_lets -merge +onlyGivenNames x4
      try clear_value x4
      extract_lets -merge +onlyGivenNames x5
      try clear_value x5
      extract_lets -merge +onlyGivenNames x6
      have hx6 : P x6 := by
        refine judgeCredit_keeps K (K.upd ?_)
        assumption
      clear_value x6
      refine ite_keeps P (fun _ => ?_) (fun _ => ?_)
      · exact endCollect_keeps K ‹_›
      · assumption

theorem takeSnapshot_keeps (K : Keeps P) {e : Nat} {h : HierHdr} {id : BitVec 16} {before : List SplitIn} {s : State} (hs : P s) :
    P (takeSnapshot e h id before s) := K.upd hs

theorem takeTelem_keeps (K : Keeps P) {i : Nat} {sent : Word} {len : Nat} {b : List Byte} {s : State} (hs : P s) :
    P (takeTelem i sent len b s) := by
  unfold takeTelem
  extract_lets -merge +onlyGivenNames x1
  have hx1 : P x1 := by
    exact chargeCells_keeps K ‹_›
  clear_value x1
  extract_lets -merge +onlyGivenNames x2
  have hx2 : P x2 := by
    refine ite_keeps P (fun _ => ?_) (fun _ => ?_)
    · refine childBlock_keeps K (noteBseq_keeps K ?_)
      assumption
    · exact bump_keeps K ‹_›
  clear_value x2
  exact judgeCredit_keeps K ‹_›

theorem upDrain_keeps (K : Keeps P) (n : Nat) : ∀ {s : State}, P s → P (upDrain n s) := by
  induction n with
  | zero => exact fun h => h
  | succ n ih =>
    intro s hs
    unfold upDrain
    split
    · exact hs
    · exact ite_keeps P (fun _ => ih (sendUp_keeps K (K.upd hs))) (fun _ => hs)

theorem xferOn_keeps (K : Keeps P) {h : HierHdr} {t : XferTarget} {op : Nat} {off : Nat} {len : Nat} {data : List Byte} {s : State} (hs : P s) :
    P (xferOn h t op off len data s) := by
  unfold xferOn
  refine ite_keeps P (fun _ => ?_) (fun _ => ?_)
  · assumption
  · refine ite_keeps P (fun _ => ?_) (fun _ => ?_)
    · exact sendXfer_keeps K ‹_›
    · extract_lets -merge +onlyGivenNames x1
      try clear_value x1
      refine of_snd (foldl_keeps (Snd P) (fun _ _ _ => ?_) ?_)
      · refine snd_mk (sendXfer_keeps K ?_)
        exact of_snd ‹_›
      · exact snd_mk ‹_›

theorem xferOp_keeps (K : Keeps P) {h : HierHdr} {t : XferTarget} {op : Nat} {len : Nat} {f : State → Code × State} {s : State} (hf : ∀ a0, P a0 → Snd P (f a0)) (hs : P s) :
    P (xferOp h t op len f s) := by
  unfold xferOp
  extract_lets -merge +onlyGivenNames x1
  try clear_value x1
  extract_lets -merge +onlyGivenNames x2
  have hx2 : Snd P x2 := by
    refine ite_keeps (Snd P) (fun _ => ?_) (fun _ => ?_)
    · refine hf _ ?_
      · assumption
    · exact snd_mk ‹_›
  clear_value x2
  extract_lets -merge +onlyGivenNames x3
  have hx3 : P x3 := by
    refine xferOn_keeps K (of_snd ?_)
    assumption
  clear_value x3
  refine ite_keeps P (fun _ => ?_) (fun _ => ?_)
  · exact openAck_keeps K ‹_›
  · assumption

/-! Hier -/

theorem execAck_keeps (K : Keeps P) {h : HierHdr} {body : AckBody} {s : State} (hs : P s) :
    Nxt P (execAck h body s) := by
  unfold execAck
  refine nxt_keeps (hierTake_keeps K (fun _ _ => ?_) ?_)
  · exact takeAck_keeps K ‹_›
  · assumption

theorem execAckWaitExpire_keeps (K : Keeps P) {issuer : BitVec 16} {epoch : BitVec 8} {cmdId : BitVec 16} {s : State} (hs : P s) :
    Nxt P (execAckWaitExpire issuer epoch cmdId s) := by
  unfold execAckWaitExpire
  refine nxt_keeps ?_
  split
  · refine closeAck_keeps K (K.upd ?_)
    assumption
  · assumption

theorem onAnnounce_keeps (K : Keeps P) {h : HierHdr} {imgSeq : Word} {sent : Word} {first : Bool} {sealed' : Bool} {ctrlRun' : Bool} {s : State} (hs : P s) :
    P (onAnnounce h imgSeq sent first sealed' ctrlRun' s) := by
  unfold onAnnounce
  split
  · assumption
  · extract_lets -merge +onlyGivenNames x1
    have hx1 : P x1 := by
      exact seen_keeps K ‹_›
    clear_value x1
    extract_lets -merge +onlyGivenNames x2
    try clear_value x2
    extract_lets -merge +onlyGivenNames x3
    try clear_value x3
    refine ite_keeps P (fun _ => ?_) (fun _ => ?_)
    · refine giveCredit_keeps K (setChild_keeps K ?_)
      assumption
    · exact setChild_keeps K ‹_›

theorem execAnnounce_keeps (K : Keeps P) {h : HierHdr} {imgSeq : Word} {sent : Word} {first : Bool} {sealed' : Bool} {ctrlRun' : Bool} {s : State} (hs : P s) :
    Nxt P (execAnnounce h imgSeq sent first sealed' ctrlRun' s) := by
  unfold execAnnounce
  refine nxt_keeps (hierTake_keeps K (fun _ _ => ?_) ?_)
  · exact onAnnounce_keeps K ‹_›
  · assumption

theorem execAnnouncePeriod_keeps (K : Keeps P) {s : State} (hs : P s) :
    Nxt P (execAnnouncePeriod s) := by
  unfold execAnnouncePeriod
  refine nxt_keeps (ite_keeps P (fun _ => ?_) (fun _ => ?_))
  · exact sendAnnounce_keeps K ‹_›
  · assumption

theorem execArrive_keeps (K : Keeps P) {h : HierHdr} {modules : Nat} {missing : Nat} {s : State} (hs : P s) :
    Nxt P (execArrive h modules missing s) := by
  unfold execArrive
  refine nxt_keeps (hierTake_keeps K (fun _ _ => ?_) ?_)
  · exact takeArrive_keeps K ‹_›
  · assumption

theorem execBarrier_keeps (K : Keeps P) {h : HierHdr} {s : State} (hs : P s) :
    Nxt P (execBarrier h s) := by
  unfold execBarrier
  refine nxt_keeps (hierTake_keeps K (fun _ _ => ?_) ?_)
  · exact openBar_keeps K ‹_›
  · assumption

theorem execBarrierWaitExpire_keeps (K : Keeps P) {issuer : BitVec 16} {epoch : BitVec 8} {cmdId : BitVec 16} {s : State} (hs : P s) :
    Nxt P (execBarrierWaitExpire issuer epoch cmdId s) := by
  unfold execBarrierWaitExpire
  refine nxt_keeps ?_
  split
  · refine closeBar_keeps K (K.upd ?_)
    assumption
  · assumption

theorem execCancel_keeps (K : Keeps P) {h : HierHdr} {targetId : BitVec 16} {s : State} (hs : P s) :
    Nxt P (execCancel h targetId s) := by
  unfold execCancel
  refine nxt_keeps (hierTake_keeps K (fun _ _ => ?_) ?_)
  · exact command_keeps K ‹_›
  · assumption

theorem execChildLost_keeps (K : Keeps P) {i : Fin 128} {s : State} (hs : P s) :
    Nxt P (execChildLost i s) := by
  unfold execChildLost
  refine nxt_keeps (ite_keeps P (fun _ => ?_) (fun _ => ?_))
  · extract_lets -merge +onlyGivenNames x1
    try clear_value x1
    refine when_keeps K (fun _ _ => ?_) ?_
    · exact raise_keeps K ‹_›
    · refine bump_keeps K (childRegs_keeps K ?_)
      exact setChild_keeps K ‹_›
  · assumption

theorem execCollect_keeps (K : Keeps P) {h : HierHdr} {snapId : BitVec 16} {s : State} (hs : P s) :
    Nxt P (execCollect h snapId s) := by
  unfold execCollect
  refine nxt_keeps (hierTake_keeps K (fun _ _ => ?_) ?_)
  · exact command_keeps K ‹_›
  · assumption

theorem execCollectWaitExpire_keeps (K : Keeps P) {s : State} (hs : P s) :
    Nxt P (execCollectWaitExpire s) := by
  unfold execCollectWaitExpire
  refine nxt_keeps (endCollect_keeps K ?_)
  assumption

theorem onCredit_keeps (K : Keeps P) {h : HierHdr} {limits : List (Byte × Word)} {s : State} (hs : P s) :
    P (onCredit h limits s) := by
  unfold onCredit
  extract_lets -merge +onlyGivenNames x1
  try clear_value x1
  refine ite_keeps P (fun _ => ?_) (fun _ => ?_)
  · split
    · extract_lets -merge +onlyGivenNames x2
      try clear_value x2
      extract_lets -merge +onlyGivenNames x3
      have hx3 : P x3 := by
        refine upDrain_keeps K _ (K.upd ?_)
        assumption
      clear_value x3
      extract_lets -merge +onlyGivenNames x4
      have hx4 : P x4 := by
        refine retryStuck_keeps K (pumpOwn_keeps K _ ?_)
        assumption
      clear_value x4
      split
      · exact pumpPacks_keeps K _ ‹_›
      · exact pumpPacks_keeps K _ ‹_›
    · assumption
  · assumption

theorem execCredit_keeps (K : Keeps P) {h : HierHdr} {limits : List (Byte × Word)} {s : State} (hs : P s) :
    Nxt P (execCredit h limits s) := by
  unfold execCredit
  refine nxt_keeps (hierTake_keeps K (fun _ _ => ?_) ?_)
  · exact onCredit_keeps K ‹_›
  · assumption

theorem onHello_keeps (K : Keeps P) {h : HierHdr} {srcMac : BitVec 48} {epochOwn : BitVec 8} {epochRoot : BitVec 8} {mtu : BitVec 16} {s : State} (hs : P s) :
    P (onHello h srcMac epochOwn epochRoot mtu s) := by
  unfold onHello
  extract_lets -merge +onlyGivenNames x1
  try clear_value x1
  refine ite_keeps P (fun _ => ?_) (fun _ => ?_)
  · extract_lets -merge +onlyGivenNames x2
    have hx2 : P x2 := by
      refine setB_keeps K (setF_keeps K ?_)
      assumption
    clear_value x2
    refine hierStat_keeps K (K.upd ?_)
    assumption
  · assumption

theorem execHello_keeps (K : Keeps P) {h : HierHdr} {srcMac : BitVec 48} {epochOwn : BitVec 8} {epochRoot : BitVec 8} {window : BitVec 16} {mtu : BitVec 16} {helloMs : BitVec 16} {s : State} (hs : P s) :
    Nxt P (execHello h srcMac epochOwn epochRoot window mtu helloMs s) := by
  unfold execHello
  refine nxt_keeps (hierTake_keeps K (fun _ _ => ?_) ?_)
  · exact onHello_keeps K ‹_›
  · assumption

theorem execHelloPeriod_keeps (K : Keeps P) {s : State} (hs : P s) :
    Nxt P (execHelloPeriod s) := by
  unfold execHelloPeriod
  refine nxt_keeps (ite_keeps P (fun _ => ?_) (fun _ => ?_))
  · refine creditFrames_keeps K _ (sendHello_keeps K ?_)
    assumption
  · assumption

theorem execHierMbGo_keeps (K : Keeps P) {s : State} (hs : P s) :
    Nxt P (execHierMbGo s) := by
  unfold execHierMbGo
  refine nxt_keeps (hostUlust_keeps K ?_)
  assumption

theorem execHierResFree_keeps (K : Keeps P) {v : Word} {s : State} (hs : P s) :
    Nxt P (execHierResFree v s) := by
  unfold execHierResFree
  refine nxt_keeps (hostUlust_keeps K ?_)
  assumption

theorem execLevel_keeps (K : Keeps P) {h : HierHdr} {code : BitVec 16} {rampMs : BitVec 16} {log : Bool} {s : State} (hs : P s) :
    Nxt P (execLevel h code rampMs log s) := by
  unfold execLevel
  refine nxt_keeps (hierTake_keeps K (fun _ _ => ?_) ?_)
  · exact command_keeps K ‹_›
  · assumption

theorem execParentLost_keeps (K : Keeps P) {s : State} (hs : P s) :
    Nxt P (execParentLost s) := by
  unfold execParentLost
  refine nxt_keeps (ite_keeps P (fun _ => ?_) (fun _ => ?_))
  · exact setB_keeps K ‹_›
  · assumption

theorem execPower_keeps (K : Keeps P) {h : HierHdr} {w : BitVec 12} {s : State} (hs : P s) :
    Nxt P (execPower h w s) := by
  unfold execPower
  refine nxt_keeps (hierTake_keeps K (fun _ _ => ?_) ?_)
  · exact command_keeps K ‹_›
  · assumption

theorem execReset_keeps (K : Keeps P) {h : HierHdr} {kind : Byte} {s : State} (hs : P s) :
    Nxt P (execReset h kind s) := by
  unfold execReset
  refine nxt_keeps (hierTake_keeps K (fun _ _ => ?_) ?_)
  · exact command_keeps K ‹_›
  · assumption

theorem onSnapdata_keeps (K : Keeps P) {h : HierHdr} {snapId : BitVec 16} {firstEpa : Word} {nt : Bool} {last : Bool} {sent : Word} {frameLen : Nat} {xs : List (BitVec 64)} {s : State} (hs : P s) :
    P (onSnapdata h snapId firstEpa nt last sent frameLen xs s) := by
  unfold onSnapdata
  split
  · refine takeSnapdata_keeps K (seen_keeps K ?_)
    assumption
  · assumption

theorem execSnapdata_keeps (K : Keeps P) {h : HierHdr} {snapId : BitVec 16} {firstEpa : Word} {nt : Bool} {last : Bool} {sent : Word} {frameLen : Nat} {xs : List (BitVec 64)} {s : State} (hs : P s) :
    Nxt P (execSnapdata h snapId firstEpa nt last sent frameLen xs s) := by
  unfold execSnapdata
  refine nxt_keeps (hierTake_keeps K (fun _ _ => ?_) ?_)
  · exact onSnapdata_keeps K ‹_›
  · assumption

theorem execSnapshot_keeps (K : Keeps P) {h : HierHdr} {snapId : BitVec 16} {s : State} (hs : P s) :
    Nxt P (execSnapshot h snapId s) := by
  unfold execSnapshot
  refine nxt_keeps (hierTake_keeps K (fun _ _ => ?_) ?_)
  · exact command_keeps K ‹_›
  · assumption

theorem onTelem_keeps (K : Keeps P) {h : HierHdr} {sent : Word} {frameLen : Nat} {block : List Byte} {s : State} (hs : P s) :
    P (onTelem h sent frameLen block s) := by
  unfold onTelem
  split
  · refine takeTelem_keeps K (seen_keeps K ?_)
    assumption
  · assumption

theorem execTelem_keeps (K : Keeps P) {h : HierHdr} {sent : Word} {frameLen : Nat} {block : List Byte} {s : State} (hs : P s) :
    Nxt P (execTelem h sent frameLen block s) := by
  unfold execTelem
  refine nxt_keeps (hierTake_keeps K (fun _ _ => ?_) ?_)
  · exact onTelem_keeps K ‹_›
  · assumption

theorem wakeFrame_keeps (K : Keeps P) {h : HierHdr} {s : State} (hs : P s) :
    P (wakeFrame h s) := by
  unfold wakeFrame
  extract_lets -merge +onlyGivenNames x1
  have hx1 : Snd P x1 := by
    exact judgeEpoch_keeps K ‹_›
  clear_value x1
  refine ite_keeps P (fun _ => ?_) (fun _ => ?_)
  · extract_lets -merge +onlyGivenNames x2
    have hx2 : P x2 := by
      refine hierHold_keeps K (of_snd ?_)
      assumption
    clear_value x2
    refine ite_keeps P (fun _ => ?_) (fun _ => ?_)
    · exact wakeSource_keeps K ‹_›
    · assumption
  · exact of_snd ‹_›

theorem onWake_keeps (K : Keeps P) {h : HierHdr} {s : State} (hs : P s) :
    P (onWake h s) := by
  unfold onWake
  extract_lets -merge +onlyGivenNames x1
  have hx1 : Snd P x1 := by
    exact judgeEpoch_keeps K ‹_›
  clear_value x1
  refine ite_keeps P (fun _ => ?_) (fun _ => ?_)
  · refine emit_keeps K (of_snd ?_)
    assumption
  · exact of_snd ‹_›

theorem execWake_keeps (K : Keeps P) {h : HierHdr} {s : State} (hs : P s) :
    Nxt P (execWake h s) := by
  unfold execWake
  refine nxt_keeps (ite_keeps P (fun _ => ?_) (fun _ => ?_))
  · exact wakeFrame_keeps K ‹_›
  · refine hierTake_keeps K (fun _ _ => ?_) ?_
    · exact onWake_keeps K ‹_›
    · assumption

theorem onXferAbort_keeps (K : Keeps P) {h : HierHdr} {t : XferTarget} {s : State} (hs : P s) :
    P (onXferAbort h t s) := by
  unfold onXferAbort
  refine xferOp_keeps K (fun _ _ => ?_) ?_
  · exact stgAbort_keeps K ‹_›
  · assumption

theorem execXferAbort_keeps (K : Keeps P) {h : HierHdr} {t : XferTarget} {s : State} (hs : P s) :
    Nxt P (execXferAbort h t s) := by
  unfold execXferAbort
  refine nxt_keeps (hierTake_keeps K (fun _ _ => ?_) ?_)
  · exact onXferAbort_keeps K ‹_›
  · assumption

theorem onXferBegin_keeps (K : Keeps P) {h : HierHdr} {t : XferTarget} {len : Nat} {s : State} (hs : P s) :
    P (onXferBegin h t len s) := by
  unfold onXferBegin
  refine xferOp_keeps K (fun _ _ => ?_) ?_
  · extract_lets -merge +onlyGivenNames x1
    have hx1 : Snd P x1 := by
      exact stgBegin_keeps K ‹_›
    clear_value x1
    refine snd_mk (ite_keeps P (fun _ => ?_) (fun _ => ?_))
    · refine setXfer_keeps K (of_snd ?_)
      assumption
    · exact of_snd ‹_›
  · assumption

theorem execXferBegin_keeps (K : Keeps P) {h : HierHdr} {t : XferTarget} {len : Nat} {s : State} (hs : P s) :
    Nxt P (execXferBegin h t len s) := by
  unfold execXferBegin
  refine nxt_keeps (hierTake_keeps K (fun _ _ => ?_) ?_)
  · exact onXferBegin_keeps K ‹_›
  · assumption

theorem onXferCommit_keeps (K : Keeps P) {h : HierHdr} {t : XferTarget} {len : Nat} {s : State} (hs : P s) :
    P (onXferCommit h t len s) := by
  unfold onXferCommit
  refine xferOp_keeps K (fun _ _ => ?_) ?_
  · extract_lets -merge +onlyGivenNames x1
    try clear_value x1
    refine ite_keeps (Snd P) (fun _ => ?_) (fun _ => ?_)
    · refine snd_mk (stgAnswer_keeps K ?_)
      assumption
    · exact stgCommit_keeps K ‹_›
  · assumption

theorem execXferCommit_keeps (K : Keeps P) {h : HierHdr} {t : XferTarget} {len : Nat} {s : State} (hs : P s) :
    Nxt P (execXferCommit h t len s) := by
  unfold execXferCommit
  refine nxt_keeps (hierTake_keeps K (fun _ _ => ?_) ?_)
  · exact onXferCommit_keeps K ‹_›
  · assumption

theorem onXferData_keeps (K : Keeps P) {h : HierHdr} {t : XferTarget} {off : Nat} {data : List Byte} {s : State} (hs : P s) :
    P (onXferData h t off data s) := by
  unfold onXferData
  extract_lets -merge +onlyGivenNames x1
  have hx1 : Snd P x1 := by
    exact stgWrite_keeps K ‹_›
  clear_value x1
  extract_lets -merge +onlyGivenNames x2
  have hx2 : P x2 := by
    refine ite_keeps P (fun _ => ?_) (fun _ => ?_)
    · refine ite_keeps P (fun _ => ?_) (fun _ => ?_)
      · refine ite_keeps P (fun _ => ?_) (fun _ => ?_)
        · refine setXfer_keeps K (of_snd ?_)
          assumption
        · exact of_snd ‹_›
      · exact bump_keeps K ‹_›
    · assumption
  clear_value x2
  exact xferOn_keeps K ‹_›

theorem execXferData_keeps (K : Keeps P) {h : HierHdr} {t : XferTarget} {offset : Nat} {data : List Byte} {s : State} (hs : P s) :
    Nxt P (execXferData h t offset data s) := by
  unfold execXferData
  refine nxt_keeps (hierTake_keeps K (fun _ _ => ?_) ?_)
  · exact onXferData_keeps K ‹_›
  · assumption

theorem hierReplay_keeps (K : Keeps P) {i : Instr} {s : State} (hs : P s) :
    P (hierReplay i s) := by
  unfold hierReplay
  split
  · exact onHello_keeps K ‹_›
  · exact onAnnounce_keeps K ‹_›
  · exact onCredit_keeps K ‹_›
  · exact command_keeps K ‹_›
  · exact command_keeps K ‹_›
  · exact command_keeps K ‹_›
  · exact command_keeps K ‹_›
  · exact command_keeps K ‹_›
  · exact command_keeps K ‹_›
  · exact takeAck_keeps K ‹_›
  · exact onTelem_keeps K ‹_›
  · exact onSnapdata_keeps K ‹_›
  · exact openBar_keeps K ‹_›
  · exact takeArrive_keeps K ‹_›
  · exact onXferBegin_keeps K ‹_›
  · exact onXferData_keeps K ‹_›
  · exact onXferCommit_keeps K ‹_›
  · exact onXferAbort_keeps K ‹_›
  · exact onWake_keeps K ‹_›
  · assumption

theorem standbyFrame_keeps (K : Keeps P) {i : Instr} {s : State} (hs : P s) :
    P (standbyFrame i s) := by
  unfold standbyFrame
  split
  · exact wakeFrame_keeps K ‹_›
  · exact hierHold_keeps K ‹_›

/-! Pln -/

theorem execBlockClose_keeps (K : Keeps P) {cls : Fin 3} {s : State} (hs : P s) :
    Nxt P (execBlockClose cls s) := by
  unfold execBlockClose
  refine nxt_keeps (ite_keeps P (fun _ => ?_) (fun _ => ?_))
  · refine ite_keeps P (fun _ => ?_) (fun _ => ?_)
    · exact closeL_keeps K ‹_›
    · refine ite_keeps P (fun _ => ?_) (fun _ => ?_)
      · exact closeB_keeps K ‹_›
      · exact closeS_keeps K ‹_›
  · assumption

theorem execPlaneSample_keeps (K : Keeps P) {s : State} (hs : P s) :
    Nxt P (execPlaneSample s) := by
  unfold execPlaneSample
  refine nxt_keeps (ite_keeps P (fun _ => ?_) (fun _ => ?_))
  · extract_lets -merge +onlyGivenNames x1
    have hx1 : P x1 := by
      refine sampleStep_keeps K (refillL_keeps K ?_)
      assumption
    clear_value x1
    refine ite_keeps P (fun _ => ?_) (fun _ => ?_)
    · assumption
    · refine each_keeps K (fun _ _ _ => ?_) ?_
      · exact accStep_keeps K ‹_›
      · assumption
  · assumption

theorem execPlaneStart_keeps (K : Keeps P) {s : State} (hs : P s) :
    Nxt P (execPlaneStart s) := by
  unfold execPlaneStart
  refine nxt_keeps (ite_keeps P (fun _ => ?_) (fun _ => ?_))
  · exact planeStarts_keeps K ‹_›
  · assumption

theorem execSummaryRound_keeps (K : Keeps P) {s : State} (hs : P s) :
    Nxt P (execSummaryRound s) := by
  unfold execSummaryRound
  refine nxt_keeps (ite_keeps P (fun _ => ?_) (fun _ => ?_))
  · refine summaryDone_keeps K (closeS_keeps K ?_)
    refine each_keeps K (fun _ _ _ => ?_) ?_
    · exact roundRec_keeps K ‹_›
    · assumption
  · assumption

/-! Ulust -/

theorem afterDefaults_keeps (K : Keeps P) {was : Bool} {s : State} (hs : P s) :
    P (afterDefaults was s) := by
  unfold afterDefaults
  extract_lets -merge +onlyGivenNames x1
  have hx1 : P x1 := by
    exact childRegs_keeps K ‹_›
  clear_value x1
  refine ite_keeps P (fun _ => ?_) (fun _ => ?_)
  · assumption
  · refine ite_keeps P (fun _ => ?_) (fun _ => ?_)
    · exact planeStarts_keeps K ‹_›
    · exact setB_keeps K ‹_›

theorem settingsStep_keeps (K : Keeps P) {s : State} (hs : P s) :
    P (settingsStep s) := by
  unfold settingsStep
  split
  · assumption
  · extract_lets -merge +onlyGivenNames x1
    try clear_value x1
    extract_lets -merge +onlyGivenNames x2
    try clear_value x2
    extract_lets -merge +onlyGivenNames x3
    try clear_value x3
    extract_lets -merge +onlyGivenNames x4
    have hx4 : P x4 := by
      refine openCopy_keeps K (K.upd ?_)
      assumption
    clear_value x4
    refine ite_keeps P (fun _ => ?_) (fun _ => ?_)
    · refine afterDefaults_keeps K (applyItems_keeps K ?_)
      assumption
    · assumption

theorem standWrite_keeps (K : Keeps P) {x : SplitIn} {s : State} (hs : P s) :
    P (standWrite x s) := by
  unfold standWrite
  split
  · refine ite_keeps P (fun _ => ?_) (fun _ => ?_)
    · assumption
    · extract_lets -merge +onlyGivenNames x1
      have hx1 : P x1 := by
        exact writeReg_keeps K ‹_›
      clear_value x1
      refine ite_keeps P (fun _ => ?_) (fun _ => ?_)
      · exact childRegs_keeps K ‹_›
      · assumption
  · assumption

theorem ulustWrite_keeps (K : Keeps P) {off : Nat} {v : Word} {setNow : Word} {s : State} (hs : P s) :
    P (ulustWrite off v setNow s) := by
  unfold ulustWrite
  refine ite_keeps P (fun _ => ?_) (fun _ => ?_)
  · refine ite_keeps P (fun _ => ?_) (fun _ => ?_)
    · exact mailGo_keeps K ‹_›
    · assumption
  · refine ite_keeps P (fun _ => ?_) (fun _ => ?_)
    · exact freeSlot_keeps K ‹_›
    · extract_lets -merge +onlyGivenNames x1
      try clear_value x1
      extract_lets -merge +onlyGivenNames x2
      have hx2 : P x2 := by
        exact writeReg_keeps K ‹_›
      clear_value x2
      refine ite_keeps P (fun _ => ?_) (fun _ => ?_)
      · exact childRegs_keeps K ‹_›
      · refine ite_keeps P (fun _ => ?_) (fun _ => ?_)
        · refine ite_keeps P (fun _ => ?_) (fun _ => ?_)
          · assumption
          · refine ite_keeps P (fun _ => ?_) (fun _ => ?_)
            · exact planeStarts_keeps K ‹_›
            · exact setB_keeps K ‹_›
        · assumption

/-! Blk -/

theorem blkDone_keeps (K : Keeps P) {d : Desc} {c : Code} {n : Nat} {s : State} (hs : P s) :
    P (blkDone d c n s) := by
  unfold blkDone
  extract_lets -merge +onlyGivenNames x1
  have hx1 : P x1 := by
    exact writeBackDesc_keeps K ‹_›
  clear_value x1
  refine raiseCmpl_keeps K (bump_keeps K ?_)
  exact advanceHead_keeps K ‹_›

theorem blkWrite_keeps (K : Keeps P) {region : Nat} {off : Nat} {data : List Byte} {s : State} (hs : P s) :
    Snd (Snd P) (blkWrite region off data s) := by
  unfold blkWrite
  split
  · refine snd_mk (snd_mk ?_)
    assumption
  · refine ite_keeps (Snd (Snd P)) (fun _ => ?_) (fun _ => ?_)
    · extract_lets -merge +onlyGivenNames x1
      try clear_value x1
      refine ite_keeps (Snd (Snd P)) (fun _ => ?_) (fun _ => ?_)
      · refine snd_mk (snd_mk ?_)
        assumption
      · refine snd_mk (snd_mk ?_)
        refine captureBus_keeps K (of_snd ?_)
        exact stgWrite_keeps K ‹_›
    · refine snd_mk (snd_mk ?_)
      assumption

theorem blkTransfer_keeps (K : Keeps P) {data : List Byte} {s : State} (hs : P s) :
    P (blkTransfer data s) := by
  unfold blkTransfer
  split
  · extract_lets -merge +onlyGivenNames x1
    try clear_value x1
    extract_lets -merge +onlyGivenNames x2
    try clear_value x2
    extract_lets -merge +onlyGivenNames x3
    have hx3 : Snd P x3 := by
      exact openBuffer_keeps K ‹_›
    clear_value x3
    extract_lets -merge +onlyGivenNames x4
    have hx4 : P x4 := by
      exact of_snd ‹_›
    clear_value x4
    refine ite_keeps P (fun _ => ?_) (fun _ => ?_)
    · exact setRing_keeps K ‹_›
    · extract_lets -merge +onlyGivenNames x5
      try clear_value x5
      extract_lets -merge +onlyGivenNames x6
      have hx6 : P x6 := by
        exact setRing_keeps K ‹_›
      clear_value x6
      refine ite_keeps P (fun _ => ?_) (fun _ => ?_)
      · extract_lets -merge +onlyGivenNames x7
        have hx7 : Snd (Snd P) x7 := by
          exact blkWrite_keeps K ‹_›
        clear_value x7
        refine blkDone_keeps K (of_snd ?_)
        exact of_snd ‹_›
      · extract_lets -merge +onlyGivenNames x8
        try clear_value x8
        extract_lets -merge +onlyGivenNames x9
        have hx9 : P x9 := by
          refine ite_keeps P (fun _ => ?_) (fun _ => ?_)
          · exact K.upd ‹_›
          · assumption
        clear_value x9
        refine blkDone_keeps K (ite_keeps P (fun _ => ?_) (fun _ => ?_))
        · assumption
        · exact emit_keeps K ‹_›
  · assumption

theorem execBlkTransfer_keeps (K : Keeps P) {data : List Byte} {s : State} (hs : P s) :
    Nxt P (execBlkTransfer data s) := by
  unfold execBlkTransfer
  refine nxt_keeps ?_
  split
  · refine ite_keeps P (fun _ => ?_) (fun _ => ?_)
    · assumption
    · exact blkTransfer_keeps K ‹_›
  · assumption

theorem passStall_keeps (K : Keeps P) {r : Nat} {s : State} (hs : P s) :
    P (passStall r s) := by
  unfold passStall
  refine ite_keeps P (fun _ => ?_) (fun _ => ?_)
  · split
    · refine gatherFtx_keeps K (K.upd ?_)
      assumption
    · exact blkTransfer_keeps K ‹_›
    · exact deliver_keeps K ‹_›
  · assumption

theorem ringLate_keeps (K : Keeps P) {r : Nat} {s : State} (hs : P s) :
    P (ringLate r s) := by
  unfold ringLate
  extract_lets -merge +onlyGivenNames x1
  try clear_value x1
  extract_lets -merge +onlyGivenNames x2
  have hx2 : P x2 := by
    refine passStall_keeps K (setRing_keeps K ?_)
    assumption
  clear_value x2
  extract_lets -merge +onlyGivenNames x3
  try clear_value x3
  refine each_keeps K (fun _ _ _ => ?_) ?_
  · exact seeTail_keeps K ‹_›
  · exact setRing_keeps K ‹_›

/-! Cal -/

theorem calAnswer_keeps (K : Keeps P) {c : Code} {s : State} (hs : P s) :
    P (calAnswer c s) := by
  unfold calAnswer
  refine setF_keeps K (unspoilLong_keeps K ?_)
  assumption

theorem calSet_keeps (K : Keeps P) {s : State} (hs : P s) :
    P (calSet s) := by
  unfold calSet
  refine setF_keeps K (setF_keeps K ?_)
  assumption

theorem loadFields_keeps (K : Keeps P) {s : State} (hs : P s) :
    P (loadFields s) := by
  unfold loadFields
  extract_lets -merge +onlyGivenNames x1
  try clear_value x1
  refine ite_keeps P (fun _ => ?_) (fun _ => ?_)
  · refine calSet_keeps K (almFree_keeps K ?_)
    refine almFree_keeps K (freeFields_keeps K ?_)
    exact K.upd ‹_›
  · refine ite_keeps P (fun _ => ?_) (fun _ => ?_)
    · extract_lets -merge +onlyGivenNames x2
      try clear_value x2
      extract_lets -merge +onlyGivenNames x3
      have hx3 : P x3 := by
        refine setFields_keeps K (K.upd ?_)
        assumption
      clear_value x3
      extract_lets -merge +onlyGivenNames x4
      have hx4 : P x4 := by
        refine unspoilLong_keeps K (unspoilLong_keeps K ?_)
        refine unspoilLong_keeps K (unspoilLong_keeps K ?_)
        assumption
      clear_value x4
      refine calSet_keeps K (K.upd ?_)
      assumption
    · refine calSet_keeps K (fieldsStep_keeps K ?_)
      assumption

theorem moveSec_keeps (K : Keeps P) {n : Nat} {s : State} (hs : P s) :
    P (moveSec n s) := by
  unfold moveSec
  extract_lets -merge +onlyGivenNames x1
  try clear_value x1
  extract_lets -merge +onlyGivenNames x2
  have hx2 : P x2 := by
    exact setCalSec_keeps K ‹_›
  clear_value x2
  refine ite_keeps P (fun _ => ?_) (fun _ => ?_)
  · exact schSteps_keeps K ‹_›
  · assumption

theorem moveFields_keeps (K : Keeps P) {d : Int} {s : State} (hs : P s) :
    P (moveFields d s) := by
  unfold moveFields
  refine ite_keeps P (fun _ => ?_) (fun _ => ?_)
  · refine almFree_keeps K (almFree_keeps K ?_)
    exact freeFields_keeps K ‹_›
  · exact fieldsStep_keeps K ‹_›

theorem calStepBy_keeps (K : Keeps P) {d : Int} {s : State} (hs : P s) :
    P (calStepBy d s) := by
  unfold calStepBy
  refine moveSec_keeps K (moveFields_keeps K ?_)
  assumption

theorem calShiftBy_keeps (K : Keeps P) {n : Int} {cycles : Nat} {s : State} (hs : P s) :
    P (calShiftBy n cycles s) := by
  unfold calShiftBy
  extract_lets -merge +onlyGivenNames x1
  try clear_value x1
  refine ite_keeps P (fun _ => ?_) (fun _ => ?_)
  · refine setB_keeps K (K.upd ?_)
    assumption
  · refine ite_keeps P (fun _ => ?_) (fun _ => ?_)
    · assumption
    · extract_lets -merge +onlyGivenNames x2
      try clear_value x2
      refine ite_keeps P (fun _ => ?_) (fun _ => ?_)
      · exact boundary_keeps K ‹_›
      · exact setCalSub_keeps K ‹_›

theorem calOp_keeps (K : Keeps P) {op : Nat} {cycles : Nat} {s : State} (hs : P s) :
    P (calOp op cycles s) := by
  unfold calOp
  extract_lets -merge +onlyGivenNames x1
  try clear_value x1
  split
  · exact loadFields_keeps K ‹_›
  · refine calSet_keeps K (moveSec_keeps K ?_)
    assumption
  · exact calStepBy_keeps K ‹_›
  · exact moveFields_keeps K ‹_›
  · exact calShiftBy_keeps K ‹_›

theorem calApply_keeps (K : Keeps P) {counted : Bool} {cycles : Nat} {s : State} (hs : P s) :
    P (calApply counted cycles s) := by
  unfold calApply
  split
  · assumption
  · extract_lets -merge +onlyGivenNames x1
    try clear_value x1
    extract_lets -merge +onlyGivenNames x2
    have hx2 : P x2 := by
      refine setB_keeps K (K.upd ?_)
      assumption
    clear_value x2
    refine calAnswer_keeps K (calOp_keeps K ?_)
    refine ite_keeps P (fun _ => ?_) (fun _ => ?_)
    · assumption
    · exact calAdvance_keeps K ‹_›

theorem boundaryTick_keeps (K : Keeps P) {cycles : Nat} {s : State} (hs : P s) :
    P (boundaryTick cycles s) := by
  unfold boundaryTick
  refine ite_keeps P (fun _ => ?_) (fun _ => ?_)
  · refine calApply_keeps K (setCalSub_keeps K ?_)
    assumption
  · refine calApply_keeps K (boundary_keeps K ?_)
    exact phaseEnd_keeps K ‹_›

theorem calTicks_keeps (K : Keeps P) {ticks : Nat} {s : State} (hs : P s) :
    P (calTicks ticks s) := by
  unfold calTicks
  refine ite_keeps P (fun _ => ?_) (fun _ => ?_)
  · assumption
  · refine ite_keeps P (fun _ => ?_) (fun _ => ?_)
    · refine calAdvance_keeps K (calApply_keeps K ?_)
      assumption
    · exact calAdvance_keeps K ‹_›

theorem calCommand_keeps (K : Keeps P) {who : Issuer} {owned : Bool} {ticks : Nat} {f : State → State} {s : State} (hf : ∀ a0, P a0 → P (f a0)) (hs : P s) :
    P (calCommand who owned ticks f s) := by
  unfold calCommand
  extract_lets -merge +onlyGivenNames x1
  have hx1 : P x1 := by
    exact calTicks_keeps K ‹_›
  clear_value x1
  extract_lets -merge +onlyGivenNames x2
  have hx2 : ∀ a0, P a0 → P (x2 a0) := by
    intro a0 _
    refine ite_keeps P (fun _ => ?_) (fun _ => ?_)
    · exact calAnswer_keeps K ‹_›
    · refine calAnswer_keeps K (hf _ ?_)
      · assumption
  clear_value x2
  split
  · refine ite_keeps P (fun _ => ?_) (fun _ => ?_)
    · exact calAnswer_keeps K ‹_›
    · refine hx2 _ ?_
      · assumption
  · refine ite_keeps P (fun _ => ?_) (fun _ => ?_)
    · assumption
    · refine byPort_keeps K (fun _ _ => ?_) ?_
      · refine hx2 _ ?_
        · assumption
      · assumption

theorem discipline_keeps (K : Keeps P) {cycles : Nat} {trim : Option (BitVec 20)} {s : State} (hs : P s) :
    P (discipline cycles trim s) := by
  unfold discipline
  extract_lets -merge +onlyGivenNames x1
  try clear_value x1
  extract_lets -merge +onlyGivenNames x2
  try clear_value x2
  extract_lets -merge +onlyGivenNames x3
  try clear_value x3
  extract_lets -merge +onlyGivenNames x4
  have hx4 : P x4 := by
    refine ite_keeps P (fun _ => ?_) (fun _ => ?_)
    · assumption
    · refine calAnswer_keeps K (calStepBy_keeps K ?_)
      assumption
  clear_value x4
  extract_lets -merge +onlyGivenNames x5
  have hx5 : P x5 := by
    refine ite_keeps P (fun _ => ?_) (fun _ => ?_)
    · assumption
    · refine calAnswer_keeps K (calShiftBy_keeps K ?_)
      assumption
  clear_value x5
  extract_lets -merge +onlyGivenNames x6
  have hx6 : P x6 := by
    unfold x6
    split
    · exact setR_keeps K ‹_›
    · assumption
  clear_value x6
  refine setDisc_keeps K (K.upd ?_)
  assumption

theorem undisciplined_keeps (K : Keeps P) {s : State} (hs : P s) :
    P (undisciplined s) := by
  unfold undisciplined
  extract_lets -merge +onlyGivenNames x1
  try clear_value x1
  extract_lets -merge +onlyGivenNames x2
  have hx2 : P x2 := by
    exact K.upd ‹_›
  clear_value x2
  refine ite_keeps P (fun _ => ?_) (fun _ => ?_)
  · exact setDisc_keeps K ‹_›
  · assumption

theorem disciplineSecond_keeps (K : Keeps P) {master : Bool} {traceable : Bool} {trim : Option (BitVec 20)} {s : State} (hs : P s) :
    P (disciplineSecond master traceable trim s) := by
  unfold disciplineSecond
  refine ite_keeps P (fun _ => ?_) (fun _ => ?_)
  · assumption
  · refine ite_keeps P (fun _ => ?_) (fun _ => ?_)
    · exact undisciplined_keeps K ‹_›
    · refine ite_keeps P (fun _ => ?_) (fun _ => ?_)
      · refine undisciplined_keeps K (setDisc_keeps K ?_)
        assumption
      · refine ite_keeps P (fun _ => ?_) (fun _ => ?_)
        · exact discipline_keeps K ‹_›
        · exact undisciplined_keeps K ‹_›

theorem withAdj_keeps (K : Keeps P) {arg : Option Word} {s : State} (hs : P s) :
    P (withAdj arg s) := by
  unfold withAdj
  split
  · exact setR_keeps K ‹_›
  · assumption

theorem execCalFieldStep_keeps (K : Keeps P) {who : Issuer} {arg : Option Word} {ticks : Nat} {s : State} (hs : P s) :
    Nxt P (execCalFieldStep who arg ticks s) := by
  unfold execCalFieldStep
  refine nxt_keeps (calCommand_keeps K (fun _ _ => ?_) ?_)
  · refine calOp_keeps K (withAdj_keeps K ?_)
    assumption
  · assumption

end Sys2Proof.Machine
end

