-- ==== Sys2Proof/Laws/Keeps5.lean ====
section
/-! SUPPORT. What every operation of the model keeps, continued: the operations of Cal, Net, Upd, ImgLoad, Boot, Power, Tst. -/

namespace Sys2Proof.Machine

variable {P : State → Prop}

/-! Cal -/

theorem execCalLoadFields_keeps (K : Keeps P) {who : Issuer} {ticks : Nat} {s : State} (hs : P s) :
    Nxt P (execCalLoadFields who ticks s) := by
  unfold execCalLoadFields
  refine nxt_keeps (calCommand_keeps K (fun _ _ => ?_) ?_)
  · exact calOp_keeps K ‹_›
  · assumption

theorem withSec_keeps (K : Keeps P) {arg : Option (BitVec 48)} {s : State} (hs : P s) :
    P (withSec arg s) := by
  unfold withSec
  split
  · refine setR_keeps K (setR_keeps K ?_)
    assumption
  · assumption

theorem execCalLoadSec_keeps (K : Keeps P) {who : Issuer} {arg : Option (BitVec 48)} {ticks : Nat} {s : State} (hs : P s) :
    Nxt P (execCalLoadSec who arg ticks s) := by
  unfold execCalLoadSec
  refine nxt_keeps (calCommand_keeps K (fun _ _ => ?_) ?_)
  · refine calOp_keeps K (withSec_keeps K ?_)
    assumption
  · assumption

theorem execCalSecondBoundary_keeps (K : Keeps P) {cycles : Nat} {master : Bool} {traceable : Bool} {trim : Option (BitVec 20)} {s : State} (hs : P s) :
    Nxt P (execCalSecondBoundary cycles master traceable trim s) := by
  unfold execCalSecondBoundary
  refine nxt_keeps (ite_keeps P (fun _ => ?_) (fun _ => ?_))
  · assumption
  · extract_lets -merge +onlyGivenNames x1
    have hx1 : P x1 := by
      exact boundaryTick_keeps K ‹_›
    clear_value x1
    refine ite_keeps P (fun _ => ?_) (fun _ => ?_)
    · assumption
    · exact disciplineSecond_keeps K ‹_›

theorem execCalShadowExpire_keeps (K : Keeps P) {s : State} (hs : P s) :
    Nxt P (execCalShadowExpire s) := by
  unfold execCalShadowExpire
  refine nxt_keeps (setB_keeps K ?_)
  exact K.upd ‹_›

theorem shadowRead_keeps (K : Keeps P) {i : Nat} {s : State} (hs : P s) :
    P (shadowRead i s) := by
  unfold shadowRead
  extract_lets -merge +onlyGivenNames x1
  try clear_value x1
  extract_lets -merge +onlyGivenNames x2
  try clear_value x2
  extract_lets -merge +onlyGivenNames x3
  have hx3 : P x3 := by
    exact K.upd ‹_›
  clear_value x3
  refine ite_keeps P (fun _ => ?_) (fun _ => ?_)
  · refine setB_keeps K (K.upd ?_)
    assumption
  · refine setB_keeps K (K.upd ?_)
    assumption

theorem execCalShadowRead_keeps (K : Keeps P) {route : Route} {reg : Fin 5} {ticks : Nat} {s : State} (hs : P s) :
    Nxt P (execCalShadowRead route reg ticks s) := by
  unfold execCalShadowRead
  refine nxt_keeps (readBy_keeps K (fun _ _ => ?_) ?_)
  · refine shadowRead_keeps K (calTicks_keeps K ?_)
    assumption
  · assumption

theorem withShift_keeps (K : Keeps P) {arg : Option (BitVec 16)} {s : State} (hs : P s) :
    P (withShift arg s) := by
  unfold withShift
  split
  · exact setR_keeps K ‹_›
  · assumption

theorem execCalShift_keeps (K : Keeps P) {who : Issuer} {arg : Option (BitVec 16)} {ticks : Nat} {cycles : Nat} {s : State} (hs : P s) :
    Nxt P (execCalShift who arg ticks cycles s) := by
  unfold execCalShift
  refine nxt_keeps (calCommand_keeps K (fun _ _ => ?_) ?_)
  · refine calOp_keeps K (withShift_keeps K ?_)
    assumption
  · assumption

theorem execCalShiftDone_keeps (K : Keeps P) {s : State} (hs : P s) :
    Nxt P (execCalShiftDone s) := by
  unfold execCalShiftDone
  refine nxt_keeps (ite_keeps P (fun _ => ?_) (fun _ => ?_))
  · assumption
  · refine setB_keeps K (K.upd ?_)
    assumption

theorem execCalStep_keeps (K : Keeps P) {who : Issuer} {arg : Option Word} {ticks : Nat} {s : State} (hs : P s) :
    Nxt P (execCalStep who arg ticks s) := by
  unfold execCalStep
  refine nxt_keeps (calCommand_keeps K (fun _ _ => ?_) ?_)
  · refine calOp_keeps K (withAdj_keeps K ?_)
    assumption
  · assumption

theorem execDiscHoldoverExpire_keeps (K : Keeps P) {s : State} (hs : P s) :
    Nxt P (execDiscHoldoverExpire s) := by
  unfold execDiscHoldoverExpire
  refine nxt_keeps (ite_keeps P (fun _ => ?_) (fun _ => ?_))
  · assumption
  · exact setDisc_keeps K ‹_›

theorem execFineHandoff_keeps (K : Keeps P) {e : Fin 64} {s : State} (hs : P s) :
    Nxt P (execFineHandoff e s) := by
  unfold execFineHandoff
  extract_lets -merge +onlyGivenNames x1
  try clear_value x1
  refine nxt_keeps (ite_keeps P (fun _ => ?_) (fun _ => ?_))
  · extract_lets -merge +onlyGivenNames x2
    have hx2 : P x2 := by
      exact unhand_keeps K ‹_›
    clear_value x2
    exact K.upd ‹_›
  · assumption

theorem schFall_keeps (K : Keeps P) {e : Nat} {s : State} (hs : P s) :
    P (schFall e s) := by
  unfold schFall
  refine schAfter_keeps K (schRelease_keeps K ?_)
  assumption

theorem execFineRelease_keeps (K : Keeps P) {e : Fin 64} {cycles : Nat} {s : State} (hs : P s) :
    Nxt P (execFineRelease e cycles s) := by
  unfold execFineRelease
  extract_lets -merge +onlyGivenNames x1
  have hx1 : P x1 := by
    exact tsuAdvance_keeps K ‹_›
  clear_value x1
  refine nxt_keeps ?_
  split
  · refine ite_keeps P (fun _ => ?_) (fun _ => ?_)
    · refine schTick_keeps K (fun _ _ _ => ?_) ?_
      · exact schFall_keeps K ‹_›
      · assumption
    · assumption
  · assumption

theorem schCommand_keeps (K : Keeps P) {who : Issuer} {e : Nat} {f : State → State} {s : State} (hf : ∀ a0, P a0 → P (f a0)) (hs : P s) :
    P (schCommand who e f s) := by
  unfold schCommand
  split
  · refine ite_keeps P (fun _ => ?_) (fun _ => ?_)
    · refine hf _ ?_
      · assumption
    · assumption
  · refine ite_keeps P (fun _ => ?_) (fun _ => ?_)
    · assumption
    · refine byPort_keeps K (fun _ _ => ?_) ?_
      · refine hf _ ?_
        · assumption
      · assumption

theorem schArm_keeps (K : Keeps P) {e : Nat} {s : State} (hs : P s) :
    P (schArm e s) := by
  unfold schArm
  refine ite_keeps P (fun _ => ?_) (fun _ => ?_)
  · assumption
  · refine ite_keeps P (fun _ => ?_) (fun _ => ?_)
    · refine schTick_keeps K (fun _ _ _ => ?_) ?_
      · exact schJudge_keeps K ‹_›
      · assumption
    · exact setSch_keeps K ‹_›

theorem execSchedArm_keeps (K : Keeps P) {who : Issuer} {e : Fin 64} {ticks : Nat} {s : State} (hs : P s) :
    Nxt P (execSchedArm who e ticks s) := by
  unfold execSchedArm
  refine nxt_keeps (schCommand_keeps K (fun _ _ => ?_) ?_)
  · exact schArm_keeps K ‹_›
  · exact calTicks_keeps K ‹_›

theorem execSchedCancel_keeps (K : Keeps P) {who : Issuer} {e : Fin 64} {s : State} (hs : P s) :
    Nxt P (execSchedCancel who e s) := by
  unfold execSchedCancel
  refine nxt_keeps (schCommand_keeps K (fun _ _ => ?_) ?_)
  · refine setSch_keeps K (unhand_keeps K ?_)
    assumption
  · assumption

theorem execScheduleRelease_keeps (K : Keeps P) {ticks : Nat} {s : State} (hs : P s) :
    Nxt P (execScheduleRelease ticks s) := by
  unfold execScheduleRelease
  extract_lets -merge +onlyGivenNames x1
  have hx1 : P x1 := by
    exact calTicks_keeps K ‹_›
  clear_value x1
  refine nxt_keeps (schTick_keeps K (fun _ _ _ => ?_) ?_)
  · exact schFall_keeps K ‹_›
  · assumption

/-! Net -/

theorem deliverFrame_keeps (K : Keeps P) {p : Nat} {f : EthFrame} {raw : Word} {s : State} (hs : P s) :
    P (deliverFrame p f raw s) := by
  unfold deliverFrame
  refine ite_keeps P (fun _ => ?_) (fun _ => ?_)
  · split
    · exact standbyFrame_keeps K ‹_›
    · assumption
  · exact rxDeliver_keeps K ‹_›

theorem execDeathwatchBreak_keeps (K : Keeps P) {p : Fin 4} {us : Nat} {s : State} (hs : P s) :
    Nxt P (execDeathwatchBreak p us s) := by
  unfold execDeathwatchBreak
  refine nxt_keeps (ite_keeps P (fun _ => ?_) (fun _ => ?_))
  · extract_lets -merge +onlyGivenNames x1
    have hx1 : P x1 := by
      refine setB_keeps K (resume_keeps K ?_)
      assumption
    clear_value x1
    refine raise_keeps K (bump_keeps K ?_)
    exact setB_keeps K ‹_›
  · assumption

theorem receive_keeps (K : Keeps P) {p : Nat} {f : EthFrame} {cycles : Nat} {rest : Word → State → State} {s : State} (hrest : ∀ a0 a1, P a1 → P (rest a0 a1)) (hs : P s) :
    P (receive p f cycles rest s) := by
  unfold receive
  extract_lets -merge +onlyGivenNames x1
  have hx1 : Snd P x1 := by
    refine rxStamp_keeps K (portHold_keeps K ?_)
    exact tsuAdvance_keeps K ‹_›
  clear_value x1
  extract_lets -merge +onlyGivenNames x2
  have hx2 : P x2 := by
    exact of_snd ‹_›
  clear_value x2
  split
  · refine bump_keeps K (ite_keeps P (fun _ => ?_) (fun _ => ?_))
    · exact stompForward_keeps K ‹_›
    · assumption
  · extract_lets -merge +onlyGivenNames x3
    have hx3 : Snd P x3 := by
      exact tstApply_keeps K ‹_›
    clear_value x3
    refine ite_keeps P (fun _ => ?_) (fun _ => ?_)
    · exact of_snd ‹_›
    · refine ite_keeps P (fun _ => ?_) (fun _ => ?_)
      · refine macControl_keeps K (of_snd ?_)
        assumption
      · refine ite_keeps P (fun _ => ?_) (fun _ => ?_)
        · refine ite_keeps P (fun _ => ?_) (fun _ => ?_)
          · refine deliverFrame_keeps K (bump_keeps K ?_)
            exact of_snd ‹_›
          · refine bump_keeps K (of_snd ?_)
            assumption
        · refine hrest _ _ ?_
          · exact of_snd ‹_›

theorem execEdgeFrameReceive_keeps (K : Keeps P) {p : Fin 4} {f : EthFrame} {cycles : Nat} {s : State} (hs : P s) :
    Nxt P (execEdgeFrameReceive p f cycles s) := by
  unfold execEdgeFrameReceive
  refine nxt_keeps (ite_keeps P (fun _ => ?_) (fun _ => ?_))
  · refine receive_keeps K (fun _ _ _ => ?_) ?_
    · refine ite_keeps P (fun _ => ?_) (fun _ => ?_)
      · refine deliverFrame_keeps K (bump_keeps K ?_)
        assumption
      · exact bump_keeps K ‹_›
    · assumption
  · assumption

theorem execHoldoffExpire_keeps (K : Keeps P) {p : Fin 4} {s : State} (hs : P s) :
    Nxt P (execHoldoffExpire p s) := by
  unfold execHoldoffExpire
  refine nxt_keeps (ite_keeps P (fun _ => ?_) (fun _ => ?_))
  · exact setB_keeps K ‹_›
  · assumption

theorem setLink_keeps (K : Keeps P) {p : Nat} {up : Bool} {s : State} (hs : P s) :
    P (setLink p up s) := by
  unfold setLink
  refine ite_keeps P (fun _ => ?_) (fun _ => ?_)
  · assumption
  · refine raise_keeps K (setB_keeps K ?_)
    exact setB_keeps K ‹_›

theorem execLinkChange_keeps (K : Keeps P) {p : Fin 4} {up : Bool} {anDone : Bool} {sfpPresent : Bool} {sfpLos : Bool} {sfpTxFault : Bool} {s : State} (hs : P s) :
    Nxt P (execLinkChange p up anDone sfpPresent sfpLos sfpTxFault s) := by
  unfold execLinkChange
  refine nxt_keeps (ite_keeps P (fun _ => ?_) (fun _ => ?_))
  · extract_lets -merge +onlyGivenNames x1
    try clear_value x1
    extract_lets -merge +onlyGivenNames x2
    have hx2 : P x2 := by
      exact setB_keeps K ‹_›
    clear_value x2
    extract_lets -merge +onlyGivenNames x3
    have hx3 : P x3 := by
      refine setB_keeps K (setB_keeps K ?_)
      exact setB_keeps K ‹_›
    clear_value x3
    exact setLink_keeps K ‹_›
  · assumption

theorem execMergeBlock_keeps (K : Keeps P) {t : Twin} {head : TxHead} {bytes : List Byte} {last : Bool} {s : State} (hs : P s) :
    Nxt P (execMergeBlock t head bytes last s) := by
  unfold execMergeBlock
  refine nxt_keeps (ite_keeps P (fun _ => ?_) (fun _ => ?_))
  · refine delayCopy_keeps K (fun _ _ => ?_) ?_
    · exact takeBlock_keeps K ‹_›
    · assumption
  · assumption

theorem execMergeSolo_keeps (K : Keeps P) {s : State} (hs : P s) :
    Nxt P (execMergeSolo s) := by
  unfold execMergeSolo
  refine nxt_keeps (ite_keeps P (fun _ => ?_) (fun _ => ?_))
  · assumption
  · split
    · assumption
    · extract_lets -merge +onlyGivenNames x1
      try clear_value x1
      extract_lets -merge +onlyGivenNames x2
      try clear_value x2
      extract_lets -merge +onlyGivenNames x3
      try clear_value x3
      extract_lets -merge +onlyGivenNames x4
      try clear_value x4
      extract_lets -merge +onlyGivenNames x5
      have hx5 : P x5 := by
        exact K.upd ‹_›
      clear_value x5
      refine routeMissing_keeps K (ite_keeps P (fun _ => ?_) (fun _ => ?_))
      · refine mergeLead_keeps K (bump_keeps K ?_)
        assumption
      · assumption

theorem execPauseExpire_keeps (K : Keeps P) {p : Fin 4} {us : Nat} {s : State} (hs : P s) :
    Nxt P (execPauseExpire p us s) := by
  unfold execPauseExpire
  refine nxt_keeps (ite_keeps P (fun _ => ?_) (fun _ => ?_))
  · exact resume_keeps K ‹_›
  · assumption

theorem execPauseFrame_keeps (K : Keeps P) {p : Fin 4} {quanta : BitVec 16} {opcode : BitVec 16} {toModule : Bool} {us : Nat} {s : State} (hs : P s) :
    Nxt P (execPauseFrame p quanta opcode toModule us s) := by
  unfold execPauseFrame
  refine nxt_keeps (ite_keeps P (fun _ => ?_) (fun _ => ?_))
  · extract_lets -merge +onlyGivenNames x1
    have hx1 : Snd P x1 := by
      refine tstApply_keeps K (of_snd ?_)
      exact rxStamp_keeps K ‹_›
    clear_value x1
    refine ite_keeps P (fun _ => ?_) (fun _ => ?_)
    · exact of_snd ‹_›
    · refine macControl_keeps K (of_snd ?_)
      assumption
  · assumption

theorem execRestartAn_keeps (K : Keeps P) {p : Fin 4} {s : State} (hs : P s) :
    Nxt P (execRestartAn p s) := by
  unfold execRestartAn
  refine nxt_keeps (ite_keeps P (fun _ => ?_) (fun _ => ?_))
  · exact setB_keeps K ‹_›
  · assumption

theorem ringFrame_keeps (K : Keeps P) {p : Nat} {f : EthFrame} {t : SplineTag} {raw : Word} {s : State} (hs : P s) :
    P (ringFrame p f t raw s) := by
  unfold ringFrame
  extract_lets -merge +onlyGivenNames x1
  have hx1 : P x1 := by
    exact bump_keeps K ‹_›
  clear_value x1
  refine ite_keeps P (fun _ => ?_) (fun _ => ?_)
  · exact bump_keeps K ‹_›
  · extract_lets -merge +onlyGivenNames x2
    try clear_value x2
    extract_lets -merge +onlyGivenNames x3
    have hx3 : Snd P x3 := by
      exact judgeWin_keeps K ‹_›
    clear_value x3
    extract_lets -merge +onlyGivenNames x4
    have hx4 : P x4 := by
      refine ite_keeps P (fun _ => ?_) (fun _ => ?_)
      · refine ite_keeps P (fun _ => ?_) (fun _ => ?_)
        · refine deliverFrame_keeps K (when_keeps K (fun _ _ => ?_) ?_)
          · exact relay_keeps K ‹_›
          · exact of_snd ‹_›
        · exact of_snd ‹_›
      · assumption
    clear_value x4
    refine ite_keeps P (fun _ => ?_) (fun _ => ?_)
    · refine stompForward_keeps K (ite_keeps P (fun _ => ?_) (fun _ => ?_))
      · assumption
      · exact bump_keeps K ‹_›
    · refine ite_keeps P (fun _ => ?_) (fun _ => ?_)
      · exact forward_keeps K ‹_›
      · assumption

theorem execRingFrameReceive_keeps (K : Keeps P) {p : Fin 4} {f : EthFrame} {cycles : Nat} {s : State} (hs : P s) :
    Nxt P (execRingFrameReceive p f cycles s) := by
  unfold execRingFrameReceive
  refine nxt_keeps (ite_keeps P (fun _ => ?_) (fun _ => ?_))
  · refine receive_keeps K (fun _ _ _ => ?_) ?_
    · split
      · refine ite_keeps P (fun _ => ?_) (fun _ => ?_)
        · exact ringFrame_keeps K ‹_›
        · refine bump_keeps K (stompForward_keeps K ?_)
          assumption
      · refine bump_keeps K (stompForward_keeps K ?_)
        assumption
    · assumption
  · assumption

theorem execTxFrameEnd_keeps (K : Keeps P) {p : Fin 4} {s : State} (hs : P s) :
    Nxt P (execTxFrameEnd p s) := by
  unfold execTxFrameEnd
  refine nxt_keeps ?_
  split
  · refine ite_keeps P (fun _ => ?_) (fun _ => ?_)
    · refine bump_keeps K (endTx_keeps K ?_)
      assumption
    · assumption
  · assumption

theorem execTxFrameStart_keeps (K : Keeps P) {p : Fin 4} {s : State} (hs : P s) :
    Nxt P (execTxFrameStart p s) := by
  unfold execTxFrameStart
  refine nxt_keeps (ite_keeps P (fun _ => ?_) (fun _ => ?_))
  · split
    · exact startTx_keeps K ‹_›
    · assumption
  · assumption

theorem execTxUnderrun_keeps (K : Keeps P) {p : Fin 4} {s : State} (hs : P s) :
    Nxt P (execTxUnderrun p s) := by
  unfold execTxUnderrun
  refine nxt_keeps ?_
  split
  · refine ite_keeps P (fun _ => ?_) (fun _ => ?_)
    · exact underrun_keeps K ‹_›
    · assumption
  · assumption

theorem execWindowEntryAge_keeps (K : Keeps P) {origin : BitVec 16} {stream : BitVec 3} {s : State} (hs : P s) :
    Nxt P (execWindowEntryAge origin stream s) := by
  unfold execWindowEntryAge
  refine nxt_keeps (ite_keeps P (fun _ => ?_) (fun _ => ?_))
  · exact setWin_keeps K ‹_›
  · assumption

/-! Upd -/

theorem execDefaults_keeps (K : Keeps P) {s : State} (hs : P s) :
    Nxt P (execDefaults s) := by
  unfold execDefaults
  refine nxt_keeps (ite_keeps P (fun _ => ?_) (fun _ => ?_))
  · exact settingsCommand_keeps K ‹_›
  · assumption

theorem execRcvAbort_keeps (K : Keeps P) {q : RcvReq} {s : State} (hs : P s) :
    Nxt P (execRcvAbort q s) := by
  unfold execRcvAbort
  refine nxt_keeps (rcvAnswer_keeps K (fun _ _ => ?_) ?_)
  · extract_lets -merge +onlyGivenNames x1
    have hx1 : Snd P x1 := by
      exact stgAbort_keeps K ‹_›
    clear_value x1
    refine ite_keeps (Snd P) (fun _ => ?_) (fun _ => ?_)
    · refine snd_mk (endSession_keeps K ?_)
      exact of_snd ‹_›
    · assumption
  · assumption

theorem execRcvBegin_keeps (K : Keeps P) {q : RcvReq} {s : State} (hs : P s) :
    Nxt P (execRcvBegin q s) := by
  unfold execRcvBegin
  refine nxt_keeps (rcvAnswer_keeps K (fun _ _ => ?_) ?_)
  · extract_lets -merge +onlyGivenNames x1
    have hx1 : Snd P x1 := by
      exact stgBegin_keeps K ‹_›
    clear_value x1
    refine ite_keeps (Snd P) (fun _ => ?_) (fun _ => ?_)
    · refine snd_mk ?_
      extract_lets -merge +onlyGivenNames x2
      have hx2 : P x2 := by
        exact of_snd ‹_›
      clear_value x2
      exact K.upd ‹_›
    · assumption
  · assumption

theorem execRcvBoot_keeps (K : Keeps P) {q : RcvReq} {s : State} (hs : P s) :
    Nxt P (execRcvBoot q s) := by
  unfold execRcvBoot
  refine nxt_keeps (rcvAnswer_keeps K (fun _ _ => ?_) ?_)
  · refine snd_mk (resetRequest_keeps K ?_)
    assumption
  · assumption

theorem execRcvCommit_keeps (K : Keeps P) {q : RcvReq} {s : State} (hs : P s) :
    Nxt P (execRcvCommit q s) := by
  unfold execRcvCommit
  refine nxt_keeps (rcvAnswer_keeps K (fun _ _ => ?_) ?_)
  · extract_lets -merge +onlyGivenNames x1
    have hx1 : Snd P x1 := by
      exact stgCommit_keeps K ‹_›
    clear_value x1
    refine ite_keeps (Snd P) (fun _ => ?_) (fun _ => ?_)
    · refine snd_mk (endSession_keeps K ?_)
      exact of_snd ‹_›
    · assumption
  · assumption

theorem execRcvData_keeps (K : Keeps P) {q : RcvReq} {s : State} (hs : P s) :
    Nxt P (execRcvData q s) := by
  unfold execRcvData
  refine nxt_keeps (rcvAnswer_keeps K (fun _ _ => ?_) ?_)
  · split
    · exact snd_mk ‹_›
    · refine ite_keeps (Snd P) (fun _ => ?_) (fun _ => ?_)
      · extract_lets -merge +onlyGivenNames x1
        have hx1 : Snd P x1 := by
          exact stgWrite_keeps K ‹_›
        clear_value x1
        refine ite_keeps (Snd P) (fun _ => ?_) (fun _ => ?_)
        · refine snd_mk ?_
          extract_lets -merge +onlyGivenNames x2
          have hx2 : P x2 := by
            exact of_snd ‹_›
          clear_value x2
          exact K.upd ‹_›
        · exact snd_mk ‹_›
      · exact snd_mk ‹_›
  · assumption

theorem execRcvHello_keeps (K : Keeps P) {q : RcvReq} {s : State} (hs : P s) :
    Nxt P (execRcvHello q s) := by
  unfold execRcvHello
  refine nxt_keeps (rcvAnswer_keeps K (fun _ _ => ?_) ?_)
  · exact snd_mk ‹_›
  · assumption

theorem execRcvHelloPeriod_keeps (K : Keeps P) {s : State} (hs : P s) :
    Nxt P (execRcvHelloPeriod s) := by
  unfold execRcvHelloPeriod
  refine nxt_keeps (ite_keeps P (fun _ => ?_) (fun _ => ?_))
  · extract_lets -merge +onlyGivenNames x1
    try clear_value x1
    refine emit_keeps K (K.upd ?_)
    assumption
  · assumption

theorem execRcvSessionTimeout_keeps (K : Keeps P) {s : State} (hs : P s) :
    Nxt P (execRcvSessionTimeout s) := by
  unfold execRcvSessionTimeout
  refine nxt_keeps (ite_keeps P (fun _ => ?_) (fun _ => ?_))
  · exact endSession_keeps K ‹_›
  · assumption

theorem execRecoverNext_keeps (K : Keeps P) {s : State} (hs : P s) :
    Nxt P (execRecoverNext s) := by
  unfold execRecoverNext
  refine nxt_keeps (ite_keeps P (fun _ => ?_) (fun _ => ?_))
  · assumption
  · refine ite_keeps P (fun _ => ?_) (fun _ => ?_)
    · exact stgAnswer_keeps K ‹_›
    · refine stgAnswer_keeps K (K.upd ?_)
      assumption

theorem execSaveSettings_keeps (K : Keeps P) {s : State} (hs : P s) :
    Nxt P (execSaveSettings s) := by
  unfold execSaveSettings
  refine nxt_keeps (ite_keeps P (fun _ => ?_) (fun _ => ?_))
  · exact settingsCommand_keeps K ‹_›
  · assumption

theorem execSettingsSaveDone_keeps (K : Keeps P) {c : Copies} {s : State} (hs : P s) :
    Nxt P (execSettingsSaveDone c s) := by
  unfold execSettingsSaveDone
  refine nxt_keeps ?_
  split
  · assumption
  · refine byPort_keeps K (fun _ _ => ?_) ?_
    · extract_lets -merge +onlyGivenNames x1
      try clear_value x1
      extract_lets -merge +onlyGivenNames x2
      have hx2 : P x2 := by
        refine putCopy_keeps K (K.upd ?_)
        assumption
      clear_value x2
      refine raise_keeps K (stgAnswer_keeps K ?_)
      exact setB_keeps K ‹_›
    · assumption

theorem execTrialTimeout_keeps (K : Keeps P) {s : State} (hs : P s) :
    Nxt P (execTrialTimeout s) := by
  unfold execTrialTimeout
  refine nxt_keeps (ite_keeps P (fun _ => ?_) (fun _ => ?_))
  · exact trialFail_keeps K ‹_›
  · assumption

theorem execUpdAbort_keeps (K : Keeps P) {who : StgIssuer} {s : State} (hs : P s) :
    Nxt P (execUpdAbort who s) := by
  unfold execUpdAbort
  refine nxt_keeps (stgIssue_keeps K (fun _ _ _ => ?_) ?_)
  · exact stgAbort_keeps K ‹_›
  · assumption

theorem execUpdBegin_keeps (K : Keeps P) {who : StgIssuer} {s : State} (hs : P s) :
    Nxt P (execUpdBegin who s) := by
  unfold execUpdBegin
  refine nxt_keeps (stgIssue_keeps K (fun _ _ _ => ?_) ?_)
  · exact stgBegin_keeps K ‹_›
  · assumption

theorem execUpdBeginDone_keeps (K : Keeps P) {s : State} (hs : P s) :
    Nxt P (execUpdBeginDone s) := by
  unfold execUpdBeginDone
  refine nxt_keeps (stgZeroed_keeps K ?_)
  assumption

theorem execUpdCommit_keeps (K : Keeps P) {who : StgIssuer} {s : State} (hs : P s) :
    Nxt P (execUpdCommit who s) := by
  unfold execUpdCommit
  refine nxt_keeps (stgIssue_keeps K (fun _ _ _ => ?_) ?_)
  · exact stgCommit_keeps K ‹_›
  · assumption

theorem execUpdDiscard_keeps (K : Keeps P) {s : State} (hs : P s) :
    Nxt P (execUpdDiscard s) := by
  unfold execUpdDiscard
  refine nxt_keeps (ite_keeps P (fun _ => ?_) (fun _ => ?_))
  · exact stgDiscard_keeps K ‹_›
  · assumption

theorem execUpdStgData_keeps (K : Keeps P) {v : Word} {s : State} (hs : P s) :
    Nxt P (execUpdStgData v s) := by
  unfold execUpdStgData
  refine nxt_keeps (ite_keeps P (fun _ => ?_) (fun _ => ?_))
  · exact stgData_keeps K ‹_›
  · assumption

/-! ImgLoad -/

theorem dropCells_keeps (K : Keeps P) {s : State} (hs : P s) :
    P (dropCells s) := by
  unfold dropCells
  refine clearRegs_keeps K (K.upd ?_)
  assumption

theorem fabFall_keeps (K : Keeps P) {s : State} (hs : P s) :
    P (fabFall s) := by
  unfold fabFall
  refine clearBlock_keeps K (K.upd ?_)
  assumption

theorem loadReg_keeps (K : Keeps P) {bad : Bool} {off : Nat} {v : Word} {s : State} (hs : P s) :
    P (loadReg bad off v s) := by
  unfold loadReg
  refine ite_keeps P (fun _ => ?_) (fun _ => ?_)
  · refine spoilLong_keeps K (drawn_keeps K ?_)
    exact setR_keeps K ‹_›
  · refine unspoilLong_keeps K (unspoil_keeps K ?_)
    exact setR_keeps K ‹_›

theorem loadInput_keeps (K : Keeps P) {t : Tab Byte} {i : Nat} {s : State} (hs : P s) :
    P (loadInput t i s) := by
  unfold loadInput
  split
  · exact loadReg_keeps K ‹_›
  · exact loadReg_keeps K ‹_›

theorem loadCell_keeps (K : Keeps P) {t : Tab Byte} {r : Nat} {s : State} (hs : P s) :
    P (loadCell t r s) := by
  unfold loadCell
  extract_lets -merge +onlyGivenNames x1
  try clear_value x1
  refine ite_keeps P (fun _ => ?_) (fun _ => ?_)
  · assumption
  · extract_lets -merge +onlyGivenNames x2
    try clear_value x2
    extract_lets -merge +onlyGivenNames x3
    have hx3 : P x3 := by
      refine each_keeps K (fun _ _ _ => ?_) ?_
      · exact loadReg_keeps K ‹_›
      · assumption
    clear_value x3
    extract_lets -merge +onlyGivenNames x4
    try clear_value x4
    exact setR_keeps K ‹_›

theorem fabRise_keeps (K : Keeps P) {s : State} (hs : P s) :
    P (fabRise s) := by
  unfold fabRise
  extract_lets -merge +onlyGivenNames x1
  try clear_value x1
  extract_lets -merge +onlyGivenNames x2
  have hx2 : P x2 := by
    refine clearBlock_keeps K (K.upd ?_)
    assumption
  clear_value x2
  extract_lets -merge +onlyGivenNames x3
  have hx3 : P x3 := by
    refine each_keeps K (fun _ _ _ => ?_) ?_
    · exact loadInput_keeps K ‹_›
    · refine each_keeps K (fun _ _ _ => ?_) ?_
      · exact loadCell_keeps K ‹_›
      · assumption
  clear_value x3
  refine of_snd (takeLevels_keeps K ?_)
  assumption

theorem loadSlotframe_keeps (K : Keeps P) {t : Tab Byte} {base : Nat} {i : Nat} {s : State} (hs : P s) :
    P (loadSlotframe t base i s) := by
  unfold loadSlotframe
  extract_lets -merge +onlyGivenNames x1
  try clear_value x1
  extract_lets -merge +onlyGivenNames x2
  try clear_value x2
  extract_lets -merge +onlyGivenNames x3
  try clear_value x3
  extract_lets -merge +onlyGivenNames x4
  try clear_value x4
  extract_lets -merge +onlyGivenNames x5
  try clear_value x5
  extract_lets -merge +onlyGivenNames x6
  try clear_value x6
  extract_lets -merge +onlyGivenNames x7
  try clear_value x7
  extract_lets -merge +onlyGivenNames x8
  try clear_value x8
  extract_lets -merge +onlyGivenNames x9
  try clear_value x9
  extract_lets -merge +onlyGivenNames x10
  have hx10 : P x10 := by
    exact loadReg_keeps K ‹_›
  clear_value x10
  extract_lets -merge +onlyGivenNames x11
  have hx11 : P x11 := by
    exact loadReg_keeps K ‹_›
  clear_value x11
  extract_lets -merge +onlyGivenNames x12
  have hx12 : P x12 := by
    exact loadReg_keeps K ‹_›
  clear_value x12
  extract_lets -merge +onlyGivenNames x13
  have hx13 : P x13 := by
    exact loadReg_keeps K ‹_›
  clear_value x13
  extract_lets -merge +onlyGivenNames x14
  have hx14 : P x14 := by
    exact setF_keeps K ‹_›
  clear_value x14
  refine each_keeps K (fun _ _ _ => ?_) ?_
  · extract_lets -merge +onlyGivenNames x15
    try clear_value x15
    extract_lets -merge +onlyGivenNames x16
    try clear_value x16
    extract_lets -merge +onlyGivenNames x17
    try clear_value x17
    extract_lets -merge +onlyGivenNames x18
    have hx18 : P x18 := by
      refine when_keeps K (fun _ _ => ?_) ?_
      · refine drawn_keeps K (drawn_keeps K ?_)
        assumption
      · assumption
    clear_value x18
    exact K.upd ‹_›
  · assumption

theorem loadAir_keeps (K : Keeps P) {s : State} (hs : P s) :
    P (loadAir s) := by
  unfold loadAir
  extract_lets -merge +onlyGivenNames x1
  try clear_value x1
  extract_lets -merge +onlyGivenNames x2
  have hx2 : P x2 := by
    exact clearRegs_keeps K ‹_›
  clear_value x2
  extract_lets -merge +onlyGivenNames x3
  have hx3 : P x3 := by
    refine each_keeps K (fun _ _ _ => ?_) ?_
    · exact setF_keeps K ‹_›
    · exact dropCells_keeps K ‹_›
  clear_value x3
  extract_lets -merge +onlyGivenNames x4
  have hx4 : P x4 := by
    unfold x4
    split
    · refine each_keeps K (fun _ _ _ => ?_) ?_
      · exact loadSlotframe_keeps K ‹_›
      · assumption
    · assumption
  clear_value x4
  exact setR_keeps K ‹_›

theorem loadChain_keeps (K : Keeps P) {t : Tab Byte} {k : Nat} {s : State} (hs : P s) :
    P (loadChain t k s) := by
  unfold loadChain
  extract_lets -merge +onlyGivenNames x1
  try clear_value x1
  extract_lets -merge +onlyGivenNames x2
  have hx2 : P x2 := by
    unfold x2
    split
    · extract_lets -merge +onlyGivenNames x3
      try clear_value x3
      refine loadReg_keeps K (loadReg_keeps K ?_)
      exact loadReg_keeps K ‹_›
    · refine loadReg_keeps K (loadReg_keeps K ?_)
      exact loadReg_keeps K ‹_›
  clear_value x2
  refine ite_keeps P (fun _ => ?_) (fun _ => ?_)
  · exact chnEnableRise_keeps K ‹_›
  · assumption

theorem loadChannel_keeps (K : Keeps P) {t : Tab Byte} {n : Nat} {s : State} (hs : P s) :
    P (loadChannel t n s) := by
  unfold loadChannel
  split
  · extract_lets -merge +onlyGivenNames x1
    try clear_value x1
    extract_lets -merge +onlyGivenNames x2
    have hx2 : P x2 := by
      refine loadReg_keeps K (loadReg_keeps K ?_)
      assumption
    clear_value x2
    refine when_keeps K (fun _ _ => ?_) ?_
    · extract_lets -merge +onlyGivenNames x3
      have hx3 : P x3 := by
        exact setF_keeps K ‹_›
      clear_value x3
      exact setF_keeps K ‹_›
    · assumption
  · refine loadReg_keeps K (loadReg_keeps K ?_)
    assumption

theorem loadChildren_keeps (K : Keeps P) {t : Tab Byte} {s : State} (hs : P s) :
    P (loadChildren t s) := by
  unfold loadChildren
  extract_lets -merge +onlyGivenNames x1
  try clear_value x1
  refine ite_keeps P (fun _ => ?_) (fun _ => ?_)
  · refine spoilLong_keeps K (drawn_keeps K ?_)
    exact setF_keeps K ‹_›
  · refine unspoilLong_keeps K (setF_keeps K ?_)
    assumption

theorem loadChn_keeps (K : Keeps P) {s : State} (hs : P s) :
    P (loadChn s) := by
  unfold loadChn
  refine each_keeps K (fun _ _ _ => ?_) ?_
  · exact loadChain_keeps K ‹_›
  · assumption

theorem loadDrv_keeps (K : Keeps P) {s : State} (hs : P s) :
    P (loadDrv s) := by
  unfold loadDrv
  extract_lets -merge +onlyGivenNames x1
  try clear_value x1
  extract_lets -merge +onlyGivenNames x2
  try clear_value x2
  extract_lets -merge +onlyGivenNames x3
  have hx3 : P x3 := by
    refine each_keeps K (fun _ _ _ => ?_) ?_
    · exact loadChannel_keeps K ‹_›
    · assumption
  clear_value x3
  extract_lets -merge +onlyGivenNames x4
  try clear_value x4
  extract_lets -merge +onlyGivenNames x5
  have hx5 : P x5 := by
    exact K.upd ‹_›
  clear_value x5
  refine each_keeps K (fun _ _ _ => ?_) ?_
  · exact joinLead_keeps K ‹_›
  · refine each_keeps K (fun _ _ _ => ?_) ?_
    · exact followEnable_keeps K ‹_›
    · assumption

theorem loadPoint_keeps (K : Keeps P) {t : Tab Byte} {p : Nat} {s : State} (hs : P s) :
    P (loadPoint t p s) := by
  unfold loadPoint
  split
  · extract_lets -merge +onlyGivenNames x1
    try clear_value x1
    extract_lets -merge +onlyGivenNames x2
    have hx2 : P x2 := by
      exact loadReg_keeps K ‹_›
    clear_value x2
    refine loadReg_keeps K (loadReg_keeps K ?_)
    assumption
  · refine loadReg_keeps K (loadReg_keeps K ?_)
    exact loadReg_keeps K ‹_›

theorem loadMtr_keeps (K : Keeps P) {s : State} (hs : P s) :
    P (loadMtr s) := by
  unfold loadMtr
  refine startPulses_keeps K (each_keeps K (fun _ _ _ => ?_) ?_)
  · exact loadPoint_keeps K ‹_›
  · assumption

theorem loadPort_keeps (K : Keeps P) {t : Tab Byte} {base : Nat} {p : Nat} {s : State} (hs : P s) :
    P (loadPort t base p s) := by
  unfold loadPort
  extract_lets -merge +onlyGivenNames x1
  try clear_value x1
  extract_lets -merge +onlyGivenNames x2
  try clear_value x2
  refine ite_keeps P (fun _ => ?_) (fun _ => ?_)
  · assumption
  · extract_lets -merge +onlyGivenNames x3
    try clear_value x3
    extract_lets -merge +onlyGivenNames x4
    try clear_value x4
    refine loadReg_keeps K (loadReg_keeps K ?_)
    exact loadReg_keeps K ‹_›

theorem loadNet_keeps (K : Keeps P) {s : State} (hs : P s) :
    P (loadNet s) := by
  unfold loadNet
  extract_lets -merge +onlyGivenNames x1
  try clear_value x1
  extract_lets -merge +onlyGivenNames x2
  have hx2 : P x2 := by
    unfold x2
    split
    · refine each_keeps K (fun _ _ _ => ?_) ?_
      · exact loadPort_keeps K ‹_›
      · assumption
    · assumption
  clear_value x2
  exact loadReg_keeps K ‹_›

theorem loadDomain_keeps (K : Keeps P) {d : Dom} {s : State} (hs : P s) :
    P (loadDomain d s) := by
  unfold loadDomain
  refine ite_keeps P (fun _ => ?_) (fun _ => ?_)
  · split
    · refine sealBlock_keeps K (sealBlock_keeps K ?_)
      refine loadChn_keeps K (loadDrv_keeps K ?_)
      assumption
    · refine sealBlock_keeps K (loadMtr_keeps K ?_)
      assumption
    · refine sealBlock_keeps K (loadNet_keeps K ?_)
      assumption
    · refine sealBlock_keeps K (loadAir_keeps K ?_)
      assumption
    · exact sealBlock_keeps K ‹_›
    · assumption
  · assumption

theorem loadRecord_keeps (K : Keeps P) {t : Tab Byte} {r : Nat} {s : State} (hs : P s) :
    P (loadRecord t r s) := by
  unfold loadRecord
  extract_lets -merge +onlyGivenNames x1
  try clear_value x1
  refine ite_keeps P (fun _ => ?_) (fun _ => ?_)
  · assumption
  · extract_lets -merge +onlyGivenNames x2
    try clear_value x2
    refine loadReg_keeps K (loadReg_keeps K ?_)
    assumption

theorem loadHier_keeps (K : Keeps P) {s : State} (hs : P s) :
    P (loadHier s) := by
  unfold loadHier
  extract_lets -merge +onlyGivenNames x1
  try clear_value x1
  extract_lets -merge +onlyGivenNames x2
  have hx2 : P x2 := by
    exact loadReg_keeps K ‹_›
  clear_value x2
  extract_lets -merge +onlyGivenNames x3
  have hx3 : P x3 := by
    refine each_keeps K (fun _ _ _ => ?_) ?_
    · exact loadRecord_keeps K ‹_›
    · exact clearRegs_keeps K ‹_›
  clear_value x3
  extract_lets -merge +onlyGivenNames x4
  have hx4 : P x4 := by
    exact loadChildren_keeps K ‹_›
  clear_value x4
  refine childRegs_keeps K (each_keeps K (fun _ _ _ => ?_) ?_)
  · exact setR_keeps K ‹_›
  · assumption

theorem loadTelem_keeps (K : Keeps P) {t : Tab Byte} {e : Nat} {r : Nat} {s : State} (hs : P s) :
    P (loadTelem t e r s) := by
  unfold loadTelem
  extract_lets -merge +onlyGivenNames x1
  try clear_value x1
  refine setR_keeps K (setR_keeps K ?_)
  assumption

theorem loadPln_keeps (K : Keeps P) {s : State} (hs : P s) :
    P (loadPln s) := by
  unfold loadPln
  extract_lets -merge +onlyGivenNames x1
  try clear_value x1
  extract_lets -merge +onlyGivenNames x2
  try clear_value x2
  extract_lets -merge +onlyGivenNames x3
  have hx3 : P x3 := by
    exact clearRegs_keeps K ‹_›
  clear_value x3
  extract_lets -merge +onlyGivenNames x4
  have hx4 : P x4 := by
    exact setR_keeps K ‹_›
  clear_value x4
  refine each_keeps K (fun _ _ _ => ?_) ?_
  · exact loadTelem_keeps K ‹_›
  · assumption

theorem loadWake_keeps (K : Keeps P) {s : State} (hs : P s) :
    P (loadWake s) := by
  unfold loadWake
  extract_lets -merge +onlyGivenNames x1
  try clear_value x1
  extract_lets -merge +onlyGivenNames x2
  try clear_value x2
  extract_lets -merge +onlyGivenNames x3
  try clear_value x3
  refine spoilLong_keeps K (unspoilLong_keeps K ?_)
  exact setR_keeps K ‹_›

theorem sealTag_keeps (K : Keeps P) {t : Tab Byte} {p : Nat} {s : State} (hs : P s) :
    P (sealTag t p s) := by
  unfold sealTag
  split
  · extract_lets -merge +onlyGivenNames x1
    try clear_value x1
    refine ite_keeps P (fun _ => ?_) (fun _ => ?_)
    · assumption
    · refine setTot_keeps K (setF_keeps K ?_)
      assumption
  · assumption

theorem writeSafe_keeps (K : Keeps P) {digest : List Byte} {s : State} (hs : P s) :
    P (writeSafe digest s) := by
  unfold writeSafe
  extract_lets -merge +onlyGivenNames x1
  try clear_value x1
  extract_lets -merge +onlyGivenNames x2
  try clear_value x2
  extract_lets -merge +onlyGivenNames x3
  have hx3 : P x3 := by
    refine when_keeps K (fun _ _ => ?_) ?_
    · exact K.upd ‹_›
    · assumption
  clear_value x3
  extract_lets -merge +onlyGivenNames x4
  try clear_value x4
  refine ite_keeps P (fun _ => ?_) (fun _ => ?_)
  · assumption
  · extract_lets -merge +onlyGivenNames x5
    try clear_value x5
    extract_lets -merge +onlyGivenNames x6
    try clear_value x6
    extract_lets -merge +onlyGivenNames x7
    try clear_value x7
    extract_lets -merge +onlyGivenNames x8
    try clear_value x8
    refine ite_keeps P (fun _ => ?_) (fun _ => ?_)
    · exact K.upd ‹_›
    · exact K.upd ‹_›

theorem sealImage_keeps (K : Keeps P) {full : Bool} {b : Bool} {s : State} (hs : P s) :
    P (sealImage full b s) := by
  unfold sealImage
  extract_lets -merge +onlyGivenNames x1
  have hx1 : P x1 := by
    refine loadPln_keeps K (loadHier_keeps K ?_)
    refine when_keeps K (fun _ _ => ?_) ?_
    · refine loadMtr_keeps K (loadNet_keeps K ?_)
      assumption
    · assumption
  clear_value x1
  extract_lets -merge +onlyGivenNames x2
  have hx2 : P x2 := by
    refine when_keeps K (fun _ _ => ?_) ?_
    · refine when_keeps K (fun _ _ => ?_) ?_
      · exact loadAir_keeps K ‹_›
      · exact loadWake_keeps K ‹_›
    · assumption
  clear_value x2
  extract_lets -merge +onlyGivenNames x3
  have hx3 : P x3 := by
    refine when_keeps K (fun _ _ => ?_) ?_
    · refine loadChn_keeps K (loadDrv_keeps K ?_)
      assumption
    · assumption
  clear_value x3
  extract_lets -merge +onlyGivenNames x4
  have hx4 : P x4 := by
    refine startPulses_keeps K (each_keeps K (fun _ _ _ => ?_) ?_)
    · exact sealTag_keeps K ‹_›
    · assumption
  clear_value x4
  extract_lets -merge +onlyGivenNames x5
  have hx5 : P x5 := by
    exact K.upd ‹_›
  clear_value x5
  extract_lets -merge +onlyGivenNames x6
  have hx6 : P x6 := by
    exact writeSafe_keeps K ‹_›
  clear_value x6
  extract_lets -merge +onlyGivenNames x7
  try clear_value x7
  extract_lets -merge +onlyGivenNames x8
  try clear_value x8
  refine setB_keeps K (setB_keeps K ?_)
  refine setR_keeps K (K.upd ?_)
  assumption

theorem verifyActive_keeps (K : Keeps P) {full : Bool} {keep : Bool} {s : State} (hs : P s) :
    Snd P (verifyActive full keep s) := by
  unfold verifyActive
  extract_lets -merge +onlyGivenNames x1
  have hx1 : P x1 := by
    refine setR_keeps K (setB_keeps K ?_)
    assumption
  clear_value x1
  split
  · exact snd_mk ‹_›
  · extract_lets -merge +onlyGivenNames x2
    try clear_value x2
    extract_lets -merge +onlyGivenNames x3
    try clear_value x3
    extract_lets -merge +onlyGivenNames x4
    have hx4 : P x4 := by
      exact setR_keeps K ‹_›
    clear_value x4
    extract_lets -merge +onlyGivenNames x5
    have hx5 : P x5 := by
      refine each_keeps K (fun _ _ _ => ?_) ?_
      · exact setR_keeps K ‹_›
      · assumption
    clear_value x5
    extract_lets -merge +onlyGivenNames x6
    have hx6 : P x6 := by
      refine raise_keeps K (ite_keeps P (fun _ => ?_) (fun _ => ?_))
      · assumption
      · exact imgReport_keeps K ‹_›
    clear_value x6
    refine ite_keeps (Snd P) (fun _ => ?_) (fun _ => ?_)
    · extract_lets -merge +onlyGivenNames x7
      try clear_value x7
      refine snd_mk (sealImage_keeps K ?_)
      exact setB_keeps K ‹_›
    · exact snd_mk ‹_›

theorem stageLoad_keeps (K : Keeps P) {full : Bool} {s : State} (hs : P s) :
    Snd P (stageLoad full s) := by
  unfold stageLoad
  refine ite_keeps (Snd P) (fun _ => ?_) (fun _ => ?_)
  · extract_lets -merge +onlyGivenNames x1
    try clear_value x1
    extract_lets -merge +onlyGivenNames x2
    try clear_value x2
    refine ite_keeps (Snd P) (fun _ => ?_) (fun _ => ?_)
    · refine verifyActive_keeps K (K.upd ?_)
      assumption
    · refine verifyActive_keeps K (raise_keeps K ?_)
      refine setB_keeps K (imgReport_keeps K ?_)
      exact K.upd ‹_›
  · exact verifyActive_keeps K ‹_›

/-! Boot -/

theorem airFall_keeps (K : Keeps P) {s : State} (hs : P s) :
    P (airFall s) := by
  unfold airFall
  refine dropCells_keeps K (K.upd ?_)
  assumption

theorem setDom_keeps (K : Keeps P) {d : Dom} {n : Nat} {s : State} (hs : P s) :
    P (setDom d n s) := by
  unfold setDom
  exact setF_keeps K ‹_›

theorem enterRun_keeps (K : Keeps P) {s : State} (hs : P s) :
    P (enterRun s) := by
  unfold enterRun
  refine airDrain_keeps K (K.upd ?_)
  assumption

theorem issueHeld_keeps (K : Keeps P) {k : Nat} {s : State} (hs : P s) :
    P (issueHeld k s) := by
  unfold issueHeld
  extract_lets -merge +onlyGivenNames x1
  try clear_value x1
  refine each_keeps K (fun _ _ _ => ?_) ?_
  · split
    · exact emit_keeps K ‹_›
    · assumption
  · exact setChain_keeps K ‹_›

theorem issueWords_keeps (K : Keeps P) {k : Nat} {s : State} (hs : P s) :
    P (issueWords k s) := by
  unfold issueWords
  refine ite_keeps P (fun _ => ?_) (fun _ => ?_)
  · extract_lets -merge +onlyGivenNames x1
    try clear_value x1
    extract_lets -merge +onlyGivenNames x2
    have hx2 : P x2 := by
      exact setChain_keeps K ‹_›
    clear_value x2
    refine each_keeps K (fun _ _ _ => ?_) ?_
    · extract_lets -merge +onlyGivenNames x3
      try clear_value x3
      exact emit_keeps K ‹_›
    · assumption
  · assumption

theorem passHeld_keeps (K : Keeps P) {n : Nat} {s : State} (hs : P s) :
    P (passHeld n s) := by
  unfold passHeld
  split
  · exact mitreChoice_keeps K ‹_›
  · assumption

theorem enterLive_keeps (K : Keeps P) {s : State} (hs : P s) :
    P (enterLive s) := by
  unfold enterLive
  refine each_keeps K (fun _ _ _ => ?_) ?_
  · exact issueHeld_keeps K ‹_›
  · refine each_keeps K (fun _ _ _ => ?_) ?_
    · exact issueWords_keeps K ‹_›
    · refine each_keeps K (fun _ _ _ => ?_) ?_
      · exact passHeld_keeps K ‹_›
      · assumption

theorem driveTo_keeps (K : Keeps P) {n : Nat} {s : State} (hs : P s) :
    P (driveTo n s) := by
  unfold driveTo
  extract_lets -merge +onlyGivenNames x1
  try clear_value x1
  extract_lets -merge +onlyGivenNames x2
  have hx2 : P x2 := by
    exact setDom_keeps K ‹_›
  clear_value x2
  refine ite_keeps P (fun _ => ?_) (fun _ => ?_)
  · assumption
  · refine ite_keeps P (fun _ => ?_) (fun _ => ?_)
    · refine each_keeps K (fun _ _ _ => ?_) ?_
      · exact chnFall_keeps K ‹_›
      · refine driveFall_keeps K (K.upd ?_)
        assumption
    · extract_lets -merge +onlyGivenNames x3
      have hx3 : P x3 := by
        refine ite_keeps P (fun _ => ?_) (fun _ => ?_)
        · refine driveRise_keeps K (loadDomain_keeps K ?_)
          assumption
        · assumption
      clear_value x3
      refine ite_keeps P (fun _ => ?_) (fun _ => ?_)
      · exact enterLive_keeps K ‹_›
      · exact K.upd ‹_›

theorem stageSafe_keeps (K : Keeps P) {s : State} (hs : P s) :
    P (stageSafe s) := by
  unfold stageSafe
  extract_lets -merge +onlyGivenNames x1
  have hx1 : P x1 := by
    exact setF_keeps K ‹_›
  clear_value x1
  split
  · refine when_keeps K (fun _ _ => ?_) ?_
    · exact driveTo_keeps K ‹_›
    · exact setB_keeps K ‹_›
  · exact setB_keeps K ‹_›

theorem stageRom_keeps (K : Keeps P) {k : StartKind} {s : State} (hs : P s) :
    P (stageRom k s) := by
  unfold stageRom
  refine startPulses_keeps K (mtrRestore_keeps K ?_)
  refine romStage_keeps K (breakSeals_keeps K ?_)
  assumption

theorem stageImg_keeps (K : Keeps P) {k : StartKind} {s : State} (hs : P s) :
    P (stageImg k s) := by
  unfold stageImg
  extract_lets -merge +onlyGivenNames x1
  have hx1 : Snd P x1 := by
    refine stageLoad_keeps K (setF_keeps K ?_)
    assumption
  clear_value x1
  extract_lets -merge +onlyGivenNames x2
  try clear_value x2
  refine ite_keeps P (fun _ => ?_) (fun _ => ?_)
  · refine pwrIssue_keeps K (of_snd ?_)
    assumption
  · exact of_snd ‹_›

theorem stageFw_keeps (K : Keeps P) {k : StartKind} {s : State} (hs : P s) :
    P (stageFw k s) := by
  unfold stageFw
  refine childRegs_keeps K (loadSettings_keeps K ?_)
  refine setB_keeps K (setF_keeps K ?_)
  assumption

theorem stageReady_keeps (K : Keeps P) {k : StartKind} {s : State} (hs : P s) :
    P (stageReady k s) := by
  unfold stageReady
  refine ite_keeps P (fun _ => ?_) (fun _ => ?_)
  · exact trialFail_keeps K ‹_›
  · extract_lets -merge +onlyGivenNames x1
    have hx1 : P x1 := by
      refine when_keeps K (fun _ _ => ?_) ?_
      · exact trialPass_keeps K ‹_›
      · assumption
    clear_value x1
    extract_lets -merge +onlyGivenNames x2
    have hx2 : P x2 := by
      exact K.upd ‹_›
    clear_value x2
    extract_lets -merge +onlyGivenNames x3
    try clear_value x3
    extract_lets -merge +onlyGivenNames x4
    try clear_value x4
    extract_lets -merge +onlyGivenNames x5
    have hx5 : P x5 := by
      exact K.upd ‹_›
    clear_value x5
    refine raise_keeps K (setF_keeps K ?_)
    refine when_keeps K (fun _ _ => ?_) ?_
    · exact planeStarts_keeps K ‹_›
    · refine childRegs_keeps K (hierStat_keeps K ?_)
      assumption

theorem nextStage_keeps (K : Keeps P) {k : StartKind} {s : State} (hs : P s) :
    P (nextStage k s) := by
  unfold nextStage
  split
  · exact setF_keeps K ‹_›
  · exact stageSafe_keeps K ‹_›
  · refine ite_keeps P (fun _ => ?_) (fun _ => ?_)
    · exact haltCores_keeps K ‹_›
    · refine ite_keeps P (fun _ => ?_) (fun _ => ?_)
      · exact stageRom_keeps K ‹_›
      · assumption
  · refine ite_keeps P (fun _ => ?_) (fun _ => ?_)
    · exact stageImg_keeps K ‹_›
    · assumption
  · refine ite_keeps P (fun _ => ?_) (fun _ => ?_)
    · exact stageFw_keeps K ‹_›
    · assumption
  · refine ite_keeps P (fun _ => ?_) (fun _ => ?_)
    · exact stageReady_keeps K ‹_›
    · assumption
  · assumption

theorem runStages_keeps (K : Keeps P) {upto : Nat} (n : Nat) : ∀ {s : State}, P s → P (runStages upto n s) := by
  induction n with
  | zero => exact fun h => h
  | succ n ih =>
    intro s hs
    unfold runStages
    split
    · exact ite_keeps P (fun _ => ih (nextStage_keeps K hs)) (fun _ => hs)
    · exact hs

theorem ctrlRaise_keeps (K : Keeps P) {s : State} (hs : P s) :
    P (ctrlRaise s) := by
  unfold ctrlRaise
  extract_lets -merge +onlyGivenNames x1
  try clear_value x1
  extract_lets -merge +onlyGivenNames x2
  have hx2 : P x2 := by
    refine setDom_keeps K (K.upd ?_)
    assumption
  clear_value x2
  refine enterRun_keeps K (runStages_keeps K _ ?_)
  refine stageRom_keeps K (newEpochAtStart_keeps K ?_)
  assumption

theorem clearCtrl_keeps (K : Keeps P) {s : State} (hs : P s) :
    P (clearCtrl s) := by
  unfold clearCtrl
  extract_lets -merge +onlyGivenNames x1
  have hx1 : P x1 := by
    refine each_keeps K (fun _ _ _ => ?_) ?_
    · exact dropOpen_keeps K ‹_›
    · assumption
  clear_value x1
  extract_lets -merge +onlyGivenNames x2
  have hx2 : P x2 := by
    exact clearRegs_keeps K ‹_›
  clear_value x2
  extract_lets -merge +onlyGivenNames x3
  try clear_value x3
  extract_lets -merge +onlyGivenNames x4
  have hx4 : P x4 := by
    exact K.upd ‹_›
  clear_value x4
  extract_lets -merge +onlyGivenNames x5
  try clear_value x5
  extract_lets -merge +onlyGivenNames x6
  try clear_value x6
  extract_lets -merge +onlyGivenNames x7
  try clear_value x7
  extract_lets -merge +onlyGivenNames x8
  try clear_value x8
  extract_lets -merge +onlyGivenNames x9
  try clear_value x9
  extract_lets -merge +onlyGivenNames x10
  try clear_value x10
  extract_lets -merge +onlyGivenNames x11
  try clear_value x11
  extract_lets -merge +onlyGivenNames x12
  have hx12 : P x12 := by
    exact K.upd ‹_›
  clear_value x12
  extract_lets -merge +onlyGivenNames x13
  have hx13 : P x13 := by
    refine each_keeps K (fun _ _ _ => ?_) ?_
    · exact setRadio_keeps K ‹_›
    · assumption
  clear_value x13
  extract_lets -merge +onlyGivenNames x14
  have hx14 : P x14 := by
    refine each_keeps K (fun _ _ _ => ?_) ?_
    · exact setChain_keeps K ‹_›
    · assumption
  clear_value x14
  refine setB_keeps K (setB_keeps K ?_)
  assumption

theorem ctrlFall_keeps (K : Keeps P) {s : State} (hs : P s) :
    P (ctrlFall s) := by
  unfold ctrlFall
  extract_lets -merge +onlyGivenNames x1
  have hx1 : P x1 := by
    exact clearCtrl_keeps K ‹_›
  clear_value x1
  exact K.upd ‹_›

theorem mtrRise_keeps (K : Keeps P) {s : State} (hs : P s) :
    P (mtrRise s) := by
  unfold mtrRise
  refine startPulses_keeps K (loadDomain_keeps K ?_)
  exact K.upd ‹_›

theorem netClear_keeps (K : Keeps P) {s : State} (hs : P s) :
    P (netClear s) := by
  unfold netClear
  extract_lets -merge +onlyGivenNames x1
  have hx1 : P x1 := by
    exact K.upd ‹_›
  clear_value x1
  extract_lets -merge +onlyGivenNames x2
  have hx2 : P x2 := by
    refine each_keeps K (fun _ _ _ => ?_) ?_
    · refine setB_keeps K (setB_keeps K ?_)
      refine setB_keeps K (each_keeps K (fun _ _ _ => ?_) ?_)
      · exact setF_keeps K ‹_›
      · assumption
    · assumption
  clear_value x2
  refine setB_keeps K (setB_keeps K ?_)
  refine setF_keeps K (setF_keeps K ?_)
  assumption

theorem netFall_keeps (K : Keeps P) {s : State} (hs : P s) :
    P (netFall s) := by
  unfold netFall
  refine netClear_keeps K (when_keeps K (fun _ _ => ?_) ?_)
  · exact setDisc_keeps K ‹_›
  · assumption

theorem netRise_keeps (K : Keeps P) {s : State} (hs : P s) :
    P (netRise s) := by
  unfold netRise
  extract_lets -merge +onlyGivenNames x1
  have hx1 : P x1 := by
    exact clearRegs_keeps K ‹_›
  clear_value x1
  refine loadDomain_keeps K (setR_keeps K ?_)
  refine setR_keeps K (setR_keeps K ?_)
  exact netClear_keeps K ‹_›

theorem applyChange_keeps (K : Keeps P) {c : DomChange} {s : State} (hs : P s) :
    P (applyChange c s) := by
  unfold applyChange
  split
  · refine ite_keeps P (fun _ => ?_) (fun _ => ?_)
    · extract_lets -merge +onlyGivenNames x1
      have hx1 : P x1 := by
        exact ctrlRaise_keeps K ‹_›
      clear_value x1
      refine ite_keeps P (fun _ => ?_) (fun _ => ?_)
      · exact setDom_keeps K ‹_›
      · assumption
    · refine ite_keeps P (fun _ => ?_) (fun _ => ?_)
      · refine setDom_keeps K (ctrlFall_keeps K ?_)
        assumption
      · refine ite_keeps P (fun _ => ?_) (fun _ => ?_)
        · refine enterRun_keeps K (setDom_keeps K ?_)
          assumption
        · exact setDom_keeps K ‹_›
  · exact driveTo_keeps K ‹_›
  · refine ite_keeps P (fun _ => ?_) (fun _ => ?_)
    · exact setDom_keeps K ‹_›
    · refine mtrRise_keeps K (setDom_keeps K ?_)
      assumption
  · refine ite_keeps P (fun _ => ?_) (fun _ => ?_)
    · refine setDom_keeps K (netFall_keeps K ?_)
      assumption
    · refine netRise_keeps K (setDom_keeps K ?_)
      assumption
  · refine ite_keeps P (fun _ => ?_) (fun _ => ?_)
    · refine airFall_keeps K (setDom_keeps K ?_)
      assumption
    · refine loadDomain_keeps K (airRise_keeps K ?_)
      exact setDom_keeps K ‹_›
  · extract_lets -merge +onlyGivenNames x2
    try clear_value x2
    extract_lets -merge +onlyGivenNames x3
    have hx3 : P x3 := by
      exact setDom_keeps K ‹_›
    clear_value x3
    refine ite_keeps P (fun _ => ?_) (fun _ => ?_)
    · exact fabFall_keeps K ‹_›
    · extract_lets -merge +onlyGivenNames x4
      have hx4 : P x4 := by
        refine ite_keeps P (fun _ => ?_) (fun _ => ?_)
        · refine loadDomain_keeps K (fabRise_keeps K ?_)
          assumption
        · assumption
      clear_value x4
      exact setB_keeps K ‹_›

theorem clearRest_keeps (K : Keeps P) {s : State} (hs : P s) :
    P (clearRest s) := by
  unfold clearRest
  extract_lets -merge +onlyGivenNames x1
  have hx1 : P x1 := by
    refine airFall_keeps K (netFall_keeps K ?_)
    assumption
  clear_value x1
  extract_lets -merge +onlyGivenNames x2
  have hx2 : P x2 := by
    exact clearRegs_keeps K ‹_›
  clear_value x2
  refine setB_keeps K (K.upd ?_)
  assumption

theorem clearPower_keeps (K : Keeps P) {s : State} (hs : P s) :
    P (clearPower s) := by
  unfold clearPower
  refine setB_keeps K (setB_keeps K ?_)
  exact clearRegs_keeps K ‹_›

theorem brownOutEffect_keeps (K : Keeps P) {s : State} (hs : P s) :
    P (brownOutEffect s) := by
  unfold brownOutEffect
  extract_lets -merge +onlyGivenNames x1
  try clear_value x1
  extract_lets -merge +onlyGivenNames x2
  have hx2 : P x2 := by
    refine endTest_keeps K (clearRest_keeps K ?_)
    refine clearCtrl_keeps K (driveFall_keeps K ?_)
    exact K.upd ‹_›
  clear_value x2
  extract_lets -merge +onlyGivenNames x3
  have hx3 : P x3 := by
    refine clearPower_keeps K (clearRegs_keeps K ?_)
    assumption
  clear_value x3
  refine setDom_keeps K (K.upd ?_)
  assumption

theorem recordCause_keeps (K : Keeps P) {i : Nat} {glob : Bool} {s : State} (hs : P s) :
    P (recordCause i glob s) := by
  unfold recordCause
  refine when_keeps K (fun _ _ => ?_) ?_
  · exact setF_keeps K ‹_›
  · exact setF_keeps K ‹_›

theorem controllerEffect_keeps (K : Keeps P) {glob : Bool} {s : State} (hs : P s) :
    P (controllerEffect glob s) := by
  unfold controllerEffect
  extract_lets -merge +onlyGivenNames x1
  have hx1 : P x1 := by
    exact clearCtrl_keeps K ‹_›
  clear_value x1
  extract_lets -merge +onlyGivenNames x2
  try clear_value x2
  extract_lets -merge +onlyGivenNames x3
  try clear_value x3
  extract_lets -merge +onlyGivenNames x4
  have hx4 : P x4 := by
    refine recordCause_keeps K (K.upd ?_)
    assumption
  clear_value x4
  extract_lets -merge +onlyGivenNames x5
  have hx5 : P x5 := by
    exact newEpochAtStart_keeps K ‹_›
  clear_value x5
  refine stageRom_keeps K (when_keeps K (fun _ _ => ?_) ?_)
  · exact setDom_keeps K ‹_›
  · assumption

theorem moduleEffect_keeps (K : Keeps P) {glob : Bool} {s : State} (hs : P s) :
    P (moduleEffect glob s) := by
  unfold moduleEffect
  extract_lets -merge +onlyGivenNames x1
  try clear_value x1
  extract_lets -merge +onlyGivenNames x2
  try clear_value x2
  extract_lets -merge +onlyGivenNames x3
  have hx3 : P x3 := by
    refine endTest_keeps K (clearPower_keeps K ?_)
    refine clearRest_keeps K (clearCtrl_keeps K ?_)
    assumption
  clear_value x3
  extract_lets -merge +onlyGivenNames x4
  try clear_value x4
  extract_lets -merge +onlyGivenNames x5
  have hx5 : P x5 := by
    refine recordCause_keeps K (K.upd ?_)
    assumption
  clear_value x5
  extract_lets -merge +onlyGivenNames x6
  have hx6 : P x6 := by
    exact newEpochAtStart_keeps K ‹_›
  clear_value x6
  refine ite_keeps P (fun _ => ?_) (fun _ => ?_)
  · assumption
  · refine ite_keeps P (fun _ => ?_) (fun _ => ?_)
    · exact driveFall_keeps K ‹_›
    · extract_lets -merge +onlyGivenNames x7
      have hx7 : P x7 := by
        exact setDom_keeps K ‹_›
      clear_value x7
      refine each_keeps K (fun _ _ _ => ?_) ?_
      · refine when_keeps K (fun _ _ => ?_) ?_
        · exact safeRamp_keeps K ‹_›
        · exact followEnable_keeps K ‹_›
      · assumption

/-! Power -/

theorem aonColdStart_keeps (K : Keeps P) {s : State} (hs : P s) :
    P (aonColdStart s) := by
  unfold aonColdStart
  extract_lets -merge +onlyGivenNames x1
  have hx1 : P x1 := by
    refine clearLoaded_keeps K (clearBlock_keeps K ?_)
    refine clearBlock_keeps K (K.upd ?_)
    assumption
  clear_value x1
  refine showOpen_keeps K (setB_keeps K ?_)
  assumption

theorem clearPort_keeps (K : Keeps P) {s : State} (hs : P s) :
    P (clearPort s) := by
  unfold clearPort
  extract_lets -merge +onlyGivenNames x1
  have hx1 : P x1 := by
    refine each_keeps K (fun _ _ _ => ?_) ?_
    · exact fwdDone_keeps K ‹_›
    · assumption
  clear_value x1
  extract_lets -merge +onlyGivenNames x2
  have hx2 : P x2 := by
    refine clearBlock_keeps K (K.upd ?_)
    assumption
  clear_value x2
  exact K.upd ‹_›

theorem execBrownOutReset_keeps (K : Keeps P) {s : State} (hs : P s) :
    Nxt P (execBrownOutReset s) := by
  unfold execBrownOutReset
  refine nxt_keeps (ite_keeps P (fun _ => ?_) (fun _ => ?_))
  · assumption
  · exact brownOutEffect_keeps K ‹_›

theorem execControllerReset_keeps (K : Keeps P) {glob : Bool} {s : State} (hs : P s) :
    Nxt P (execControllerReset glob s) := by
  unfold execControllerReset
  refine nxt_keeps (ite_keeps P (fun _ => ?_) (fun _ => ?_))
  · assumption
  · exact resetRequest_keeps K ‹_›

theorem execDomainChangeDone_keeps (K : Keeps P) {s : State} (hs : P s) :
    Nxt P (execDomainChangeDone s) := by
  unfold execDomainChangeDone
  refine nxt_keeps ?_
  split
  · assumption
  · extract_lets -merge +onlyGivenNames x1
    try clear_value x1
    extract_lets -merge +onlyGivenNames x2
    have hx2 : P x2 := by
      refine applyChange_keeps K (K.upd ?_)
      assumption
    clear_value x2
    refine ite_keeps P (fun _ => ?_) (fun _ => ?_)
    · exact pwrBegin_keeps K ‹_›
    · assumption

theorem execHoldupMeasure_keeps (K : Keeps P) {s : State} (hs : P s) :
    Nxt P (execHoldupMeasure s) := by
  unfold execHoldupMeasure
  refine nxt_keeps (ite_keeps P (fun _ => ?_) (fun _ => ?_))
  · assumption
  · exact K.upd ‹_›

theorem storeTo_keeps (K : Keeps P) {v : Nat} {s : State} (hs : P s) :
    P (storeTo v s) := by
  unfold storeTo
  refine setB_keeps K (K.upd ?_)
  assumption

theorem execHoldupMeasureDone_keeps (K : Keeps P) {uf : Nat} {s : State} (hs : P s) :
    Nxt P (execHoldupMeasureDone uf s) := by
  unfold execHoldupMeasureDone
  refine nxt_keeps (ite_keeps P (fun _ => ?_) (fun _ => ?_))
  · extract_lets -merge +onlyGivenNames x1
    try clear_value x1
    extract_lets -merge +onlyGivenNames x2
    try clear_value x2
    extract_lets -merge +onlyGivenNames x3
    have hx3 : P x3 := by
      refine storeTo_keeps K (drawn_keeps K ?_)
      exact K.upd ‹_›
    clear_value x3
    extract_lets -merge +onlyGivenNames x4
    have hx4 : P x4 := by
      refine setB_keeps K (setF_keeps K ?_)
      assumption
    clear_value x4
    refine ite_keeps P (fun _ => ?_) (fun _ => ?_)
    · exact raise_keeps K ‹_›
    · assumption
  · assumption

theorem j1Falls_keeps (K : Keeps P) {s : State} (hs : P s) :
    P (j1Falls s) := by
  unfold j1Falls
  refine each_keeps K (fun _ _ _ => ?_) ?_
  · exact waitJ1_keeps K ‹_›
  · refine setB_keeps K (K.upd ?_)
    assumption

theorem execJ1Loss_keeps (K : Keeps P) {s : State} (hs : P s) :
    Nxt P (execJ1Loss s) := by
  unfold execJ1Loss
  refine nxt_keeps (ite_keeps P (fun _ => ?_) (fun _ => ?_))
  · exact j1Falls_keeps K ‹_›
  · assumption

theorem leaveWait_keeps (K : Keeps P) {n : Nat} {s : State} (hs : P s) :
    P (leaveWait n s) := by
  unfold leaveWait
  refine ite_keeps P (fun _ => ?_) (fun _ => ?_)
  · exact toBias_keeps K ‹_›
  · assumption

theorem j1Rises_keeps (K : Keeps P) {s : State} (hs : P s) :
    P (j1Rises s) := by
  unfold j1Rises
  extract_lets -merge +onlyGivenNames x1
  try clear_value x1
  extract_lets -merge +onlyGivenNames x2
  have hx2 : P x2 := by
    refine each_keeps K (fun _ _ _ => ?_) ?_
    · exact leaveWait_keeps K ‹_›
    · refine setB_keeps K (K.upd ?_)
      assumption
  clear_value x2
  refine ite_keeps P (fun _ => ?_) (fun _ => ?_)
  · assumption
  · exact wakeSource_keeps K ‹_›

theorem execJ1Return_keeps (K : Keeps P) {s : State} (hs : P s) :
    Nxt P (execJ1Return s) := by
  unfold execJ1Return
  refine nxt_keeps (ite_keeps P (fun _ => ?_) (fun _ => ?_))
  · assumption
  · exact j1Rises_keeps K ‹_›

theorem showTherm_keeps (K : Keeps P) {vBus : Nat} {temp : Int} {s : State} (hs : P s) :
    P (showTherm vBus temp s) := by
  unfold showTherm
  exact setB_keeps K ‹_›

theorem execLimiterUpdate_keeps (K : Keeps P) {pOut : Nat} {pIn : Nat} {vBus : Nat} {temp : Int} {s : State} (hs : P s) :
    Nxt P (execLimiterUpdate pOut pIn vBus temp s) := by
  unfold execLimiterUpdate
  refine nxt_keeps (ite_keeps P (fun _ => ?_) (fun _ => ?_))
  · extract_lets -merge +onlyGivenNames x1
    try clear_value x1
    extract_lets -merge +onlyGivenNames x2
    try clear_value x2
    extract_lets -merge +onlyGivenNames x3
    try clear_value x3
    extract_lets -merge +onlyGivenNames x4
    try clear_value x4
    extract_lets -merge +onlyGivenNames x5
    have hx5 : P x5 := by
      refine setB_keeps K (setB_keeps K ?_)
      refine showTherm_keeps K (K.upd ?_)
      assumption
    clear_value x5
    extract_lets -merge +onlyGivenNames x6
    have hx6 : P x6 := by
      refine each_keeps K (fun _ _ _ => ?_) ?_
      · exact noteBlank_keeps K ‹_›
      · assumption
    clear_value x6
    refine ite_keeps P (fun _ => ?_) (fun _ => ?_)
    · refine raise_keeps K (bump_keeps K ?_)
      assumption
    · assumption
  · assumption

theorem execModuleReset_keeps (K : Keeps P) {glob : Bool} {s : State} (hs : P s) :
    Nxt P (execModuleReset glob s) := by
  unfold execModuleReset
  refine nxt_keeps (ite_keeps P (fun _ => ?_) (fun _ => ?_))
  · assumption
  · exact resetRequest_keeps K ‹_›

theorem execPerstAssert_keeps (K : Keeps P) {s : State} (hs : P s) :
    Nxt P (execPerstAssert s) := by
  unfold execPerstAssert
  refine nxt_keeps (ite_keeps P (fun _ => ?_) (fun _ => ?_))
  · assumption
  · refine setF_keeps K (clearPort_keeps K ?_)
    exact K.upd ‹_›

theorem execPerstRelease_keeps (K : Keeps P) {s : State} (hs : P s) :
    Nxt P (execPerstRelease s) := by
  unfold execPerstRelease
  refine nxt_keeps (K.upd ?_)
  assumption

theorem hostPower_keeps (K : Keeps P) {v : Word} {s : State} (hs : P s) :
    P (hostPower v s) := by
  unfold hostPower
  exact pwrIssue_keeps K ‹_›

theorem execPowerCommand_keeps (K : Keeps P) {r : Route} {v : Word} {s : State} (hs : P s) :
    Nxt P (execPowerCommand r v s) := by
  unfold execPowerCommand
  refine nxt_keeps (ite_keeps P (fun _ => ?_) (fun _ => ?_))
  · exact hostPower_keeps K ‹_›
  · assumption

theorem execPowerFailTrip_keeps (K : Keeps P) {chan : List (List (Int × Int))} {s : State} (hs : P s) :
    Nxt P (execPowerFailTrip chan s) := by
  unfold execPowerFailTrip
  refine nxt_keeps (ite_keeps P (fun _ => ?_) (fun _ => ?_))
  · assumption
  · refine beginFinal_keeps K (K.upd ?_)
    assumption

theorem execPowerGoodTimeout_keeps (K : Keeps P) {d : Dom} {s : State} (hs : P s) :
    Nxt P (execPowerGoodTimeout d s) := by
  unfold execPowerGoodTimeout
  refine nxt_keeps ?_
  split
  · assumption
  · refine ite_keeps P (fun _ => ?_) (fun _ => ?_)
    · extract_lets -merge +onlyGivenNames x1
      try clear_value x1
      refine raise_keeps K (setB_keeps K ?_)
      refine setB_keeps K (K.upd ?_)
      assumption
    · assumption

theorem showVolts_keeps (K : Keeps P) {j1Mv : Nat} {j2Mv : Nat} {storeMv : Nat} {vbatMv : Nat} {s : State} (hs : P s) :
    P (showVolts j1Mv j2Mv storeMv vbatMv s) := by
  unfold showVolts
  extract_lets -merge +onlyGivenNames x1
  try clear_value x1
  extract_lets -merge +onlyGivenNames x2
  have hx2 : P x2 := by
    exact K.upd ‹_›
  clear_value x2
  extract_lets -merge +onlyGivenNames x3
  have hx3 : P x3 := by
    refine ite_keeps P (fun _ => ?_) (fun _ => ?_)
    · exact setB_keeps K ‹_›
    · refine ite_keeps P (fun _ => ?_) (fun _ => ?_)
      · exact setB_keeps K ‹_›
      · assumption
  clear_value x3
  extract_lets -merge +onlyGivenNames x4
  have hx4 : P x4 := by
    exact setB_keeps K ‹_›
  clear_value x4
  extract_lets -merge +onlyGivenNames x5
  have hx5 : P x5 := by
    refine setB_keeps K (setB_keeps K ?_)
    assumption
  clear_value x5
  extract_lets -merge +onlyGivenNames x6
  have hx6 : P x6 := by
    exact setR_keeps K ‹_›
  clear_value x6
  refine ite_keeps P (fun _ => ?_) (fun _ => ?_)
  · refine ite_keeps P (fun _ => ?_) (fun _ => ?_)
    · assumption
    · exact j1Rises_keeps K ‹_›
  · refine ite_keeps P (fun _ => ?_) (fun _ => ?_)
    · exact K.upd ‹_›
    · refine ite_keeps P (fun _ => ?_) (fun _ => ?_)
      · exact j1Falls_keeps K ‹_›
      · assumption

theorem execPowerOn_keeps (K : Keeps P) {j1Mv : Nat} {j2Mv : Nat} {absent : Bool} {aonCold : Bool} {s : State} (hs : P s) :
    Nxt P (execPowerOn j1Mv j2Mv absent aonCold s) := by
  unfold execPowerOn
  refine nxt_keeps (ite_keeps P (fun _ => ?_) (fun _ => ?_))
  · extract_lets -merge +onlyGivenNames x1
    try clear_value x1
    extract_lets -merge +onlyGivenNames x2
    have hx2 : P x2 := by
      refine ite_keeps P (fun _ => ?_) (fun _ => ?_)
      · exact aonColdStart_keeps K ‹_›
      · assumption
    clear_value x2
    extract_lets -merge +onlyGivenNames x3
    have hx3 : P x3 := by
      refine ite_keeps P (fun _ => ?_) (fun _ => ?_)
      · exact setR_keeps K ‹_›
      · exact setF_keeps K ‹_›
    clear_value x3
    extract_lets -merge +onlyGivenNames x4
    try clear_value x4
    extract_lets -merge +onlyGivenNames x5
    try clear_value x5
    extract_lets -merge +onlyGivenNames x6
    have hx6 : P x6 := by
      refine newEpochAtStart_keeps K (clearPower_keeps K ?_)
      exact K.upd ‹_›
    clear_value x6
    extract_lets -merge +onlyGivenNames x7
    try clear_value x7
    extract_lets -merge +onlyGivenNames x8
    have hx8 : P x8 := by
      exact K.upd ‹_›
    clear_value x8
    exact showVolts_keeps K ‹_›
  · assumption

theorem execResetEffect_keeps (K : Keeps P) {s : State} (hs : P s) :
    Nxt P (execResetEffect s) := by
  unfold execResetEffect
  refine nxt_keeps ?_
  split
  · assumption
  · refine ite_keeps P (fun _ => ?_) (fun _ => ?_)
    · refine ite_keeps P (fun _ => ?_) (fun _ => ?_)
      · exact controllerEffect_keeps K ‹_›
      · exact moduleEffect_keeps K ‹_›
    · assumption

theorem execStartStateLive_keeps (K : Keeps P) {s : State} (hs : P s) :
    Nxt P (execStartStateLive s) := by
  unfold execStartStateLive
  refine nxt_keeps (ite_keeps P (fun _ => ?_) (fun _ => ?_))
  · refine pwrIssue_keeps K (K.upd ?_)
    assumption
  · assumption

theorem execStartup_keeps (K : Keeps P) {upto : Stage} {s : State} (hs : P s) :
    Nxt P (execStartup upto s) := by
  unfold execStartup
  refine nxt_keeps (ite_keeps P (fun _ => ?_) (fun _ => ?_))
  · assumption
  · split
    · exact runStages_keeps K _ ‹_›
    · exact runStages_keeps K _ ‹_›
    · exact runStages_keeps K _ ‹_›

theorem execSupplyMonitorUpdate_keeps (K : Keeps P) {j1Mv : Nat} {j2Mv : Nat} {storeMv : Nat} {vbatMv : Nat} {baseT : Int} {scap : Bool} {s : State} (hs : P s) :
    Nxt P (execSupplyMonitorUpdate j1Mv j2Mv storeMv vbatMv baseT scap s) := by
  unfold execSupplyMonitorUpdate
  refine nxt_keeps (showVolts_keeps K ?_)
  refine showTherm_keeps K (setB_keeps K ?_)
  exact setF_keeps K ‹_›

theorem execTripRideThrough_keeps (K : Keeps P) {s : State} (hs : P s) :
    Nxt P (execTripRideThrough s) := by
  unfold execTripRideThrough
  refine nxt_keeps (ite_keeps P (fun _ => ?_) (fun _ => ?_))
  · refine releaseHeld_keeps K (raise_keeps K ?_)
    refine setB_keeps K (K.upd ?_)
    assumption
  · assumption

theorem execWakeCommandIssue_keeps (K : Keeps P) {s : State} (hs : P s) :
    Nxt P (execWakeCommandIssue s) := by
  unfold execWakeCommandIssue
  refine nxt_keeps (wakeWaiting_keeps K ?_)
  assumption

theorem execWakeFire_keeps (K : Keeps P) {src : WakeSrc} {s : State} (hs : P s) :
    Nxt P (execWakeFire src s) := by
  unfold execWakeFire
  refine nxt_keeps (ite_keeps P (fun _ => ?_) (fun _ => ?_))
  · assumption
  · exact wakeSource_keeps K ‹_›

/-! Tst -/

theorem lockTst_keeps (K : Keeps P) {s : State} (hs : P s) :
    P (lockTst s) := by
  unfold lockTst
  extract_lets -merge +onlyGivenNames x1
  have hx1 : P x1 := by
    refine each_keeps K (fun _ _ _ => ?_) ?_
    · exact setF_keeps K ‹_›
    · assumption
  clear_value x1
  refine setB_keeps K (setF_keeps K ?_)
  exact K.upd ‹_›

theorem execTstLeaseExpire_keeps (K : Keeps P) {s : State} (hs : P s) :
    Nxt P (execTstLeaseExpire s) := by
  unfold execTstLeaseExpire
  refine nxt_keeps (ite_keeps P (fun _ => ?_) (fun _ => ?_))
  · exact lockTst_keeps K ‹_›
  · assumption

theorem tstCtlWrite_keeps (K : Keeps P) {v : Word} {s : State} (hs : P s) :
    P (tstCtlWrite v s) := by
  unfold tstCtlWrite
  extract_lets -merge +onlyGivenNames x1
  have hx1 : P x1 := by
    exact writeReg_keeps K ‹_›
  clear_value x1
  extract_lets -merge +onlyGivenNames x2
  have hx2 : P x2 := by
    exact setF_keeps K ‹_›
  clear_value x2
  refine ite_keeps P (fun _ => ?_) (fun _ => ?_)
  · exact lockTst_keeps K ‹_›
  · assumption

theorem execTstLeaseWrite_keeps (K : Keeps P) {v : Word} {s : State} (hs : P s) :
    Nxt P (execTstLeaseWrite v s) := by
  unfold execTstLeaseWrite
  refine nxt_keeps (ite_keeps P (fun _ => ?_) (fun _ => ?_))
  · exact tstCtlWrite_keeps K ‹_›
  · assumption

theorem execTstLock_keeps (K : Keeps P) {s : State} (hs : P s) :
    Nxt P (execTstLock s) := by
  unfold execTstLock
  refine nxt_keeps (ite_keeps P (fun _ => ?_) (fun _ => ?_))
  · exact lockTst_keeps K ‹_›
  · assumption

theorem execTstUnlock_keeps (K : Keeps P) {v : Word} {s : State} (hs : P s) :
    Nxt P (execTstUnlock v s) := by
  unfold execTstUnlock
  refine nxt_keeps (ite_keeps P (fun _ => ?_) (fun _ => ?_))
  · assumption
  · refine ite_keeps P (fun _ => ?_) (fun _ => ?_)
    · refine ite_keeps P (fun _ => ?_) (fun _ => ?_)
      · refine setB_keeps K (setF_keeps K ?_)
        exact K.upd ‹_›
      · exact K.upd ‹_›
    · exact K.upd ‹_›

theorem execTstUnlockTimeout_keeps (K : Keeps P) {s : State} (hs : P s) :
    Nxt P (execTstUnlockTimeout s) := by
  unfold execTstUnlockTimeout
  refine nxt_keeps (K.upd ?_)
  assumption

end Sys2Proof.Machine
end

