-- ==== Sys2Proof/Laws/Keeps6.lean ====
section
/-! SUPPORT. What every operation of the model keeps, continued: the operations of Twn, RegView, Rfx, Tsu, HostWrite, Port. -/

namespace Sys2Proof.Machine

variable {P : State → Prop}

/-! Twn -/

theorem armedDue_keeps (K : Keeps P) {e : Nat} {before : List SplitIn} {s : State} (hs : P s) :
    P (armedDue e before s) := by
  unfold armedDue
  split
  · assumption
  · extract_lets -merge +onlyGivenNames x1
    try clear_value x1
    extract_lets -merge +onlyGivenNames x2
    have hx2 : P x2 := by
      exact K.upd ‹_›
    clear_value x2
    split
    · refine raise_keeps K (each_keeps K (fun _ _ _ => ?_) ?_)
      · exact levelRec_keeps K ‹_›
      · assumption
    · refine raise_keeps K (takeSnapshot_keeps K ?_)
      assumption
    · assumption

theorem shadowEqual_keeps (K : Keeps P) {t : Twin} {s : State} (hs : P s) :
    P (shadowEqual t s) := by
  unfold shadowEqual
  refine ite_keeps P (fun _ => ?_) (fun _ => ?_)
  · refine rewriteReport_keeps K (setTwin_keeps K ?_)
    exact K.upd ‹_›
  · exact K.upd ‹_›

theorem mitrePass_keeps (K : Keeps P) {x : MitreItem} {edges : List (Nat × Bool)} {s : State} (hs : P s) :
    P (mitrePass x edges s) := by
  unfold mitrePass
  split
  · exact presence_keeps K ‹_›
  · refine passWord_keeps K (presence_keeps K ?_)
    assumption

theorem settleRoutes_keeps (K : Keeps P) {s : State} (hs : P s) :
    P (settleRoutes s) := by
  unfold settleRoutes
  refine ite_keeps P (fun _ => ?_) (fun _ => ?_)
  · assumption
  · extract_lets -merge +onlyGivenNames x1
    try clear_value x1
    extract_lets -merge +onlyGivenNames x2
    have hx2 : P x2 := by
      refine each_keeps K (fun _ _ _ => ?_) ?_
      · refine ite_keeps P (fun _ => ?_) (fun _ => ?_)
        · exact mitrePass_keeps K ‹_›
        · assumption
      · exact K.upd ‹_›
    clear_value x2
    extract_lets -merge +onlyGivenNames x3
    have hx3 : P x3 := by
      refine each_keeps K (fun _ _ _ => ?_) ?_
      · refine each_keeps K (fun _ _ _ => ?_) ?_
        · exact queueRx_keeps K ‹_›
        · exact setHostCopies_keeps K ‹_›
      · assumption
    clear_value x3
    extract_lets -merge +onlyGivenNames x4
    have hx4 : P x4 := by
      refine each_keeps K (fun _ _ _ => ?_) ?_
      · refine each_keeps K (fun _ _ _ => ?_) ?_
        · exact queueRadio_keeps K ‹_›
        · exact setRadio_keeps K ‹_›
      · assumption
    clear_value x4
    exact mergeSwitch_keeps K ‹_›

theorem declare_keeps (K : Keeps P) {t : Twin} {cause : Nat} {s : State} (hs : P s) :
    P (declare t cause s) := by
  unfold declare
  refine ite_keeps P (fun _ => ?_) (fun _ => ?_)
  · assumption
  · extract_lets -merge +onlyGivenNames x1
    have hx1 : P x1 := by
      refine settleRoutes_keeps K (declareFailed_keeps K ?_)
      assumption
    clear_value x1
    refine ite_keeps P (fun _ => ?_) (fun _ => ?_)
    · exact trialFail_keeps K ‹_›
    · assumption

theorem takeDigest_keeps (K : Keeps P) {t : Twin} {step : BitVec 64} {digest : BitVec 64} {s : State} (hs : P s) :
    P (takeDigest t step digest s) := by
  unfold takeDigest
  refine ite_keeps P (fun _ => ?_) (fun _ => ?_)
  · assumption
  · refine ite_keeps P (fun _ => ?_) (fun _ => ?_)
    · exact K.upd ‹_›
    · split
      · exact K.upd ‹_›
      · extract_lets -merge +onlyGivenNames x1
        try clear_value x1
        extract_lets -merge +onlyGivenNames x2
        have hx2 : P x2 := by
          exact K.upd ‹_›
        clear_value x2
        split
        · refine ite_keeps P (fun _ => ?_) (fun _ => ?_)
          · exact shadowEqual_keeps K ‹_›
          · exact declare_keeps K ‹_›
        · refine ite_keeps P (fun _ => ?_) (fun _ => ?_)
          · assumption
          · refine settleRoutes_keeps K (stepMismatch_keeps K ?_)
            assumption

theorem setCopies_keeps (K : Keeps P) {w : MitreWait} {q : List (Copy MitreItem)} {s : State} (hs : P s) :
    P (setCopies w q s) := by
  unfold setCopies
  exact K.upd ‹_›

theorem mitreDisagrees_keeps (K : Keeps P) {s : State} (hs : P s) :
    P (mitreDisagrees s) := by
  unfold mitreDisagrees
  refine raise_keeps K (bump_keeps K ?_)
  exact K.upd ‹_›

theorem mitreCopy_keeps (K : Keeps P) {t : Twin} {x : MitreCopy} {edges : List (Nat × Bool)} {s : State} (hs : P s) :
    P (mitreCopy t x edges s) := by
  unfold mitreCopy
  extract_lets -merge +onlyGivenNames x1
  have hx1 : Snd P x1 := by
    exact copyFlipped_keeps K ‹_›
  clear_value x1
  extract_lets -merge +onlyGivenNames x2
  have hx2 : P x2 := by
    exact of_snd ‹_›
  clear_value x2
  extract_lets -merge +onlyGivenNames x3
  try clear_value x3
  extract_lets -merge +onlyGivenNames x4
  try clear_value x4
  extract_lets -merge +onlyGivenNames x5
  have hx5 : P x5 := by
    exact setCopies_keeps K ‹_›
  clear_value x5
  extract_lets -merge +onlyGivenNames x6
  have hx6 : P x6 := by
    unfold x6
    split
    · exact presence_keeps K ‹_›
    · refine each_keeps K (fun _ _ _ => ?_) ?_
      · exact mitrePass_keeps K ‹_›
      · exact mitrePass_keeps K ‹_›
  clear_value x6
  refine ite_keeps P (fun _ => ?_) (fun _ => ?_)
  · refine routeDiff_keeps K (ite_keeps P (fun _ => ?_) (fun _ => ?_))
    · exact mitreDisagrees_keeps K ‹_›
    · assumption
  · assumption

theorem arriveLate_keeps (K : Keeps P) {x : LateCopy} {s : State} (hs : P s) :
    P (arriveLate x s) := by
  unfold arriveLate
  split
  · exact takeDigest_keeps K ‹_›
  · refine ite_keeps P (fun _ => ?_) (fun _ => ?_)
    · exact mitreCopy_keeps K ‹_›
    · assumption
  · refine ite_keeps P (fun _ => ?_) (fun _ => ?_)
    · exact takeBlock_keeps K ‹_›
    · assumption
  · refine ite_keeps P (fun _ => ?_) (fun _ => ?_)
    · exact hostCopy_keeps K ‹_›
    · assumption
  · refine ite_keeps P (fun _ => ?_) (fun _ => ?_)
    · assumption
    · exact radioCopy_keeps K ‹_›

theorem corrected_keeps (K : Keeps P) {t : Twin} {addr : Nat} {s : State} (hs : P s) :
    P (corrected t addr s) := by
  unfold corrected
  extract_lets -merge +onlyGivenNames x1
  try clear_value x1
  extract_lets -merge +onlyGivenNames x2
  have hx2 : P x2 := by
    refine bump_keeps K (ite_keeps P (fun _ => ?_) (fun _ => ?_))
    · exact strike_keeps K ‹_›
    · assumption
  clear_value x2
  split
  · exact K.upd ‹_›
  · exact K.upd ‹_›

theorem deferFrames_keeps (K : Keeps P) {late : List SplitIn} {s : State} (hs : P s) :
    P (deferFrames late s) := by
  unfold deferFrames
  extract_lets -merge +onlyGivenNames x1
  try clear_value x1
  extract_lets -merge +onlyGivenNames x2
  try clear_value x2
  extract_lets -merge +onlyGivenNames x3
  try clear_value x3
  refine bumpBy_keeps K (bumpBy_keeps K ?_)
  exact K.upd ‹_›

theorem execBorerFinding_keeps (K : Keeps P) {f : BorerFind} {s : State} (hs : P s) :
    Nxt P (execBorerFinding f s) := by
  unfold execBorerFinding
  refine nxt_keeps (ite_keeps P (fun _ => ?_) (fun _ => ?_))
  · assumption
  · split
    · refine corrected_keeps K ?_
      split
      · exact K.upd ‹_›
      · exact K.upd ‹_›
    · refine corrected_keeps K ?_
      split
      · exact K.upd ‹_›
      · exact K.upd ‹_›
    · refine bump_keeps K (K.upd ?_)
      assumption
    · exact K.upd ‹_›
    · exact K.upd ‹_›
    · refine ite_keeps P (fun _ => ?_) (fun _ => ?_)
      · assumption
      · refine declare_keeps K (raise_keeps K ?_)
        exact bump_keeps K ‹_›
    · refine raise_keeps K (bump_keeps K ?_)
      exact K.upd ‹_›

theorem twnAnswer_keeps (K : Keeps P) {c : Code} {s : State} (hs : P s) :
    P (twnAnswer c s) := by
  unfold twnAnswer
  exact setF_keeps K ‹_›

theorem execClearHist_keeps (K : Keeps P) {s : State} (hs : P s) :
    Nxt P (execClearHist s) := by
  unfold execClearHist
  refine nxt_keeps (ite_keeps P (fun _ => ?_) (fun _ => ?_))
  · refine twnAnswer_keeps K (K.upd ?_)
    assumption
  · assumption

theorem execDigestLate_keeps (K : Keeps P) {t : Twin} {second : Bool} {s : State} (hs : P s) :
    Nxt P (execDigestLate t second s) := by
  unfold execDigestLate
  refine nxt_keeps (ite_keeps P (fun _ => ?_) (fun _ => ?_))
  · assumption
  · refine ite_keeps P (fun _ => ?_) (fun _ => ?_)
    · exact declare_keeps K ‹_›
    · refine ite_keeps P (fun _ => ?_) (fun _ => ?_)
      · refine ite_keeps P (fun _ => ?_) (fun _ => ?_)
        · exact declare_keeps K ‹_›
        · refine strike_keeps K (bump_keeps K ?_)
          assumption
      · assumption

theorem execForceFail_keeps (K : Keeps P) {t : Twin} {s : State} (hs : P s) :
    Nxt P (execForceFail t s) := by
  unfold execForceFail
  refine nxt_keeps (ite_keeps P (fun _ => ?_) (fun _ => ?_))
  · assumption
  · refine ite_keeps P (fun _ => ?_) (fun _ => ?_)
    · refine declare_keeps K (twnAnswer_keeps K ?_)
      assumption
    · exact twnAnswer_keeps K ‹_›

theorem latchHealth_keeps (K : Keeps P) {s : State} (hs : P s) :
    P (latchHealth s) := by
  unfold latchHealth
  exact K.upd ‹_›

theorem execHealthRead_keeps (K : Keeps P) {route : Route} {s : State} (hs : P s) :
    Nxt P (execHealthRead route s) := by
  unfold execHealthRead
  refine nxt_keeps (readBy_keeps K (fun _ _ => ?_) ?_)
  · refine ite_keeps P (fun _ => ?_) (fun _ => ?_)
    · exact latchHealth_keeps K ‹_›
    · exact K.upd ‹_›
  · assumption

theorem execMitreSoloDeadline_keeps (K : Keeps P) {key : MitreWait} {s : State} (hs : P s) :
    Nxt P (execMitreSoloDeadline key s) := by
  unfold execMitreSoloDeadline
  refine nxt_keeps ?_
  split
  · assumption
  · extract_lets -merge +onlyGivenNames x1
    have hx1 : P x1 := by
      exact setCopies_keeps K ‹_›
    clear_value x1
    refine ite_keeps P (fun _ => ?_) (fun _ => ?_)
    · refine passSolo_keeps K (fun _ _ _ => ?_) (fun _ _ => ?_) ?_
      · exact mitrePass_keeps K ‹_›
      · exact bump_keeps K ‹_›
      · assumption
    · assumption

theorem execMitreTwinReference_keeps (K : Keeps P) {t : Twin} {item : MitreCopy} {edges : List (Fin 32 × Bool)} {s : State} (hs : P s) :
    Nxt P (execMitreTwinReference t item edges s) := by
  unfold execMitreTwinReference
  extract_lets -merge +onlyGivenNames x1
  try clear_value x1
  extract_lets -merge +onlyGivenNames x2
  have hx2 : P x2 := by
    exact edgeReports_keeps K ‹_›
  clear_value x2
  refine nxt_keeps (ite_keeps P (fun _ => ?_) (fun _ => ?_))
  · extract_lets -merge +onlyGivenNames x3
    have hx3 : Snd P x3 := by
      exact holdCopy_keeps K ‹_›
    clear_value x3
    refine ite_keeps P (fun _ => ?_) (fun _ => ?_)
    · refine presence_keeps K (of_snd ?_)
      assumption
    · refine mitreCopy_keeps K (of_snd ?_)
      assumption
  · exact presence_keeps K ‹_›

theorem execProofEnd_keeps (K : Keeps P) {s : State} (hs : P s) :
    Nxt P (execProofEnd s) := by
  unfold execProofEnd
  refine nxt_keeps (ite_keeps P (fun _ => ?_) (fun _ => ?_))
  · exact declare_keeps K ‹_›
  · assumption

theorem execRejoin_keeps (K : Keeps P) {t : Twin} {s : State} (hs : P s) :
    Nxt P (execRejoin t s) := by
  unfold execRejoin
  refine nxt_keeps (ite_keeps P (fun _ => ?_) (fun _ => ?_))
  · assumption
  · refine ite_keeps P (fun _ => ?_) (fun _ => ?_)
    · extract_lets -merge +onlyGivenNames x1
      have hx1 : P x1 := by
        refine rewriteReport_keeps K (setTwin_keeps K ?_)
        exact twnAnswer_keeps K ‹_›
      clear_value x1
      extract_lets -merge +onlyGivenNames x2
      try clear_value x2
      refine ite_keeps P (fun _ => ?_) (fun _ => ?_)
      · assumption
      · refine declare_keeps K (fwRecord_keeps K ?_)
        assumption
    · exact twnAnswer_keeps K ‹_›

theorem execRejoinConverge_keeps (K : Keeps P) {s : State} (hs : P s) :
    Nxt P (execRejoinConverge s) := by
  unfold execRejoinConverge
  extract_lets -merge +onlyGivenNames x1
  have hx1 : ∀ a0 a1, P a1 → P (x1 a0 a1) := by
    intro a0 a1 _
    refine rewriteReport_keeps K (setTwin_keeps K ?_)
    exact K.upd ‹_›
  clear_value x1
  refine nxt_keeps (ite_keeps P (fun _ => ?_) (fun _ => ?_))
  · refine hx1 _ _ ?_
    · assumption
  · refine ite_keeps P (fun _ => ?_) (fun _ => ?_)
    · refine hx1 _ _ ?_
      · assumption
    · assumption

theorem nextStep_keeps (K : Keeps P) {now : Nat} {s : State} (hs : P s) :
    P (nextStep now s) := by
  unfold nextStep
  extract_lets -merge +onlyGivenNames x1
  try clear_value x1
  extract_lets -merge +onlyGivenNames x2
  try clear_value x2
  extract_lets -merge +onlyGivenNames x3
  have hx3 : P x3 := by
    refine ite_keeps P (fun _ => ?_) (fun _ => ?_)
    · refine bump_keeps K (K.upd ?_)
      assumption
    · exact K.upd ‹_›
  clear_value x3
  extract_lets -merge +onlyGivenNames x4
  try clear_value x4
  exact setB_keeps K ‹_›

theorem restoreSource_keeps (K : Keeps P) {s : State} (hs : P s) :
    P (restoreSource s) := by
  unfold restoreSource
  refine ite_keeps P (fun _ => ?_) (fun _ => ?_)
  · exact K.upd ‹_›
  · assumption

theorem takeInput_keeps (K : Keeps P) {x : SplitIn} {s : State} (hs : P s) :
    P (takeInput x s) := by
  unfold takeInput
  split
  · exact ulustWrite_keeps K ‹_›
  · extract_lets -merge +onlyGivenNames x1
    try clear_value x1
    refine twinRequest_keeps K (drawn_keeps K ?_)
    refine each_keeps K (fun _ _ _ => ?_) ?_
    · exact recTarget_keeps K ‹_›
    · assumption
  · exact twinWord_keeps K ‹_›
  · exact coreTake_keeps K ‹_›
  · exact takeKey_keeps K ‹_›
  · refine ite_keeps P (fun _ => ?_) (fun _ => ?_)
    · split
      · exact hierReplay_keeps K ‹_›
      · assumption
    · refine ite_keeps P (fun _ => ?_) (fun _ => ?_)
      · assumption
      · exact emit_keeps K ‹_›
  · extract_lets -merge +onlyGivenNames x2
    have hx2 : P x2 := by
      exact recInput_keeps K ‹_›
    clear_value x2
    refine ite_keeps P (fun _ => ?_) (fun _ => ?_)
    · exact joinResp_keeps K ‹_›
    · assumption
  · exact recInput_keeps K ‹_›

theorem firmwareStep_keeps (K : Keeps P) {s : State} (hs : P s) :
    P (firmwareStep s) := by
  unfold firmwareStep
  extract_lets -merge +onlyGivenNames x1
  have hx1 : P x1 := by
    refine giveCredits_keeps K (each_keeps K (fun _ _ _ => ?_) ?_)
    · exact recUpdate_keeps K ‹_›
    · exact filterDue_keeps K ‹_›
  clear_value x1
  extract_lets -merge +onlyGivenNames x2
  have hx2 : P x2 := by
    exact judgeCredit_keeps K ‹_›
  clear_value x2
  extract_lets -merge +onlyGivenNames x3
  have hx3 : P x3 := by
    refine ite_keeps P (fun _ => ?_) (fun _ => ?_)
    · exact bump_keeps K ‹_›
    · assumption
  clear_value x3
  extract_lets -merge +onlyGivenNames x4
  have hx4 : P x4 := by
    exact upDrain_keeps K _ ‹_›
  clear_value x4
  extract_lets -merge +onlyGivenNames x5
  have hx5 : P x5 := by
    refine retryStuck_keeps K (pumpOwn_keeps K _ ?_)
    assumption
  clear_value x5
  split
  · exact pumpPacks_keeps K _ ‹_›
  · exact pumpPacks_keeps K _ ‹_›

theorem presentStep_keeps (K : Keeps P) {s : State} (hs : P s) :
    P (presentStep s) := by
  unfold presentStep
  extract_lets -merge +onlyGivenNames x1
  try clear_value x1
  extract_lets -merge +onlyGivenNames x2
  try clear_value x2
  extract_lets -merge +onlyGivenNames x3
  try clear_value x3
  extract_lets -merge +onlyGivenNames x4
  try clear_value x4
  extract_lets -merge +onlyGivenNames x5
  try clear_value x5
  extract_lets -merge +onlyGivenNames x6
  have hx6 : P x6 := by
    exact sendOwed_keeps K ‹_›
  clear_value x6
  extract_lets -merge +onlyGivenNames x7
  try clear_value x7
  extract_lets -merge +onlyGivenNames x8
  try clear_value x8
  extract_lets -merge +onlyGivenNames x9
  try clear_value x9
  extract_lets -merge +onlyGivenNames x10
  have hx10 : P x10 := by
    refine deferFrames_keeps K (K.upd ?_)
    assumption
  clear_value x10
  extract_lets -merge +onlyGivenNames x11
  have hx11 : P x11 := by
    refine each_keeps K (fun _ _ _ => ?_) ?_
    · exact hierReplay_keeps K ‹_›
    · refine each_keeps K (fun _ _ _ => ?_) ?_
      · exact takeInput_keeps K ‹_›
      · assumption
  clear_value x11
  extract_lets -merge +onlyGivenNames x12
  have hx12 : P x12 := by
    refine each_keeps K (fun _ _ _ => ?_) ?_
    · exact armedDue_keeps K ‹_›
    · assumption
  clear_value x12
  extract_lets -merge +onlyGivenNames x13
  have hx13 : P x13 := by
    refine each_keeps K (fun _ _ _ => ?_) ?_
    · exact takeInput_keeps K ‹_›
    · refine each_keeps K (fun _ _ _ => ?_) ?_
      · exact takeInput_keeps K ‹_›
      · assumption
  clear_value x13
  extract_lets -merge +onlyGivenNames x14
  have hx14 : P x14 := by
    refine each_keeps K (fun _ _ _ => ?_) ?_
    · exact takeInput_keeps K ‹_›
    · refine each_keeps K (fun _ _ _ => ?_) ?_
      · exact takeInput_keeps K ‹_›
      · assumption
  clear_value x14
  refine each_keeps K (fun _ _ _ => ?_) ?_
  · exact standWrite_keeps K ‹_›
  · exact firmwareStep_keeps K ‹_›

theorem lateStep_keeps (K : Keeps P) {s : State} (hs : P s) :
    P (lateStep s) := by
  unfold lateStep
  extract_lets -merge +onlyGivenNames x1
  have hx1 : P x1 := by
    refine each_keeps K (fun _ _ _ => ?_) ?_
    · exact ringLate_keeps K ‹_›
    · assumption
  clear_value x1
  extract_lets -merge +onlyGivenNames x2
  try clear_value x2
  refine each_keeps K (fun _ _ _ => ?_) ?_
  · exact arriveLate_keeps K ‹_›
  · exact K.upd ‹_›

theorem execSplitterStep_keeps (K : Keeps P) {interp : Fin 763} {cycles : Nat} {s : State} (hs : P s) :
    Nxt P (execSplitterStep interp cycles s) := by
  unfold execSplitterStep
  extract_lets -merge +onlyGivenNames x1
  have hx1 : P x1 := by
    exact tsuAdvance_keeps K ‹_›
  clear_value x1
  refine nxt_keeps (ite_keeps P (fun _ => ?_) (fun _ => ?_))
  · assumption
  · extract_lets -merge +onlyGivenNames x2
    try clear_value x2
    extract_lets -merge +onlyGivenNames x3
    have hx3 : P x3 := by
      exact nextStep_keeps K ‹_›
    clear_value x3
    extract_lets -merge +onlyGivenNames x4
    try clear_value x4
    extract_lets -merge +onlyGivenNames x5
    have hx5 : P x5 := by
      exact K.upd ‹_›
    clear_value x5
    extract_lets -merge +onlyGivenNames x6
    try clear_value x6
    extract_lets -merge +onlyGivenNames x7
    have hx7 : P x7 := by
      refine restoreSource_keeps K (settleRoutes_keeps K ?_)
      refine each_keeps K (fun _ _ _ => ?_) ?_
      · exact declare_keeps K ‹_›
      · assumption
    clear_value x7
    extract_lets -merge +onlyGivenNames x8
    try clear_value x8
    extract_lets -merge +onlyGivenNames x9
    try clear_value x9
    extract_lets -merge +onlyGivenNames x10
    have hx10 : P x10 := by
      refine ite_keeps P (fun _ => ?_) (fun _ => ?_)
      · refine ite_keeps P (fun _ => ?_) (fun _ => ?_)
        · exact K.upd ‹_›
        · refine ite_keeps P (fun _ => ?_) (fun _ => ?_)
          · refine presentStep_keeps K (settingsStep_keeps K ?_)
            assumption
          · exact K.upd ‹_›
      · assumption
    clear_value x10
    refine lateStep_keeps K (K.upd ?_)
    assumption

theorem execStepDigest_keeps (K : Keeps P) {t : Twin} {step : BitVec 64} {digest : StepOut} {s : State} (hs : P s) :
    Nxt P (execStepDigest t step digest s) := by
  unfold execStepDigest
  refine nxt_keeps (ite_keeps P (fun _ => ?_) (fun _ => ?_))
  · assumption
  · extract_lets -merge +onlyGivenNames x1
    have hx1 : Snd P x1 := by
      exact tstApply_keeps K ‹_›
    clear_value x1
    extract_lets -merge +onlyGivenNames x2
    try clear_value x2
    refine ite_keeps P (fun _ => ?_) (fun _ => ?_)
    · refine takeDigest_keeps K (of_snd ?_)
      assumption
    · extract_lets -merge +onlyGivenNames x3
      have hx3 : P x3 := by
        exact of_snd ‹_›
      clear_value x3
      exact K.upd ‹_›

theorem execTwinFault_keeps (K : Keeps P) {t : Twin} {kind : TwinFaultKind} {s : State} (hs : P s) :
    Nxt P (execTwinFault t kind s) := by
  unfold execTwinFault
  refine nxt_keeps ?_
  split
  · refine ite_keeps P (fun _ => ?_) (fun _ => ?_)
    · exact declare_keeps K ‹_›
    · assumption
  · refine ite_keeps P (fun _ => ?_) (fun _ => ?_)
    · exact declare_keeps K ‹_›
    · assumption

theorem latchStep_keeps (K : Keeps P) {s : State} (hs : P s) :
    P (latchStep s) := by
  unfold latchStep
  exact K.upd ‹_›

theorem execTwnStepRead_keeps (K : Keeps P) {route : Route} {s : State} (hs : P s) :
    Nxt P (execTwnStepRead route s) := by
  unfold execTwnStepRead
  refine nxt_keeps (readBy_keeps K (fun _ _ => ?_) ?_)
  · refine ite_keeps P (fun _ => ?_) (fun _ => ?_)
    · exact latchStep_keeps K ‹_›
    · exact K.upd ‹_›
  · assumption

/-! RegView -/

theorem answer_keeps (K : Keeps P) {v : Word} {s : State} (hs : P s) :
    P (answer v s) := by
  unfold answer
  exact K.upd ‹_›

theorem blurRead_keeps (K : Keeps P) {off : Nat} {s : State} (hs : P s) :
    P (blurRead off s) := by
  unfold blurRead
  extract_lets -merge +onlyGivenNames x1
  try clear_value x1
  refine ite_keeps P (fun _ => ?_) (fun _ => ?_)
  · assumption
  · refine drawn_keeps K (K.upd ?_)
    assumption

theorem clearRc_keeps (K : Keeps P) {off : Nat} {s : State} (hs : P s) :
    P (clearRc off s) := by
  unfold clearRc
  extract_lets -merge +onlyGivenNames x1
  try clear_value x1
  refine ite_keeps P (fun _ => ?_) (fun _ => ?_)
  · assumption
  · exact setR_keeps K ‹_›

theorem readFree_keeps (K : Keeps P) {words : Nat} {s : State} (hs : P s) :
    P (readFree words s) := by
  unfold readFree
  exact K.upd ‹_›

theorem readPlain_keeps (K : Keeps P) {off : Nat} {s : State} (hs : P s) :
    P (readPlain off s) := by
  unfold readPlain
  extract_lets -merge +onlyGivenNames x1
  try clear_value x1
  extract_lets -merge +onlyGivenNames x2
  try clear_value x2
  extract_lets -merge +onlyGivenNames x3
  have hx3 : P x3 := by
    refine ite_keeps P (fun _ => ?_) (fun _ => ?_)
    · refine ite_keeps P (fun _ => ?_) (fun _ => ?_)
      · refine drawn_keeps K (drawn_keeps K ?_)
        assumption
      · exact workDrawn_keeps K ‹_›
    · assumption
  clear_value x3
  refine blurRead_keeps K (answer_keeps K ?_)
  assumption

theorem wakesFabric_keeps (K : Keeps P) {off : Nat} {s : State} (hs : P s) :
    P (wakesFabric off s) := by
  unfold wakesFabric
  refine ite_keeps P (fun _ => ?_) (fun _ => ?_)
  · exact setB_keeps K ‹_›
  · assumption

theorem readReg_keeps (K : Keeps P) {off : Nat} {s : State} (hs : P s) :
    P (readReg off s) := by
  unfold readReg
  refine ite_keeps P (fun _ => ?_) (fun _ => ?_)
  · refine blurRead_keeps K (takeClaim_keeps K ?_)
    assumption
  · refine ite_keeps P (fun _ => ?_) (fun _ => ?_)
    · refine blurRead_keeps K (takeClaim_keeps K ?_)
      assumption
    · refine ite_keeps P (fun _ => ?_) (fun _ => ?_)
      · refine blurRead_keeps K (shadowRead_keeps K ?_)
        assumption
      · refine ite_keeps P (fun _ => ?_) (fun _ => ?_)
        · refine blurRead_keeps K (latchTotals_keeps K ?_)
          assumption
        · refine ite_keeps P (fun _ => ?_) (fun _ => ?_)
          · refine blurRead_keeps K (latchAsn_keeps K ?_)
            assumption
          · refine ite_keeps P (fun _ => ?_) (fun _ => ?_)
            · refine blurRead_keeps K (latchStep_keeps K ?_)
              assumption
            · refine ite_keeps P (fun _ => ?_) (fun _ => ?_)
              · refine blurRead_keeps K (latchHealth_keeps K ?_)
                assumption
              · refine clearRc_keeps K (readPlain_keeps K ?_)
                exact wakesFabric_keeps K ‹_›

theorem hostRead_keeps (K : Keeps P) {off : Nat} {s : State} (hs : P s) :
    P (hostRead off s) := by
  unfold hostRead
  refine ite_keeps P (fun _ => ?_) (fun _ => ?_)
  · exact readFree_keeps K ‹_›
  · split
    · refine ite_keeps P (fun _ => ?_) (fun _ => ?_)
      · exact readReg_keeps K ‹_›
      · exact answer_keeps K ‹_›
    · exact answer_keeps K ‹_›

/-! Rfx -/

theorem strobeTimer_keeps (K : Keeps P) {t : Nat} {s : State} (hs : P s) :
    P (strobeTimer t s) := by
  unfold strobeTimer
  refine ite_keeps P (fun _ => ?_) (fun _ => ?_)
  · extract_lets -merge +onlyGivenNames x1
    have hx1 : P x1 := by
      exact setR_keeps K ‹_›
    clear_value x1
    refine ite_keeps P (fun _ => ?_) (fun _ => ?_)
    · exact K.upd ‹_›
    · assumption
  · assumption

theorem strobeMean_keeps (K : Keeps P) {sums : List Nat} {j : Nat} {s : State} (hs : P s) :
    P (strobeMean sums j s) := by
  unfold strobeMean
  refine ite_keeps P (fun _ => ?_) (fun _ => ?_)
  · extract_lets -merge +onlyGivenNames x1
    try clear_value x1
    exact setR_keeps K ‹_›
  · exact setR_keeps K ‹_›

theorem execAinStrobe_keeps (K : Keeps P) {sums : List Nat} {s : State} (hs : P s) :
    Nxt P (execAinStrobe sums s) := by
  unfold execAinStrobe
  refine nxt_keeps (ite_keeps P (fun _ => ?_) (fun _ => ?_))
  · extract_lets -merge +onlyGivenNames x1
    have hx1 : P x1 := by
      refine each_keeps K (fun _ _ _ => ?_) ?_
      · exact strobeTimer_keeps K ‹_›
      · refine each_keeps K (fun _ _ _ => ?_) ?_
        · exact strobeMean_keeps K ‹_›
        · assumption
    clear_value x1
    extract_lets -merge +onlyGivenNames x2
    have hx2 : P x2 := by
      exact capture_keeps K ‹_›
    clear_value x2
    extract_lets -merge +onlyGivenNames x3
    try clear_value x3
    extract_lets -merge +onlyGivenNames x4
    try clear_value x4
    extract_lets -merge +onlyGivenNames x5
    have hx5 : P x5 := by
      exact fabEvents_keeps K ‹_›
    clear_value x5
    refine ite_keeps P (fun _ => ?_) (fun _ => ?_)
    · exact raise_keeps K ‹_›
    · assumption
  · assumption

theorem execFabricClockStop_keeps (K : Keeps P) {s : State} (hs : P s) :
    Nxt P (execFabricClockStop s) := by
  unfold execFabricClockStop
  refine nxt_keeps (ite_keeps P (fun _ => ?_) (fun _ => ?_))
  · exact setB_keeps K ‹_›
  · assumption

theorem execFabricTimerExpire_keeps (K : Keeps P) {timers : List (Fin 64)} {s : State} (hs : P s) :
    Nxt P (execFabricTimerExpire timers s) := by
  unfold execFabricTimerExpire
  extract_lets -merge +onlyGivenNames x1
  try clear_value x1
  refine nxt_keeps (ite_keeps P (fun _ => ?_) (fun _ => ?_))
  · assumption
  · extract_lets -merge +onlyGivenNames x2
    have hx2 : P x2 := by
      refine each_keeps K (fun _ _ _ => ?_) ?_
      · exact setR_keeps K ‹_›
      · assumption
    clear_value x2
    extract_lets -merge +onlyGivenNames x3
    try clear_value x3
    extract_lets -merge +onlyGivenNames x4
    have hx4 : P x4 := by
      exact K.upd ‹_›
    clear_value x4
    exact fabEvents_keeps K ‹_›

theorem execPresenceEdge_keeps (K : Keeps P) {edges : List (Fin 32 × Bool)} {s : State} (hs : P s) :
    Nxt P (execPresenceEdge edges s) := by
  unfold execPresenceEdge
  extract_lets -merge +onlyGivenNames x1
  try clear_value x1
  refine nxt_keeps (presence_keeps K ?_)
  exact edgeReports_keeps K ‹_›

theorem execRfxLockClr_keeps (K : Keeps P) {hi : Bool} {v : Word} {s : State} (hs : P s) :
    Nxt P (execRfxLockClr hi v s) := by
  unfold execRfxLockClr
  refine nxt_keeps (ite_keeps P (fun _ => ?_) (fun _ => ?_))
  · refine each_keeps K (fun _ _ _ => ?_) ?_
    · exact clearLock_keeps K ‹_›
    · exact setB_keeps K ‹_›
  · assumption

theorem execRfxModeWrite_keeps (K : Keeps P) {v : Word} {s : State} (hs : P s) :
    Nxt P (execRfxModeWrite v s) := by
  unfold execRfxModeWrite
  refine nxt_keeps (ite_keeps P (fun _ => ?_) (fun _ => ?_))
  · extract_lets -merge +onlyGivenNames x1
    try clear_value x1
    extract_lets -merge +onlyGivenNames x2
    try clear_value x2
    refine fabEvents_keeps K (writeReg_keeps K ?_)
    exact setB_keeps K ‹_›
  · assumption

/-! Tsu -/

theorem commitAnchor_keeps (K : Keeps P) {v : Word} {s : State} (hs : P s) :
    P (commitAnchor v s) := by
  unfold commitAnchor
  extract_lets -merge +onlyGivenNames x1
  have hx1 : P x1 := by
    exact setF_keeps K ‹_›
  clear_value x1
  refine setB_keeps K (K.upd ?_)
  assumption

theorem execAnchorExpire_keeps (K : Keeps P) {cycles : Nat} {s : State} (hs : P s) :
    Nxt P (execAnchorExpire cycles s) := by
  unfold execAnchorExpire
  refine nxt_keeps (tsuAdvance_keeps K ?_)
  assumption

theorem execLaunch_keeps (K : Keeps P) {p : Fin 4} {queue : BitVec 3} {cycles : Nat} {held : Bool} {s : State} (hs : P s) :
    Nxt P (execLaunch p queue cycles held s) := by
  unfold execLaunch
  extract_lets -merge +onlyGivenNames x1
  have hx1 : P x1 := by
    exact tsuAdvance_keeps K ‹_›
  clear_value x1
  refine nxt_keeps ?_
  split
  · split
    · refine ite_keeps P (fun _ => ?_) (fun _ => ?_)
      · extract_lets -merge +onlyGivenNames x2
        have hx2 : P x2 := by
          refine bump_keeps K (startTx_keeps K ?_)
          assumption
        clear_value x2
        refine ite_keeps P (fun _ => ?_) (fun _ => ?_)
        · refine raise_keeps K (bump_keeps K ?_)
          assumption
        · assumption
      · assumption
    · assumption
  · assumption

theorem tsuWord_keeps (K : Keeps P) {c : Copies} {f : State → State} {s : State} (hf : ∀ a0, P a0 → P (f a0)) (hs : P s) :
    P (tsuWord c f s) := by
  unfold tsuWord
  refine byPort_keeps K (fun _ _ => ?_) ?_
  · refine hf _ ?_
    · assumption
  · refine ite_keeps P (fun _ => ?_) (fun _ => ?_)
    · split
      · assumption
      · exact bump_keeps K ‹_›
      · exact bump_keeps K ‹_›
    · assumption

theorem withAnchor_keeps (K : Keeps P) {fw : Option FwAnchor} {s : State} (hs : P s) :
    P (withAnchor fw s) := by
  unfold withAnchor
  split
  · refine setR_keeps K (setR_keeps K ?_)
    refine setR_keeps K (setR_keeps K ?_)
    assumption
  · assumption

theorem execTsuAnchorCommit_keeps (K : Keeps P) {who : Issuer} {fw : Option FwAnchor} {v : Word} {cycles : Nat} {s : State} (hs : P s) :
    Nxt P (execTsuAnchorCommit who fw v cycles s) := by
  unfold execTsuAnchorCommit
  refine nxt_keeps (ite_keeps P (fun _ => ?_) (fun _ => ?_))
  · assumption
  · extract_lets -merge +onlyGivenNames x1
    have hx1 : P x1 := by
      exact tsuAdvance_keeps K ‹_›
    clear_value x1
    split
    · refine ite_keeps P (fun _ => ?_) (fun _ => ?_)
      · exact commitAnchor_keeps K ‹_›
      · assumption
    · refine ite_keeps P (fun _ => ?_) (fun _ => ?_)
      · assumption
      · refine tsuWord_keeps K (fun _ _ => ?_) ?_
        · refine commitAnchor_keeps K (withAnchor_keeps K ?_)
          assumption
        · assumption

theorem tsuCommand_keeps (K : Keeps P) {who : Issuer} {op : Nat} {adj : Option Word} {cycles : Nat} {s : State} (hs : P s) :
    P (tsuCommand who op adj cycles s) := by
  unfold tsuCommand
  refine ite_keeps P (fun _ => ?_) (fun _ => ?_)
  · assumption
  · extract_lets -merge +onlyGivenNames x1
    have hx1 : ∀ a0, P a0 → P (x1 a0) := by
      intro a0 _
      refine ite_keeps P (fun _ => ?_) (fun _ => ?_)
      · exact tsuAnswer_keeps K ‹_›
      · extract_lets -merge +onlyGivenNames x2
        have hx2 : P x2 := by
          unfold x2
          split
          · exact setR_keeps K ‹_›
          · assumption
        clear_value x2
        refine tsuAnswer_keeps K (tsuOp_keeps K ?_)
        assumption
    clear_value x1
    extract_lets -merge +onlyGivenNames x3
    have hx3 : P x3 := by
      exact tsuAdvance_keeps K ‹_›
    clear_value x3
    split
    · refine ite_keeps P (fun _ => ?_) (fun _ => ?_)
      · refine hx1 _ ?_
        · assumption
      · exact tsuAnswer_keeps K ‹_›
    · refine ite_keeps P (fun _ => ?_) (fun _ => ?_)
      · assumption
      · refine tsuWord_keeps K (fun _ _ => ?_) ?_
        · refine hx1 _ ?_
          · assumption
        · assumption

theorem execTsuLoad_keeps (K : Keeps P) {who : Issuer} {adj : Option Word} {cycles : Nat} {s : State} (hs : P s) :
    Nxt P (execTsuLoad who adj cycles s) := by
  unfold execTsuLoad
  refine nxt_keeps (tsuCommand_keeps K ?_)
  assumption

theorem execTsuSlew_keeps (K : Keeps P) {who : Issuer} {adj : Option Word} {cycles : Nat} {s : State} (hs : P s) :
    Nxt P (execTsuSlew who adj cycles s) := by
  unfold execTsuSlew
  refine nxt_keeps (tsuCommand_keeps K ?_)
  assumption

theorem execTsuSlewDone_keeps (K : Keeps P) {s : State} (hs : P s) :
    Nxt P (execTsuSlewDone s) := by
  unfold execTsuSlewDone
  refine nxt_keeps (ite_keeps P (fun _ => ?_) (fun _ => ?_))
  · refine moveRaw_keeps K (setR_keeps K ?_)
    exact K.upd ‹_›
  · assumption

theorem execTsuSqFree_keeps (K : Keeps P) {who : Issuer} {e : Fin 64} {s : State} (hs : P s) :
    Nxt P (execTsuSqFree who e s) := by
  unfold execTsuSqFree
  extract_lets -merge +onlyGivenNames x1
  have hx1 : ∀ a0 a1, P a1 → P (x1 a0 a1) := by
    intro a0 a1 _
    refine ite_keeps P (fun _ => ?_) (fun _ => ?_)
    · refine sqCount_keeps K (setB_keeps K ?_)
      assumption
    · assumption
  clear_value x1
  refine nxt_keeps (ite_keeps P (fun _ => ?_) (fun _ => ?_))
  · assumption
  · split
    · refine hx1 _ _ ?_
      · assumption
    · refine tsuWord_keeps K (fun _ _ => ?_) ?_
      · refine capture_keeps K (hx1 _ _ ?_)
        · assumption
      · assumption

theorem execTsuStep_keeps (K : Keeps P) {who : Issuer} {adj : Option Word} {cycles : Nat} {s : State} (hs : P s) :
    Nxt P (execTsuStep who adj cycles s) := by
  unfold execTsuStep
  refine nxt_keeps (tsuCommand_keeps K ?_)
  assumption

theorem giveStamp_keeps (K : Keeps P) {p : Nat} {e : TxEnt} {stamp : Word} {s : State} (hs : P s) :
    P (giveStamp p e stamp s) := by
  unfold giveStamp
  split
  · assumption
  · extract_lets -merge +onlyGivenNames x1
    have hx1 : Snd P x1 := by
      exact queueStamp_keeps K ‹_›
    clear_value x1
    split
    · refine ftxStamped_keeps K (of_snd ?_)
      assumption
    · refine ite_keeps P (fun _ => ?_) (fun _ => ?_)
      · refine capture_keeps K (of_snd ?_)
        assumption
      · exact of_snd ‹_›

theorem execTxStamp_keeps (K : Keeps P) {port : Fin 4} {cycles : Nat} {s : State} (hs : P s) :
    Nxt P (execTxStamp port cycles s) := by
  unfold execTxStamp
  extract_lets -merge +onlyGivenNames x1
  have hx1 : P x1 := by
    exact tsuAdvance_keeps K ‹_›
  clear_value x1
  refine nxt_keeps ?_
  split
  · refine ite_keeps P (fun _ => ?_) (fun _ => ?_)
    · assumption
    · extract_lets -merge +onlyGivenNames x2
      have hx2 : Snd P x2 := by
        exact shiftedStamp_keeps K ‹_›
      clear_value x2
      extract_lets -merge +onlyGivenNames x3
      try clear_value x3
      extract_lets -merge +onlyGivenNames x4
      try clear_value x4
      extract_lets -merge +onlyGivenNames x5
      have hx5 : P x5 := by
        refine setPort_keeps K (of_snd ?_)
        assumption
      clear_value x5
      exact giveStamp_keeps K ‹_›
  · assumption

/-! HostWrite -/

theorem afterAir_keeps (K : Keeps P) {off : Nat} {s : State} (hs : P s) :
    P (afterAir off s) := by
  unfold afterAir
  extract_lets -merge +onlyGivenNames x1
  try clear_value x1
  extract_lets -merge +onlyGivenNames x2
  try clear_value x2
  refine ite_keeps P (fun _ => ?_) (fun _ => ?_)
  · extract_lets -merge +onlyGivenNames x3
    try clear_value x3
    extract_lets -merge +onlyGivenNames x4
    try clear_value x4
    extract_lets -merge +onlyGivenNames x5
    try clear_value x5
    extract_lets -merge +onlyGivenNames x6
    have hx6 : P x6 := by
      exact setF_keeps K ‹_›
    clear_value x6
    extract_lets -merge +onlyGivenNames x7
    have hx7 : P x7 := by
      exact setF_keeps K ‹_›
    clear_value x7
    exact setB_keeps K ‹_›
  · assumption

theorem hostRouteScope_keeps (K : Keeps P) {n : Nat} {bad : Bool} {s : State} (hs : P s) :
    P (hostRouteScope n bad s) := K.unp hs

theorem afterIntc_keeps (K : Keeps P) {off : Nat} {s : State} (hs : P s) :
    P (afterIntc off s) := by
  unfold afterIntc
  refine ite_keeps P (fun _ => ?_) (fun _ => ?_)
  · extract_lets -merge +onlyGivenNames x1
    try clear_value x1
    extract_lets -merge +onlyGivenNames x2
    have hx2 : P x2 := by
      exact hostRouteScope_keeps K ‹_›
    clear_value x2
    refine ite_keeps P (fun _ => ?_) (fun _ => ?_)
    · exact spoilReg_keeps K ‹_›
    · assumption
  · assumption

theorem afterDrv_keeps (K : Keeps P) {was : Nat} {off : Nat} {s : State} (hs : P s) :
    P (afterDrv was off s) := by
  unfold afterDrv
  extract_lets -merge +onlyGivenNames x1
  try clear_value x1
  refine ite_keeps P (fun _ => ?_) (fun _ => ?_)
  · refine joinLead_keeps K (followEnable_keeps K ?_)
    assumption
  · assumption

theorem afterChn_keeps (K : Keeps P) {was : Bool} {off : Nat} {s : State} (hs : P s) :
    P (afterChn was off s) := by
  unfold afterChn
  extract_lets -merge +onlyGivenNames x1
  try clear_value x1
  refine ite_keeps P (fun _ => ?_) (fun _ => ?_)
  · exact chnEnableRise_keeps K ‹_›
  · assumption

theorem afterRfx_keeps (K : Keeps P) {off : Nat} {s : State} (hs : P s) :
    P (afterRfx off s) := by
  unfold afterRfx
  extract_lets -merge +onlyGivenNames x1
  try clear_value x1
  refine ite_keeps P (fun _ => ?_) (fun _ => ?_)
  · exact K.upd ‹_›
  · refine ite_keeps P (fun _ => ?_) (fun _ => ?_)
    · exact setR_keeps K ‹_›
    · assumption

theorem afterNet_keeps (K : Keeps P) {off : Nat} {s : State} (hs : P s) :
    P (afterNet off s) := by
  unfold afterNet
  extract_lets -merge +onlyGivenNames x1
  try clear_value x1
  refine ite_keeps P (fun _ => ?_) (fun _ => ?_)
  · exact setLink_keeps K ‹_›
  · assumption

theorem afterDma_keeps (K : Keeps P) {off : Nat} {s : State} (hs : P s) :
    P (afterDma off s) := by
  unfold afterDma
  refine ite_keeps P (fun _ => ?_) (fun _ => ?_)
  · exact judgeRing_keeps K ‹_›
  · refine ite_keeps P (fun _ => ?_) (fun _ => ?_)
    · exact resumeDma_keeps K ‹_›
    · assumption

theorem afterBlock_keeps (K : Keeps P) {b : Block} {wasChn : Bool} {lead : Nat} {off : Nat} {s : State} (hs : P s) :
    P (afterBlock b wasChn lead off s) := by
  unfold afterBlock
  split
  · exact afterIntc_keeps K ‹_›
  · exact afterDrv_keeps K ‹_›
  · exact afterChn_keeps K ‹_›
  · exact afterRfx_keeps K ‹_›
  · exact afterNet_keeps K ‹_›
  · exact afterDma_keeps K ‹_›
  · assumption

theorem freeDescs_keeps (K : Keeps P) (n : Nat) : ∀ {s : State}, P s → Snd P (freeDescs n s) := by
  induction n with
  | zero => exact fun h => h
  | succ n ih =>
    intro s hs
    exact ih (K.upd hs)

theorem setCellWord_keeps (K : Keeps P) {off : Nat} {v : Word} {s : State} (hs : P s) :
    P (setCellWord off v s) := by
  unfold setCellWord
  refine ite_keeps P (fun _ => ?_) (fun _ => ?_)
  · assumption
  · extract_lets -merge +onlyGivenNames x1
    try clear_value x1
    extract_lets -merge +onlyGivenNames x2
    try clear_value x2
    extract_lets -merge +onlyGivenNames x3
    try clear_value x3
    extract_lets -merge +onlyGivenNames x4
    try clear_value x4
    exact K.upd ‹_›

theorem writeFree_keeps (K : Keeps P) {off : Nat} {s : State} (hs : P s) :
    P (writeFree off s) := by
  unfold writeFree
  split
  · refine ite_keeps P (fun _ => ?_) (fun _ => ?_)
    · assumption
    · extract_lets -merge +onlyGivenNames x1
      try clear_value x1
      extract_lets -merge +onlyGivenNames x2
      have hx2 : P x2 := by
        exact drawn_keeps K ‹_›
      clear_value x2
      extract_lets -merge +onlyGivenNames x3
      try clear_value x3
      extract_lets -merge +onlyGivenNames x4
      try clear_value x4
      extract_lets -merge +onlyGivenNames x5
      try clear_value x5
      extract_lets -merge +onlyGivenNames x6
      try clear_value x6
      extract_lets -merge +onlyGivenNames x7
      have hx7 : P x7 := by
        refine ite_keeps P (fun _ => ?_) (fun _ => ?_)
        · exact setCellWord_keeps K ‹_›
        · refine afterBlock_keeps K (setR_keeps K ?_)
          assumption
      clear_value x7
      exact spoil_keeps K ‹_›
  · assumption

theorem noteItem_keeps (K : Keeps P) {off : Nat} {s : State} (hs : P s) :
    P (noteItem off s) := by
  unfold noteItem
  refine ite_keeps P (fun _ => ?_) (fun _ => ?_)
  · exact K.upd ‹_›
  · assumption

theorem writeSys_keeps (K : Keeps P) {off : Nat} {v : Word} {setNow : Word} {s : State} (hs : P s) :
    P (writeSys off v setNow s) := by
  unfold writeSys
  refine ite_keeps P (fun _ => ?_) (fun _ => ?_)
  · exact hostPower_keeps K ‹_›
  · refine ite_keeps P (fun _ => ?_) (fun _ => ?_)
    · split
      · refine ite_keeps P (fun _ => ?_) (fun _ => ?_)
        · assumption
        · exact resetRequest_keeps K ‹_›
      · assumption
    · exact writeReg_keeps K ‹_›

theorem run_keeps (K : Keeps P) {f : State → Host.Outcome State Fault Refusal} {s : State} (hf : ∀ a0, P a0 → Nxt P (f a0)) (hs : P s) :
    P (run f s) := by
  unfold run
  refine after_keeps K ?_ ?_
  · refine hf _ ?_
    · assumption
  · assumption

theorem writeImg_keeps (K : Keeps P) {off : Nat} {v : Word} {setNow : Word} {s : State} (hs : P s) :
    P (writeImg off v setNow s) := by
  unfold writeImg
  refine ite_keeps P (fun _ => ?_) (fun _ => ?_)
  · split
    · refine run_keeps K (fun _ _ => ?_) ?_
      · exact execImgBegin_keeps K ‹_›
      · assumption
    · refine run_keeps K (fun _ _ => ?_) ?_
      · exact execImgCommit_keeps K ‹_›
      · assumption
    · refine run_keeps K (fun _ _ => ?_) ?_
      · exact execImgAbort_keeps K ‹_›
      · assumption
    · refine run_keeps K (fun _ _ => ?_) ?_
      · exact execImgVerify_keeps K ‹_›
      · assumption
    · refine run_keeps K (fun _ _ => ?_) ?_
      · exact execImgDiscard_keeps K ‹_›
      · assumption
    · assumption
  · refine ite_keeps P (fun _ => ?_) (fun _ => ?_)
    · refine run_keeps K (fun _ _ => ?_) ?_
      · exact execImgStgData_keeps K ‹_›
      · assumption
    · exact writeReg_keeps K ‹_›

theorem writeIntc_keeps (K : Keeps P) {off : Nat} {v : Word} {setNow : Word} {s : State} (hs : P s) :
    P (writeIntc off v setNow s) := by
  unfold writeIntc
  refine ite_keeps P (fun _ => ?_) (fun _ => ?_)
  · exact writeDone_keeps K ‹_›
  · refine ite_keeps P (fun _ => ?_) (fun _ => ?_)
    · exact writeDone_keeps K ‹_›
    · refine ite_keeps P (fun _ => ?_) (fun _ => ?_)
      · exact writeHpendSet_keeps K ‹_›
      · refine ite_keeps P (fun _ => ?_) (fun _ => ?_)
        · exact writeHpendClr_keeps K ‹_›
        · refine afterIntc_keeps K (writeReg_keeps K ?_)
          assumption

theorem writeCalCmd_keeps (K : Keeps P) {v : Word} {s : State} (hs : P s) :
    P (writeCalCmd v s) := by
  unfold writeCalCmd
  extract_lets -merge +onlyGivenNames x1
  try clear_value x1
  refine ite_keeps P (fun _ => ?_) (fun _ => ?_)
  · assumption
  · refine ite_keeps P (fun _ => ?_) (fun _ => ?_)
    · exact spoilLong_keeps K ‹_›
    · refine ite_keeps P (fun _ => ?_) (fun _ => ?_)
      · exact calAnswer_keeps K ‹_›
      · refine ite_keeps P (fun _ => ?_) (fun _ => ?_)
        · exact calAnswer_keeps K ‹_›
        · refine setB_keeps K (K.upd ?_)
          assumption

theorem writeCal_keeps (K : Keeps P) {off : Nat} {v : Word} {setNow : Word} {s : State} (hs : P s) :
    P (writeCal off v setNow s) := by
  unfold writeCal
  refine ite_keeps P (fun _ => ?_) (fun _ => ?_)
  · exact writeCalCmd_keeps K ‹_›
  · refine ite_keeps P (fun _ => ?_) (fun _ => ?_)
    · refine ite_keeps P (fun _ => ?_) (fun _ => ?_)
      · exact writeReg_keeps K ‹_›
      · assumption
    · refine ite_keeps P (fun _ => ?_) (fun _ => ?_)
      · refine ite_keeps P (fun _ => ?_) (fun _ => ?_)
        · extract_lets -merge +onlyGivenNames x1
          have hx1 : P x1 := by
            exact writeReg_keeps K ‹_›
          clear_value x1
          exact setDisc_keeps K ‹_›
        · extract_lets -merge +onlyGivenNames x2
          try clear_value x2
          refine setF_keeps K (writeReg_keeps K ?_)
          assumption
      · refine ite_keeps P (fun _ => ?_) (fun _ => ?_)
        · extract_lets -merge +onlyGivenNames x3
          try clear_value x3
          refine ite_keeps P (fun _ => ?_) (fun _ => ?_)
          · assumption
          · refine ite_keeps P (fun _ => ?_) (fun _ => ?_)
            · extract_lets -merge +onlyGivenNames x4
              have hx4 : P x4 := by
                refine ite_keeps P (fun _ => ?_) (fun _ => ?_)
                · refine run_keeps K (fun _ _ => ?_) ?_
                  · exact execSchedArm_keeps K ‹_›
                  · assumption
                · assumption
              clear_value x4
              refine ite_keeps P (fun _ => ?_) (fun _ => ?_)
              · refine run_keeps K (fun _ _ => ?_) ?_
                · exact execSchedCancel_keeps K ‹_›
                · assumption
              · assumption
            · refine ite_keeps P (fun _ => ?_) (fun _ => ?_)
              · assumption
              · exact writeReg_keeps K ‹_›
        · exact writeReg_keeps K ‹_›

theorem writeKeyCmd_keeps (K : Keeps P) {v : Word} {s : State} (hs : P s) :
    P (writeKeyCmd v s) := by
  unfold writeKeyCmd
  extract_lets -merge +onlyGivenNames x1
  try clear_value x1
  refine ite_keeps P (fun _ => ?_) (fun _ => ?_)
  · assumption
  · refine ite_keeps P (fun _ => ?_) (fun _ => ?_)
    · exact keyAnswer_keeps K ‹_›
    · refine ite_keeps P (fun _ => ?_) (fun _ => ?_)
      · exact spoilLong_keeps K ‹_›
      · refine ite_keeps P (fun _ => ?_) (fun _ => ?_)
        · assumption
        · refine captureReq_keeps K (of_snd ?_)
          exact randomBits_keeps K ‹_›

theorem writeKey_keeps (K : Keeps P) {off : Nat} {v : Word} {setNow : Word} {s : State} (hs : P s) :
    P (writeKey off v setNow s) := by
  unfold writeKey
  refine ite_keeps P (fun _ => ?_) (fun _ => ?_)
  · exact writeKeyCmd_keeps K ‹_›
  · refine ite_keeps P (fun _ => ?_) (fun _ => ?_)
    · exact writeReg_keeps K ‹_›
    · refine ite_keeps P (fun _ => ?_) (fun _ => ?_)
      · exact setR_keeps K ‹_›
      · refine ite_keeps P (fun _ => ?_) (fun _ => ?_)
        · extract_lets -merge +onlyGivenNames x1
          try clear_value x1
          extract_lets -merge +onlyGivenNames x2
          have hx2 : P x2 := by
            refine ite_keeps P (fun _ => ?_) (fun _ => ?_)
            · exact armLoop_keeps K ‹_›
            · assumption
          clear_value x2
          extract_lets -merge +onlyGivenNames x3
          have hx3 : P x3 := by
            refine ite_keeps P (fun _ => ?_) (fun _ => ?_)
            · exact armLoop_keeps K ‹_›
            · assumption
          clear_value x3
          refine ite_keeps P (fun _ => ?_) (fun _ => ?_)
          · exact spoilReg_keeps K ‹_›
          · exact unspoil_keeps K ‹_›
        · exact writeReg_keeps K ‹_›

theorem writeUpd_keeps (K : Keeps P) {off : Nat} {v : Word} {setNow : Word} {s : State} (hs : P s) :
    P (writeUpd off v setNow s) := by
  unfold writeUpd
  refine ite_keeps P (fun _ => ?_) (fun _ => ?_)
  · split
    · refine run_keeps K (fun _ _ => ?_) ?_
      · exact execUpdBegin_keeps K ‹_›
      · assumption
    · refine run_keeps K (fun _ _ => ?_) ?_
      · exact execUpdCommit_keeps K ‹_›
      · assumption
    · refine run_keeps K (fun _ _ => ?_) ?_
      · exact execUpdAbort_keeps K ‹_›
      · assumption
    · refine run_keeps K (fun _ _ => ?_) ?_
      · exact execUpdDiscard_keeps K ‹_›
      · assumption
    · refine run_keeps K (fun _ _ => ?_) ?_
      · exact execSaveSettings_keeps K ‹_›
      · assumption
    · refine run_keeps K (fun _ _ => ?_) ?_
      · exact execDefaults_keeps K ‹_›
      · assumption
    · refine run_keeps K (fun _ _ => ?_) ?_
      · exact execRecoverNext_keeps K ‹_›
      · assumption
    · assumption
  · refine ite_keeps P (fun _ => ?_) (fun _ => ?_)
    · refine run_keeps K (fun _ _ => ?_) ?_
      · exact execUpdStgData_keeps K ‹_›
      · assumption
    · exact writeReg_keeps K ‹_›

theorem writeDrv_keeps (K : Keeps P) {off : Nat} {v : Word} {setNow : Word} {s : State} (hs : P s) :
    P (writeDrv off v setNow s) := by
  unfold writeDrv
  extract_lets -merge +onlyGivenNames x1
  try clear_value x1
  split
  · refine run_keeps K (fun _ _ => ?_) ?_
    · exact execDrvChSet_keeps K ‹_›
    · assumption
  · extract_lets -merge +onlyGivenNames x2
    have hx2 : P x2 := by
      refine ite_keeps P (fun _ => ?_) (fun _ => ?_)
      · refine run_keeps K (fun _ _ => ?_) ?_
        · exact execClear_keeps K ‹_›
        · assumption
      · assumption
    clear_value x2
    extract_lets -merge +onlyGivenNames x3
    have hx3 : P x3 := by
      refine ite_keeps P (fun _ => ?_) (fun _ => ?_)
      · refine run_keeps K (fun _ _ => ?_) ?_
        · exact execPhaseRetry_keeps K ‹_›
        · assumption
      · assumption
    clear_value x3
    refine ite_keeps P (fun _ => ?_) (fun _ => ?_)
    · refine run_keeps K (fun _ _ => ?_) ?_
      · exact execProbeNow_keeps K ‹_›
      · assumption
    · assumption
  · refine afterDrv_keeps K (writeReg_keeps K ?_)
    assumption

theorem writeChn_keeps (K : Keeps P) {off : Nat} {v : Word} {setNow : Word} {s : State} (hs : P s) :
    P (writeChn off v setNow s) := by
  unfold writeChn
  extract_lets -merge +onlyGivenNames x1
  try clear_value x1
  extract_lets -merge +onlyGivenNames x2
  try clear_value x2
  refine ite_keeps P (fun _ => ?_) (fun _ => ?_)
  · extract_lets -merge +onlyGivenNames x3
    have hx3 : P x3 := by
      refine ite_keeps P (fun _ => ?_) (fun _ => ?_)
      · refine run_keeps K (fun _ _ => ?_) ?_
        · exact execReshift_keeps K ‹_›
        · assumption
      · assumption
    clear_value x3
    refine ite_keeps P (fun _ => ?_) (fun _ => ?_)
    · refine run_keeps K (fun _ _ => ?_) ?_
      · exact execMeasure_keeps K ‹_›
      · assumption
    · assumption
  · refine ite_keeps P (fun _ => ?_) (fun _ => ?_)
    · refine run_keeps K (fun _ _ => ?_) ?_
      · exact execChnDrvSet_keeps K ‹_›
      · assumption
    · refine afterChn_keeps K (writeReg_keeps K ?_)
      assumption

theorem writeMtr_keeps (K : Keeps P) {off : Nat} {v : Word} {setNow : Word} {s : State} (hs : P s) :
    P (writeMtr off v setNow s) := by
  unfold writeMtr
  refine ite_keeps P (fun _ => ?_) (fun _ => ?_)
  · extract_lets -merge +onlyGivenNames x1
    have hx1 : P x1 := by
      refine ite_keeps P (fun _ => ?_) (fun _ => ?_)
      · refine run_keeps K (fun _ _ => ?_) ?_
        · exact execSaveNow_keeps K ‹_›
        · assumption
      · assumption
    clear_value x1
    refine ite_keeps P (fun _ => ?_) (fun _ => ?_)
    · refine run_keeps K (fun _ _ => ?_) ?_
      · exact execZero_keeps K ‹_›
      · assumption
    · assumption
  · exact writeReg_keeps K ‹_›

theorem writeRfx_keeps (K : Keeps P) {off : Nat} {v : Word} {setNow : Word} {s : State} (hs : P s) :
    P (writeRfx off v setNow s) := by
  unfold writeRfx
  extract_lets -merge +onlyGivenNames x1
  have hx1 : P x1 := by
    exact wakesFabric_keeps K ‹_›
  clear_value x1
  refine ite_keeps P (fun _ => ?_) (fun _ => ?_)
  · refine run_keeps K (fun _ _ => ?_) ?_
    · exact execRfxModeWrite_keeps K ‹_›
    · assumption
  · refine ite_keeps P (fun _ => ?_) (fun _ => ?_)
    · refine run_keeps K (fun _ _ => ?_) ?_
      · exact execRfxLockClr_keeps K ‹_›
      · assumption
    · refine ite_keeps P (fun _ => ?_) (fun _ => ?_)
      · refine run_keeps K (fun _ _ => ?_) ?_
        · exact execRfxLockClr_keeps K ‹_›
        · assumption
      · refine afterRfx_keeps K (writeReg_keeps K ?_)
        assumption

theorem writeNet_keeps (K : Keeps P) {off : Nat} {v : Word} {setNow : Word} {s : State} (hs : P s) :
    P (writeNet off v setNow s) := by
  unfold writeNet
  extract_lets -merge +onlyGivenNames x1
  have hx1 : P x1 := by
    refine afterNet_keeps K (writeReg_keeps K ?_)
    assumption
  clear_value x1
  refine ite_keeps P (fun _ => ?_) (fun _ => ?_)
  · refine run_keeps K (fun _ _ => ?_) ?_
    · exact execRestartAn_keeps K ‹_›
    · assumption
  · assumption

theorem writeTsuCmd_keeps (K : Keeps P) {v : Word} {s : State} (hs : P s) :
    P (writeTsuCmd v s) := by
  unfold writeTsuCmd
  extract_lets -merge +onlyGivenNames x1
  try clear_value x1
  refine ite_keeps P (fun _ => ?_) (fun _ => ?_)
  · exact tsuAnswer_keeps K ‹_›
  · refine ite_keeps P (fun _ => ?_) (fun _ => ?_)
    · assumption
    · refine ite_keeps P (fun _ => ?_) (fun _ => ?_)
      · exact spoilLong_keeps K ‹_›
      · refine ite_keeps P (fun _ => ?_) (fun _ => ?_)
        · exact tsuAnswer_keeps K ‹_›
        · refine setB_keeps K (K.upd ?_)
          assumption

theorem writeTsu_keeps (K : Keeps P) {off : Nat} {v : Word} {setNow : Word} {s : State} (hs : P s) :
    P (writeTsu off v setNow s) := by
  unfold writeTsu
  refine ite_keeps P (fun _ => ?_) (fun _ => ?_)
  · exact writeTsuCmd_keeps K ‹_›
  · refine ite_keeps P (fun _ => ?_) (fun _ => ?_)
    · refine run_keeps K (fun _ _ => ?_) ?_
      · exact execTsuSqFree_keeps K ‹_›
      · assumption
    · refine ite_keeps P (fun _ => ?_) (fun _ => ?_)
      · refine ite_keeps P (fun _ => ?_) (fun _ => ?_)
        · exact writeReg_keeps K ‹_›
        · assumption
      · refine ite_keeps P (fun _ => ?_) (fun _ => ?_)
        · refine ite_keeps P (fun _ => ?_) (fun _ => ?_)
          · refine run_keeps K (fun _ _ => ?_) ?_
            · exact execTsuAnchorCommit_keeps K ‹_›
            · exact writeReg_keeps K ‹_›
          · assumption
        · exact writeReg_keeps K ‹_›

theorem writeDma_keeps (K : Keeps P) {off : Nat} {v : Word} {setNow : Word} {s : State} (hs : P s) :
    P (writeDma off v setNow s) := by
  unfold writeDma
  extract_lets -merge +onlyGivenNames x1
  try clear_value x1
  refine ite_keeps P (fun _ => ?_) (fun _ => ?_)
  · refine run_keeps K (fun _ _ => ?_) ?_
    · exact execDmaRingEnable_keeps K ‹_›
    · assumption
  · refine ite_keeps P (fun _ => ?_) (fun _ => ?_)
    · extract_lets -merge +onlyGivenNames x2
      try clear_value x2
      extract_lets -merge +onlyGivenNames x3
      have hx3 : Snd P x3 := by
        exact freeDescs_keeps K _ ‹_›
      clear_value x3
      refine run_keeps K (fun _ _ => ?_) ?_
      · exact execDmaTailWrite_keeps K ‹_›
      · exact of_snd ‹_›
    · refine afterDma_keeps K (writeReg_keeps K ?_)
      assumption

theorem writeAir_keeps (K : Keeps P) {off : Nat} {v : Word} {setNow : Word} {s : State} (hs : P s) :
    P (writeAir off v setNow s) := by
  unfold writeAir
  refine ite_keeps P (fun _ => ?_) (fun _ => ?_)
  · refine run_keeps K (fun _ _ => ?_) ?_
    · exact execLeaseEuiWrite_keeps K ‹_›
    · assumption
  · refine ite_keeps P (fun _ => ?_) (fun _ => ?_)
    · refine writeScope_keeps K (setCellWord_keeps K ?_)
      assumption
    · refine ite_keeps P (fun _ => ?_) (fun _ => ?_)
      · exact writeReg_keeps K ‹_›
      · refine afterAir_keeps K (writeReg_keeps K ?_)
        assumption

theorem writeTwn_keeps (K : Keeps P) {off : Nat} {v : Word} {setNow : Word} {s : State} (hs : P s) :
    P (writeTwn off v setNow s) := by
  unfold writeTwn
  refine ite_keeps P (fun _ => ?_) (fun _ => ?_)
  · extract_lets -merge +onlyGivenNames x1
    try clear_value x1
    split
    · refine run_keeps K (fun _ _ => ?_) ?_
      · exact execRejoin_keeps K ‹_›
      · assumption
    · refine run_keeps K (fun _ _ => ?_) ?_
      · exact execForceFail_keeps K ‹_›
      · assumption
    · refine run_keeps K (fun _ _ => ?_) ?_
      · exact execClearHist_keeps K ‹_›
      · assumption
    · assumption
  · exact writeReg_keeps K ‹_›

theorem newCount_keeps (K : Keeps P) {i : Nat} {s : State} (hs : P s) :
    P (newCount i s) := by
  unfold newCount
  extract_lets -merge +onlyGivenNames x1
  have hx1 : P x1 := by
    refine ite_keeps P (fun _ => ?_) (fun _ => ?_)
    · exact setF_keeps K ‹_›
    · assumption
  clear_value x1
  refine setF_keeps K (K.upd ?_)
  assumption

theorem writeTst_keeps (K : Keeps P) {off : Nat} {v : Word} {setNow : Word} {s : State} (hs : P s) :
    P (writeTst off v setNow s) := by
  unfold writeTst
  refine ite_keeps P (fun _ => ?_) (fun _ => ?_)
  · refine run_keeps K (fun _ _ => ?_) ?_
    · exact execTstUnlock_keeps K ‹_›
    · assumption
  · refine ite_keeps P (fun _ => ?_) (fun _ => ?_)
    · assumption
    · refine ite_keeps P (fun _ => ?_) (fun _ => ?_)
      · exact tstCtlWrite_keeps K ‹_›
      · extract_lets -merge +onlyGivenNames x1
        have hx1 : P x1 := by
          exact writeReg_keeps K ‹_›
        clear_value x1
        refine ite_keeps P (fun _ => ?_) (fun _ => ?_)
        · exact newCount_keeps K ‹_›
        · assumption

theorem writeBlock_keeps (K : Keeps P) {b : Block} {off : Nat} {v : Word} {setNow : Word} {s : State} (hs : P s) :
    P (writeBlock b off v setNow s) := by
  unfold writeBlock
  split
  · exact writeSys_keeps K ‹_›
  · exact writeImg_keeps K ‹_›
  · exact writeIntc_keeps K ‹_›
  · exact writeCal_keeps K ‹_›
  · exact writeKey_keeps K ‹_›
  · exact writeUpd_keeps K ‹_›
  · exact writeDrv_keeps K ‹_›
  · exact writeChn_keeps K ‹_›
  · exact writeMtr_keeps K ‹_›
  · exact writeRfx_keeps K ‹_›
  · exact writeNet_keeps K ‹_›
  · exact writeTsu_keeps K ‹_›
  · exact writeDma_keeps K ‹_›
  · exact writeAir_keeps K ‹_›
  · exact hostUlust_keeps K ‹_›
  · exact hostUlust_keeps K ‹_›
  · exact writeTwn_keeps K ‹_›
  · exact writeTst_keeps K ‹_›

theorem hostWrite_keeps (K : Keeps P) {off : Nat} {v : Word} {setNow : Word} {s : State} (hs : P s) :
    P (hostWrite off v setNow s) := by
  unfold hostWrite
  refine ite_keeps P (fun _ => ?_) (fun _ => ?_)
  · refine writeFree_keeps K (writeFree_keeps K ?_)
    assumption
  · split
    · refine ite_keeps P (fun _ => ?_) (fun _ => ?_)
      · refine noteItem_keeps K (writeBlock_keeps K ?_)
        assumption
      · assumption
    · assumption

/-! Port -/

theorem airWord_keeps (K : Keeps P) {c : Copies} {off : Nat} {v : Word} {s : State} (hs : P s) :
    P (airWord c off v s) := by
  unfold airWord
  refine ite_keeps P (fun _ => ?_) (fun _ => ?_)
  · refine byPort_keeps K (fun _ _ => ?_) ?_
    · exact writeAir_keeps K ‹_›
    · refine ite_keeps P (fun _ => ?_) (fun _ => ?_)
      · split
        · assumption
        · refine airEvt_keeps K (bump_keeps K ?_)
          assumption
        · exact bump_keeps K ‹_›
      · assumption
  · assumption

theorem barRead_keeps (K : Keeps P) {off : Nat} {len : Nat} {s : State} (hs : P s) :
    P (barRead off len s) := by
  unfold barRead
  extract_lets -merge +onlyGivenNames x1
  have hx1 : P x1 := by
    exact K.upd ‹_›
  clear_value x1
  refine ite_keeps P (fun _ => ?_) (fun _ => ?_)
  · exact K.upd ‹_›
  · assumption

theorem controlStore_keeps (K : Keeps P) {off : Nat} {v : Word} {s : State} (hs : P s) :
    P (controlStore off v s) := by
  unfold controlStore
  exact setR_keeps K ‹_›

theorem controlWrite_keeps (K : Keeps P) {off : Nat} {v : Word} {s : State} (hs : P s) :
    P (controlWrite off v s) := by
  unfold controlWrite
  refine ite_keeps P (fun _ => ?_) (fun _ => ?_)
  · refine ite_keeps P (fun _ => ?_) (fun _ => ?_)
    · assumption
    · exact controlStore_keeps K ‹_›
  · refine ite_keeps P (fun _ => ?_) (fun _ => ?_)
    · refine ite_keeps P (fun _ => ?_) (fun _ => ?_)
      · assumption
      · exact setDisc_keeps K ‹_›
    · refine ite_keeps P (fun _ => ?_) (fun _ => ?_)
      · extract_lets -merge +onlyGivenNames x1
        try clear_value x1
        refine ite_keeps P (fun _ => ?_) (fun _ => ?_)
        · extract_lets -merge +onlyGivenNames x2
          have hx2 : P x2 := by
            refine ite_keeps P (fun _ => ?_) (fun _ => ?_)
            · exact schArm_keeps K ‹_›
            · assumption
          clear_value x2
          refine ite_keeps P (fun _ => ?_) (fun _ => ?_)
          · refine setSch_keeps K (unhand_keeps K ?_)
            assumption
          · assumption
        · refine ite_keeps P (fun _ => ?_) (fun _ => ?_)
          · assumption
          · exact controlStore_keeps K ‹_›
      · refine ite_keeps P (fun _ => ?_) (fun _ => ?_)
        · refine ite_keeps P (fun _ => ?_) (fun _ => ?_)
          · exact setF_keeps K ‹_›
          · assumption
        · refine ite_keeps P (fun _ => ?_) (fun _ => ?_)
          · refine ite_keeps P (fun _ => ?_) (fun _ => ?_)
            · exact setR_keeps K ‹_›
            · assumption
          · refine ite_keeps P (fun _ => ?_) (fun _ => ?_)
            · exact controlStore_keeps K ‹_›
            · assumption

theorem execPcieConfigWrite_keeps (K : Keeps P) {cfg : PciCfg} {s : State} (hs : P s) :
    Nxt P (execPcieConfigWrite cfg s) := by
  unfold execPcieConfigWrite
  refine nxt_keeps (ite_keeps P (fun _ => ?_) (fun _ => ?_))
  · extract_lets -merge +onlyGivenNames x1
    try clear_value x1
    extract_lets -merge +onlyGivenNames x2
    try clear_value x2
    extract_lets -merge +onlyGivenNames x3
    have hx3 : P x3 := by
      exact K.upd ‹_›
    clear_value x3
    extract_lets -merge +onlyGivenNames x4
    have hx4 : P x4 := by
      unfold x4
      split
      · refine ite_keeps P (fun _ => ?_) (fun _ => ?_)
        · exact sendMsi_keeps K ‹_›
        · assumption
      · assumption
    clear_value x4
    refine resumeDma_keeps K (sendHeldMsi_keeps K ?_)
    assumption
  · assumption

theorem execQspiBadop_keeps (K : Keeps P) {op : Byte} {s : State} (hs : P s) :
    Nxt P (execQspiBadop op s) := by
  unfold execQspiBadop
  refine nxt_keeps (ite_keeps P (fun _ => ?_) (fun _ => ?_))
  · assumption
  · exact K.upd ‹_›

theorem execQspiCsAbort_keeps (K : Keeps P) {writing : Bool} {s : State} (hs : P s) :
    Nxt P (execQspiCsAbort writing s) := by
  unfold execQspiCsAbort
  refine nxt_keeps (ite_keeps P (fun _ => ?_) (fun _ => ?_))
  · exact K.upd ‹_›
  · assumption

theorem qspiReads_keeps (K : Keeps P) (n : Nat) : ∀ {addr : Nat} {s : State}, P s → P (qspiReads addr n s) := by
  induction n with
  | zero => exact fun h => K.upd h
  | succ n ih =>
    intro addr s hs
    exact K.upd (ih (readBy_keeps K (fun _ h => hostRead_keeps K h) hs))

theorem execQspiQread_keeps (K : Keeps P) {addr : Nat} {words : Nat} {s : State} (hs : P s) :
    Nxt P (execQspiQread addr words s) := by
  unfold execQspiQread
  refine nxt_keeps (qspiReads_keeps K _ ?_)
  assumption

theorem qspiWrites_keeps (K : Keeps P) (vs : List Word) : ∀ {addr : Nat} {s : State}, P s → P (qspiWrites addr vs s) := by
  induction vs with
  | nil => exact fun h => h
  | cons v vs ih =>
    intro addr s hs
    exact ih (hostWrite_keeps K hs)

theorem execQspiQwrite_keeps (K : Keeps P) {addr : Nat} {data : List Word} {s : State} (hs : P s) :
    Nxt P (execQspiQwrite addr data s) := by
  unfold execQspiQwrite
  refine nxt_keeps (qspiWrites_keeps K _ ?_)
  assumption

theorem execQspiRead_keeps (K : Keeps P) {addr : Nat} {words : Nat} {s : State} (hs : P s) :
    Nxt P (execQspiRead addr words s) := by
  unfold execQspiRead
  refine nxt_keeps (qspiReads_keeps K _ ?_)
  assumption

theorem execQspiStatus_keeps (K : Keeps P) {s : State} (hs : P s) :
    Nxt P (execQspiStatus s) := by
  unfold execQspiStatus
  refine nxt_keeps (K.upd ?_)
  assumption

theorem execQspiWrite_keeps (K : Keeps P) {addr : Nat} {data : List Word} {s : State} (hs : P s) :
    Nxt P (execQspiWrite addr data s) := by
  unfold execQspiWrite
  refine nxt_keeps (qspiWrites_keeps K _ ?_)
  assumption

theorem showPulses_keeps (K : Keeps P) {ns : List Nat} {s : State} (hs : P s) :
    P (showPulses ns s) := by
  unfold showPulses
  exact K.upd ‹_›

theorem setInCycle_keeps (K : Keeps P) {off : Nat} {now : Option Word} {s : State} (hs : P s) :
    P (setInCycle off now s) := by
  unfold setInCycle
  split
  · refine ite_keeps P (fun _ => ?_) (fun _ => ?_)
    · extract_lets -merge +onlyGivenNames x1
      try clear_value x1
      exact setR_keeps K ‹_›
    · assumption
  · assumption

theorem execRcRead_keeps (K : Keeps P) {route : Route} {off : Nat} {now : Option Word} {s : State} (hs : P s) :
    Nxt P (execRcRead route off now s) := by
  unfold execRcRead
  refine nxt_keeps (readBy_keeps K (fun _ _ => ?_) ?_)
  · extract_lets -merge +onlyGivenNames x1
    try clear_value x1
    refine showPulses_keeps K (hostRead_keeps K ?_)
    refine each_keeps K (fun _ _ _ => ?_) ?_
    · exact sourceEvent_keeps K ‹_›
    · exact setInCycle_keeps K ‹_›
  · assumption

theorem tsuIncrWord_keeps (K : Keeps P) {c : Copies} {v : Word} {s : State} (hs : P s) :
    P (tsuIncrWord c v s) := by
  unfold tsuIncrWord
  refine ite_keeps P (fun _ => ?_) (fun _ => ?_)
  · refine tsuWord_keeps K (fun _ _ => ?_) ?_
    · exact controlStore_keeps K ‹_›
    · assumption
  · assumption

theorem execRegisterWrite_keeps (K : Keeps P) {writer : Writer} {off : Nat} {v : Word} {setNow : Word} {s : State} (hs : P s) :
    Nxt P (execRegisterWrite writer off v setNow s) := by
  unfold execRegisterWrite
  refine nxt_keeps ?_
  split
  · refine ite_keeps P (fun _ => ?_) (fun _ => ?_)
    · exact hostWrite_keeps K ‹_›
    · assumption
  · refine ite_keeps P (fun _ => ?_) (fun _ => ?_)
    · exact airWord_keeps K ‹_›
    · refine ite_keeps P (fun _ => ?_) (fun _ => ?_)
      · exact tsuIncrWord_keeps K ‹_›
      · refine byPort_keeps K (fun _ _ => ?_) ?_
        · exact controlWrite_keeps K ‹_›
        · assumption

theorem execUnalignedAccess_keeps (K : Keeps P) {win : Window} {off : Nat} {len : Nat} {isWrite : Bool} {s : State} (hs : P s) :
    Nxt P (execUnalignedAccess win off len isWrite s) := by
  unfold execUnalignedAccess
  refine nxt_keeps ?_
  split
  · refine ite_keeps P (fun _ => ?_) (fun _ => ?_)
    · refine ite_keeps P (fun _ => ?_) (fun _ => ?_)
      · refine each_keeps K (fun _ _ _ => ?_) ?_
        · exact writeFree_keeps K ‹_›
        · assumption
      · assumption
    · refine readBy_keeps K (fun _ _ => ?_) ?_
      · exact readFree_keeps K ‹_›
      · assumption
  · refine ite_keeps P (fun _ => ?_) (fun _ => ?_)
    · assumption
    · refine readBy_keeps K (fun _ _ => ?_) ?_
      · exact barRead_keeps K ‹_›
      · assumption

theorem execUnmappedAccess_keeps (K : Keeps P) {route : Route} {off : Nat} {isWrite : Bool} {v : Word} {s : State} (hs : P s) :
    Nxt P (execUnmappedAccess route off isWrite v s) := by
  unfold execUnmappedAccess
  refine nxt_keeps (ite_keeps P (fun _ => ?_) (fun _ => ?_))
  · refine ite_keeps P (fun _ => ?_) (fun _ => ?_)
    · exact hostWrite_keeps K ‹_›
    · assumption
  · refine readBy_keeps K (fun _ _ => ?_) ?_
    · exact hostRead_keeps K ‹_›
    · assumption

end Sys2Proof.Machine
end

