-- ==== Sys2Proof/Laws/State.lean ====
section
/-! SUPPORT. The fields of State under the named updates: one lemma per field per update. -/

namespace Sys2Proof.Machine

variable (s : State)

/-! setR -/
@[simp] theorem setR_regs (off : Nat) (v : Word) : (setR off v s).regs = tabSet regReset s.regs off v := rfl
@[simp] theorem setR_unpred (off : Nat) (v : Word) : (setR off v s).unpred = s.unpred := rfl
@[simp] theorem setR_hostData (off : Nat) (v : Word) : (setR off v s).hostData = s.hostData := rfl
@[simp] theorem setR_free (off : Nat) (v : Word) : (setR off v s).free = s.free := rfl
@[simp] theorem setR_sealed (off : Nat) (v : Word) : (setR off v s).sealed = s.sealed := rfl
@[simp] theorem setR_fitS0 (off : Nat) (v : Word) : (setR off v s).fitS0 = s.fitS0 := rfl
@[simp] theorem setR_sys (off : Nat) (v : Word) : (setR off v s).sys = s.sys := rfl
@[simp] theorem setR_img (off : Nat) (v : Word) : (setR off v s).img = s.img := rfl
@[simp] theorem setR_port (off : Nat) (v : Word) : (setR off v s).port = s.port := rfl
@[simp] theorem setR_dma0 (off : Nat) (v : Word) : (setR off v s).dma0 = s.dma0 := rfl
@[simp] theorem setR_dma1 (off : Nat) (v : Word) : (setR off v s).dma1 = s.dma1 := rfl
@[simp] theorem setR_dma2 (off : Nat) (v : Word) : (setR off v s).dma2 = s.dma2 := rfl
@[simp] theorem setR_dma3 (off : Nat) (v : Word) : (setR off v s).dma3 = s.dma3 := rfl
@[simp] theorem setR_intc (off : Nat) (v : Word) : (setR off v s).intc = s.intc := rfl
@[simp] theorem setR_drv (off : Nat) (v : Word) : (setR off v s).drv = s.drv := rfl
@[simp] theorem setR_chain (off : Nat) (v : Word) : (setR off v s).chain = s.chain := rfl
@[simp] theorem setR_rfx (off : Nat) (v : Word) : (setR off v s).rfx = s.rfx := rfl
@[simp] theorem setR_cal (off : Nat) (v : Word) : (setR off v s).cal = s.cal := rfl
@[simp] theorem setR_mtr (off : Nat) (v : Word) : (setR off v s).mtr = s.mtr := rfl
@[simp] theorem setR_net (off : Nat) (v : Word) : (setR off v s).net = s.net := rfl
@[simp] theorem setR_tsu (off : Nat) (v : Word) : (setR off v s).tsu = s.tsu := rfl
@[simp] theorem setR_air (off : Nat) (v : Word) : (setR off v s).air = s.air := rfl
@[simp] theorem setR_key (off : Nat) (v : Word) : (setR off v s).key = s.key := rfl
@[simp] theorem setR_upd (off : Nat) (v : Word) : (setR off v s).upd = s.upd := rfl
@[simp] theorem setR_hier (off : Nat) (v : Word) : (setR off v s).hier = s.hier := rfl
@[simp] theorem setR_pln (off : Nat) (v : Word) : (setR off v s).pln = s.pln := rfl
@[simp] theorem setR_twn (off : Nat) (v : Word) : (setR off v s).twn = s.twn := rfl
@[simp] theorem setR_tstHalf (off : Nat) (v : Word) : (setR off v s).tstHalf = s.tstHalf := rfl
@[simp] theorem setR_tstSeen (off : Nat) (v : Word) : (setR off v s).tstSeen = s.tstSeen := rfl
@[simp] theorem setR_tstDone (off : Nat) (v : Word) : (setR off v s).tstDone = s.tstDone := rfl
@[simp] theorem setR_out (off : Nat) (v : Word) : (setR off v s).out = s.out := rfl
@[simp] theorem setR_pending (off : Nat) (v : Word) : (setR off v s).pending = s.pending := rfl

/-! setF -/
@[simp] theorem setF_regs (f : Fld) (v : Nat) : (setF f v s).regs = tabSet regReset s.regs f.off (putBits (getR s f.off) f.lo f.w v) := rfl
@[simp] theorem setF_unpred (f : Fld) (v : Nat) : (setF f v s).unpred = s.unpred := rfl
@[simp] theorem setF_hostData (f : Fld) (v : Nat) : (setF f v s).hostData = s.hostData := rfl
@[simp] theorem setF_free (f : Fld) (v : Nat) : (setF f v s).free = s.free := rfl
@[simp] theorem setF_sealed (f : Fld) (v : Nat) : (setF f v s).sealed = s.sealed := rfl
@[simp] theorem setF_fitS0 (f : Fld) (v : Nat) : (setF f v s).fitS0 = s.fitS0 := rfl
@[simp] theorem setF_sys (f : Fld) (v : Nat) : (setF f v s).sys = s.sys := rfl
@[simp] theorem setF_img (f : Fld) (v : Nat) : (setF f v s).img = s.img := rfl
@[simp] theorem setF_port (f : Fld) (v : Nat) : (setF f v s).port = s.port := rfl
@[simp] theorem setF_dma0 (f : Fld) (v : Nat) : (setF f v s).dma0 = s.dma0 := rfl
@[simp] theorem setF_dma1 (f : Fld) (v : Nat) : (setF f v s).dma1 = s.dma1 := rfl
@[simp] theorem setF_dma2 (f : Fld) (v : Nat) : (setF f v s).dma2 = s.dma2 := rfl
@[simp] theorem setF_dma3 (f : Fld) (v : Nat) : (setF f v s).dma3 = s.dma3 := rfl
@[simp] theorem setF_intc (f : Fld) (v : Nat) : (setF f v s).intc = s.intc := rfl
@[simp] theorem setF_drv (f : Fld) (v : Nat) : (setF f v s).drv = s.drv := rfl
@[simp] theorem setF_chain (f : Fld) (v : Nat) : (setF f v s).chain = s.chain := rfl
@[simp] theorem setF_rfx (f : Fld) (v : Nat) : (setF f v s).rfx = s.rfx := rfl
@[simp] theorem setF_cal (f : Fld) (v : Nat) : (setF f v s).cal = s.cal := rfl
@[simp] theorem setF_mtr (f : Fld) (v : Nat) : (setF f v s).mtr = s.mtr := rfl
@[simp] theorem setF_net (f : Fld) (v : Nat) : (setF f v s).net = s.net := rfl
@[simp] theorem setF_tsu (f : Fld) (v : Nat) : (setF f v s).tsu = s.tsu := rfl
@[simp] theorem setF_air (f : Fld) (v : Nat) : (setF f v s).air = s.air := rfl
@[simp] theorem setF_key (f : Fld) (v : Nat) : (setF f v s).key = s.key := rfl
@[simp] theorem setF_upd (f : Fld) (v : Nat) : (setF f v s).upd = s.upd := rfl
@[simp] theorem setF_hier (f : Fld) (v : Nat) : (setF f v s).hier = s.hier := rfl
@[simp] theorem setF_pln (f : Fld) (v : Nat) : (setF f v s).pln = s.pln := rfl
@[simp] theorem setF_twn (f : Fld) (v : Nat) : (setF f v s).twn = s.twn := rfl
@[simp] theorem setF_tstHalf (f : Fld) (v : Nat) : (setF f v s).tstHalf = s.tstHalf := rfl
@[simp] theorem setF_tstSeen (f : Fld) (v : Nat) : (setF f v s).tstSeen = s.tstSeen := rfl
@[simp] theorem setF_tstDone (f : Fld) (v : Nat) : (setF f v s).tstDone = s.tstDone := rfl
@[simp] theorem setF_out (f : Fld) (v : Nat) : (setF f v s).out = s.out := rfl
@[simp] theorem setF_pending (f : Fld) (v : Nat) : (setF f v s).pending = s.pending := rfl

/-! setB -/
@[simp] theorem setB_regs (f : Fld) (b : Bool) : (setB f b s).regs = tabSet regReset s.regs f.off (putBits (getR s f.off) f.lo f.w (b2n b)) := rfl
@[simp] theorem setB_unpred (f : Fld) (b : Bool) : (setB f b s).unpred = s.unpred := rfl
@[simp] theorem setB_hostData (f : Fld) (b : Bool) : (setB f b s).hostData = s.hostData := rfl
@[simp] theorem setB_free (f : Fld) (b : Bool) : (setB f b s).free = s.free := rfl
@[simp] theorem setB_sealed (f : Fld) (b : Bool) : (setB f b s).sealed = s.sealed := rfl
@[simp] theorem setB_fitS0 (f : Fld) (b : Bool) : (setB f b s).fitS0 = s.fitS0 := rfl
@[simp] theorem setB_sys (f : Fld) (b : Bool) : (setB f b s).sys = s.sys := rfl
@[simp] theorem setB_img (f : Fld) (b : Bool) : (setB f b s).img = s.img := rfl
@[simp] theorem setB_port (f : Fld) (b : Bool) : (setB f b s).port = s.port := rfl
@[simp] theorem setB_dma0 (f : Fld) (b : Bool) : (setB f b s).dma0 = s.dma0 := rfl
@[simp] theorem setB_dma1 (f : Fld) (b : Bool) : (setB f b s).dma1 = s.dma1 := rfl
@[simp] theorem setB_dma2 (f : Fld) (b : Bool) : (setB f b s).dma2 = s.dma2 := rfl
@[simp] theorem setB_dma3 (f : Fld) (b : Bool) : (setB f b s).dma3 = s.dma3 := rfl
@[simp] theorem setB_intc (f : Fld) (b : Bool) : (setB f b s).intc = s.intc := rfl
@[simp] theorem setB_drv (f : Fld) (b : Bool) : (setB f b s).drv = s.drv := rfl
@[simp] theorem setB_chain (f : Fld) (b : Bool) : (setB f b s).chain = s.chain := rfl
@[simp] theorem setB_rfx (f : Fld) (b : Bool) : (setB f b s).rfx = s.rfx := rfl
@[simp] theorem setB_cal (f : Fld) (b : Bool) : (setB f b s).cal = s.cal := rfl
@[simp] theorem setB_mtr (f : Fld) (b : Bool) : (setB f b s).mtr = s.mtr := rfl
@[simp] theorem setB_net (f : Fld) (b : Bool) : (setB f b s).net = s.net := rfl
@[simp] theorem setB_tsu (f : Fld) (b : Bool) : (setB f b s).tsu = s.tsu := rfl
@[simp] theorem setB_air (f : Fld) (b : Bool) : (setB f b s).air = s.air := rfl
@[simp] theorem setB_key (f : Fld) (b : Bool) : (setB f b s).key = s.key := rfl
@[simp] theorem setB_upd (f : Fld) (b : Bool) : (setB f b s).upd = s.upd := rfl
@[simp] theorem setB_hier (f : Fld) (b : Bool) : (setB f b s).hier = s.hier := rfl
@[simp] theorem setB_pln (f : Fld) (b : Bool) : (setB f b s).pln = s.pln := rfl
@[simp] theorem setB_twn (f : Fld) (b : Bool) : (setB f b s).twn = s.twn := rfl
@[simp] theorem setB_tstHalf (f : Fld) (b : Bool) : (setB f b s).tstHalf = s.tstHalf := rfl
@[simp] theorem setB_tstSeen (f : Fld) (b : Bool) : (setB f b s).tstSeen = s.tstSeen := rfl
@[simp] theorem setB_tstDone (f : Fld) (b : Bool) : (setB f b s).tstDone = s.tstDone := rfl
@[simp] theorem setB_out (f : Fld) (b : Bool) : (setB f b s).out = s.out := rfl
@[simp] theorem setB_pending (f : Fld) (b : Bool) : (setB f b s).pending = s.pending := rfl

/-! addF -/
@[simp] theorem addF_unpred (f : Fld) (k : Nat) : (addF f k s).unpred = s.unpred := rfl
@[simp] theorem addF_hostData (f : Fld) (k : Nat) : (addF f k s).hostData = s.hostData := rfl
@[simp] theorem addF_free (f : Fld) (k : Nat) : (addF f k s).free = s.free := rfl
@[simp] theorem addF_sealed (f : Fld) (k : Nat) : (addF f k s).sealed = s.sealed := rfl
@[simp] theorem addF_fitS0 (f : Fld) (k : Nat) : (addF f k s).fitS0 = s.fitS0 := rfl
@[simp] theorem addF_sys (f : Fld) (k : Nat) : (addF f k s).sys = s.sys := rfl
@[simp] theorem addF_img (f : Fld) (k : Nat) : (addF f k s).img = s.img := rfl
@[simp] theorem addF_port (f : Fld) (k : Nat) : (addF f k s).port = s.port := rfl
@[simp] theorem addF_dma0 (f : Fld) (k : Nat) : (addF f k s).dma0 = s.dma0 := rfl
@[simp] theorem addF_dma1 (f : Fld) (k : Nat) : (addF f k s).dma1 = s.dma1 := rfl
@[simp] theorem addF_dma2 (f : Fld) (k : Nat) : (addF f k s).dma2 = s.dma2 := rfl
@[simp] theorem addF_dma3 (f : Fld) (k : Nat) : (addF f k s).dma3 = s.dma3 := rfl
@[simp] theorem addF_intc (f : Fld) (k : Nat) : (addF f k s).intc = s.intc := rfl
@[simp] theorem addF_drv (f : Fld) (k : Nat) : (addF f k s).drv = s.drv := rfl
@[simp] theorem addF_chain (f : Fld) (k : Nat) : (addF f k s).chain = s.chain := rfl
@[simp] theorem addF_rfx (f : Fld) (k : Nat) : (addF f k s).rfx = s.rfx := rfl
@[simp] theorem addF_cal (f : Fld) (k : Nat) : (addF f k s).cal = s.cal := rfl
@[simp] theorem addF_mtr (f : Fld) (k : Nat) : (addF f k s).mtr = s.mtr := rfl
@[simp] theorem addF_net (f : Fld) (k : Nat) : (addF f k s).net = s.net := rfl
@[simp] theorem addF_tsu (f : Fld) (k : Nat) : (addF f k s).tsu = s.tsu := rfl
@[simp] theorem addF_air (f : Fld) (k : Nat) : (addF f k s).air = s.air := rfl
@[simp] theorem addF_key (f : Fld) (k : Nat) : (addF f k s).key = s.key := rfl
@[simp] theorem addF_upd (f : Fld) (k : Nat) : (addF f k s).upd = s.upd := rfl
@[simp] theorem addF_hier (f : Fld) (k : Nat) : (addF f k s).hier = s.hier := rfl
@[simp] theorem addF_pln (f : Fld) (k : Nat) : (addF f k s).pln = s.pln := rfl
@[simp] theorem addF_twn (f : Fld) (k : Nat) : (addF f k s).twn = s.twn := rfl
@[simp] theorem addF_tstHalf (f : Fld) (k : Nat) : (addF f k s).tstHalf = s.tstHalf := rfl
@[simp] theorem addF_tstSeen (f : Fld) (k : Nat) : (addF f k s).tstSeen = s.tstSeen := rfl
@[simp] theorem addF_tstDone (f : Fld) (k : Nat) : (addF f k s).tstDone = s.tstDone := rfl
@[simp] theorem addF_out (f : Fld) (k : Nat) : (addF f k s).out = s.out := rfl
@[simp] theorem addF_pending (f : Fld) (k : Nat) : (addF f k s).pending = s.pending := rfl

/-! bump -/
@[simp] theorem bump_unpred (off : Nat) : (bump off s).unpred = s.unpred := rfl
@[simp] theorem bump_hostData (off : Nat) : (bump off s).hostData = s.hostData := rfl
@[simp] theorem bump_free (off : Nat) : (bump off s).free = s.free := rfl
@[simp] theorem bump_sealed (off : Nat) : (bump off s).sealed = s.sealed := rfl
@[simp] theorem bump_fitS0 (off : Nat) : (bump off s).fitS0 = s.fitS0 := rfl
@[simp] theorem bump_sys (off : Nat) : (bump off s).sys = s.sys := rfl
@[simp] theorem bump_img (off : Nat) : (bump off s).img = s.img := rfl
@[simp] theorem bump_port (off : Nat) : (bump off s).port = s.port := rfl
@[simp] theorem bump_dma0 (off : Nat) : (bump off s).dma0 = s.dma0 := rfl
@[simp] theorem bump_dma1 (off : Nat) : (bump off s).dma1 = s.dma1 := rfl
@[simp] theorem bump_dma2 (off : Nat) : (bump off s).dma2 = s.dma2 := rfl
@[simp] theorem bump_dma3 (off : Nat) : (bump off s).dma3 = s.dma3 := rfl
@[simp] theorem bump_intc (off : Nat) : (bump off s).intc = s.intc := rfl
@[simp] theorem bump_drv (off : Nat) : (bump off s).drv = s.drv := rfl
@[simp] theorem bump_chain (off : Nat) : (bump off s).chain = s.chain := rfl
@[simp] theorem bump_rfx (off : Nat) : (bump off s).rfx = s.rfx := rfl
@[simp] theorem bump_cal (off : Nat) : (bump off s).cal = s.cal := rfl
@[simp] theorem bump_mtr (off : Nat) : (bump off s).mtr = s.mtr := rfl
@[simp] theorem bump_net (off : Nat) : (bump off s).net = s.net := rfl
@[simp] theorem bump_tsu (off : Nat) : (bump off s).tsu = s.tsu := rfl
@[simp] theorem bump_air (off : Nat) : (bump off s).air = s.air := rfl
@[simp] theorem bump_key (off : Nat) : (bump off s).key = s.key := rfl
@[simp] theorem bump_upd (off : Nat) : (bump off s).upd = s.upd := rfl
@[simp] theorem bump_hier (off : Nat) : (bump off s).hier = s.hier := rfl
@[simp] theorem bump_pln (off : Nat) : (bump off s).pln = s.pln := rfl
@[simp] theorem bump_twn (off : Nat) : (bump off s).twn = s.twn := rfl
@[simp] theorem bump_tstHalf (off : Nat) : (bump off s).tstHalf = s.tstHalf := rfl
@[simp] theorem bump_tstSeen (off : Nat) : (bump off s).tstSeen = s.tstSeen := rfl
@[simp] theorem bump_tstDone (off : Nat) : (bump off s).tstDone = s.tstDone := rfl
@[simp] theorem bump_out (off : Nat) : (bump off s).out = s.out := rfl
@[simp] theorem bump_pending (off : Nat) : (bump off s).pending = s.pending := rfl

/-! bumpBy -/
@[simp] theorem bumpBy_unpred (off k : Nat) : (bumpBy off k s).unpred = s.unpred := rfl
@[simp] theorem bumpBy_hostData (off k : Nat) : (bumpBy off k s).hostData = s.hostData := rfl
@[simp] theorem bumpBy_free (off k : Nat) : (bumpBy off k s).free = s.free := rfl
@[simp] theorem bumpBy_sealed (off k : Nat) : (bumpBy off k s).sealed = s.sealed := rfl
@[simp] theorem bumpBy_fitS0 (off k : Nat) : (bumpBy off k s).fitS0 = s.fitS0 := rfl
@[simp] theorem bumpBy_sys (off k : Nat) : (bumpBy off k s).sys = s.sys := rfl
@[simp] theorem bumpBy_img (off k : Nat) : (bumpBy off k s).img = s.img := rfl
@[simp] theorem bumpBy_port (off k : Nat) : (bumpBy off k s).port = s.port := rfl
@[simp] theorem bumpBy_dma0 (off k : Nat) : (bumpBy off k s).dma0 = s.dma0 := rfl
@[simp] theorem bumpBy_dma1 (off k : Nat) : (bumpBy off k s).dma1 = s.dma1 := rfl
@[simp] theorem bumpBy_dma2 (off k : Nat) : (bumpBy off k s).dma2 = s.dma2 := rfl
@[simp] theorem bumpBy_dma3 (off k : Nat) : (bumpBy off k s).dma3 = s.dma3 := rfl
@[simp] theorem bumpBy_intc (off k : Nat) : (bumpBy off k s).intc = s.intc := rfl
@[simp] theorem bumpBy_drv (off k : Nat) : (bumpBy off k s).drv = s.drv := rfl
@[simp] theorem bumpBy_chain (off k : Nat) : (bumpBy off k s).chain = s.chain := rfl
@[simp] theorem bumpBy_rfx (off k : Nat) : (bumpBy off k s).rfx = s.rfx := rfl
@[simp] theorem bumpBy_cal (off k : Nat) : (bumpBy off k s).cal = s.cal := rfl
@[simp] theorem bumpBy_mtr (off k : Nat) : (bumpBy off k s).mtr = s.mtr := rfl
@[simp] theorem bumpBy_net (off k : Nat) : (bumpBy off k s).net = s.net := rfl
@[simp] theorem bumpBy_tsu (off k : Nat) : (bumpBy off k s).tsu = s.tsu := rfl
@[simp] theorem bumpBy_air (off k : Nat) : (bumpBy off k s).air = s.air := rfl
@[simp] theorem bumpBy_key (off k : Nat) : (bumpBy off k s).key = s.key := rfl
@[simp] theorem bumpBy_upd (off k : Nat) : (bumpBy off k s).upd = s.upd := rfl
@[simp] theorem bumpBy_hier (off k : Nat) : (bumpBy off k s).hier = s.hier := rfl
@[simp] theorem bumpBy_pln (off k : Nat) : (bumpBy off k s).pln = s.pln := rfl
@[simp] theorem bumpBy_twn (off k : Nat) : (bumpBy off k s).twn = s.twn := rfl
@[simp] theorem bumpBy_tstHalf (off k : Nat) : (bumpBy off k s).tstHalf = s.tstHalf := rfl
@[simp] theorem bumpBy_tstSeen (off k : Nat) : (bumpBy off k s).tstSeen = s.tstSeen := rfl
@[simp] theorem bumpBy_tstDone (off k : Nat) : (bumpBy off k s).tstDone = s.tstDone := rfl
@[simp] theorem bumpBy_out (off k : Nat) : (bumpBy off k s).out = s.out := rfl
@[simp] theorem bumpBy_pending (off k : Nat) : (bumpBy off k s).pending = s.pending := rfl

/-! spoilReg -/
@[simp] theorem spoilReg_regs (off : Nat) : (spoilReg off s).regs = s.regs := rfl
@[simp] theorem spoilReg_hostData (off : Nat) : (spoilReg off s).hostData = s.hostData := rfl
@[simp] theorem spoilReg_free (off : Nat) : (spoilReg off s).free = s.free := rfl
@[simp] theorem spoilReg_sealed (off : Nat) : (spoilReg off s).sealed = s.sealed := rfl
@[simp] theorem spoilReg_fitS0 (off : Nat) : (spoilReg off s).fitS0 = s.fitS0 := rfl
@[simp] theorem spoilReg_sys (off : Nat) : (spoilReg off s).sys = s.sys := rfl
@[simp] theorem spoilReg_img (off : Nat) : (spoilReg off s).img = s.img := rfl
@[simp] theorem spoilReg_port (off : Nat) : (spoilReg off s).port = s.port := rfl
@[simp] theorem spoilReg_dma0 (off : Nat) : (spoilReg off s).dma0 = s.dma0 := rfl
@[simp] theorem spoilReg_dma1 (off : Nat) : (spoilReg off s).dma1 = s.dma1 := rfl
@[simp] theorem spoilReg_dma2 (off : Nat) : (spoilReg off s).dma2 = s.dma2 := rfl
@[simp] theorem spoilReg_dma3 (off : Nat) : (spoilReg off s).dma3 = s.dma3 := rfl
@[simp] theorem spoilReg_intc (off : Nat) : (spoilReg off s).intc = s.intc := rfl
@[simp] theorem spoilReg_drv (off : Nat) : (spoilReg off s).drv = s.drv := rfl
@[simp] theorem spoilReg_chain (off : Nat) : (spoilReg off s).chain = s.chain := rfl
@[simp] theorem spoilReg_rfx (off : Nat) : (spoilReg off s).rfx = s.rfx := rfl
@[simp] theorem spoilReg_cal (off : Nat) : (spoilReg off s).cal = s.cal := rfl
@[simp] theorem spoilReg_mtr (off : Nat) : (spoilReg off s).mtr = s.mtr := rfl
@[simp] theorem spoilReg_net (off : Nat) : (spoilReg off s).net = s.net := rfl
@[simp] theorem spoilReg_tsu (off : Nat) : (spoilReg off s).tsu = s.tsu := rfl
@[simp] theorem spoilReg_air (off : Nat) : (spoilReg off s).air = s.air := rfl
@[simp] theorem spoilReg_key (off : Nat) : (spoilReg off s).key = s.key := rfl
@[simp] theorem spoilReg_upd (off : Nat) : (spoilReg off s).upd = s.upd := rfl
@[simp] theorem spoilReg_hier (off : Nat) : (spoilReg off s).hier = s.hier := rfl
@[simp] theorem spoilReg_pln (off : Nat) : (spoilReg off s).pln = s.pln := rfl
@[simp] theorem spoilReg_twn (off : Nat) : (spoilReg off s).twn = s.twn := rfl
@[simp] theorem spoilReg_tstHalf (off : Nat) : (spoilReg off s).tstHalf = s.tstHalf := rfl
@[simp] theorem spoilReg_tstSeen (off : Nat) : (spoilReg off s).tstSeen = s.tstSeen := rfl
@[simp] theorem spoilReg_tstDone (off : Nat) : (spoilReg off s).tstDone = s.tstDone := rfl
@[simp] theorem spoilReg_out (off : Nat) : (spoilReg off s).out = s.out := rfl
@[simp] theorem spoilReg_pending (off : Nat) : (spoilReg off s).pending = s.pending := rfl

/-! spoilLong -/
@[simp] theorem spoilLong_regs (off mask : Nat) : (spoilLong off mask s).regs = s.regs := rfl
@[simp] theorem spoilLong_hostData (off mask : Nat) : (spoilLong off mask s).hostData = s.hostData := rfl
@[simp] theorem spoilLong_free (off mask : Nat) : (spoilLong off mask s).free = s.free := rfl
@[simp] theorem spoilLong_sealed (off mask : Nat) : (spoilLong off mask s).sealed = s.sealed := rfl
@[simp] theorem spoilLong_fitS0 (off mask : Nat) : (spoilLong off mask s).fitS0 = s.fitS0 := rfl
@[simp] theorem spoilLong_sys (off mask : Nat) : (spoilLong off mask s).sys = s.sys := rfl
@[simp] theorem spoilLong_img (off mask : Nat) : (spoilLong off mask s).img = s.img := rfl
@[simp] theorem spoilLong_port (off mask : Nat) : (spoilLong off mask s).port = s.port := rfl
@[simp] theorem spoilLong_dma0 (off mask : Nat) : (spoilLong off mask s).dma0 = s.dma0 := rfl
@[simp] theorem spoilLong_dma1 (off mask : Nat) : (spoilLong off mask s).dma1 = s.dma1 := rfl
@[simp] theorem spoilLong_dma2 (off mask : Nat) : (spoilLong off mask s).dma2 = s.dma2 := rfl
@[simp] theorem spoilLong_dma3 (off mask : Nat) : (spoilLong off mask s).dma3 = s.dma3 := rfl
@[simp] theorem spoilLong_intc (off mask : Nat) : (spoilLong off mask s).intc = s.intc := rfl
@[simp] theorem spoilLong_drv (off mask : Nat) : (spoilLong off mask s).drv = s.drv := rfl
@[simp] theorem spoilLong_chain (off mask : Nat) : (spoilLong off mask s).chain = s.chain := rfl
@[simp] theorem spoilLong_rfx (off mask : Nat) : (spoilLong off mask s).rfx = s.rfx := rfl
@[simp] theorem spoilLong_cal (off mask : Nat) : (spoilLong off mask s).cal = s.cal := rfl
@[simp] theorem spoilLong_mtr (off mask : Nat) : (spoilLong off mask s).mtr = s.mtr := rfl
@[simp] theorem spoilLong_net (off mask : Nat) : (spoilLong off mask s).net = s.net := rfl
@[simp] theorem spoilLong_tsu (off mask : Nat) : (spoilLong off mask s).tsu = s.tsu := rfl
@[simp] theorem spoilLong_air (off mask : Nat) : (spoilLong off mask s).air = s.air := rfl
@[simp] theorem spoilLong_key (off mask : Nat) : (spoilLong off mask s).key = s.key := rfl
@[simp] theorem spoilLong_upd (off mask : Nat) : (spoilLong off mask s).upd = s.upd := rfl
@[simp] theorem spoilLong_hier (off mask : Nat) : (spoilLong off mask s).hier = s.hier := rfl
@[simp] theorem spoilLong_pln (off mask : Nat) : (spoilLong off mask s).pln = s.pln := rfl
@[simp] theorem spoilLong_twn (off mask : Nat) : (spoilLong off mask s).twn = s.twn := rfl
@[simp] theorem spoilLong_tstHalf (off mask : Nat) : (spoilLong off mask s).tstHalf = s.tstHalf := rfl
@[simp] theorem spoilLong_tstSeen (off mask : Nat) : (spoilLong off mask s).tstSeen = s.tstSeen := rfl
@[simp] theorem spoilLong_tstDone (off mask : Nat) : (spoilLong off mask s).tstDone = s.tstDone := rfl
@[simp] theorem spoilLong_out (off mask : Nat) : (spoilLong off mask s).out = s.out := rfl
@[simp] theorem spoilLong_pending (off mask : Nat) : (spoilLong off mask s).pending = s.pending := rfl

/-! unspoilLong -/
@[simp] theorem unspoilLong_regs (off : Nat) : (unspoilLong off s).regs = s.regs := rfl
@[simp] theorem unspoilLong_hostData (off : Nat) : (unspoilLong off s).hostData = s.hostData := rfl
@[simp] theorem unspoilLong_free (off : Nat) : (unspoilLong off s).free = s.free := rfl
@[simp] theorem unspoilLong_sealed (off : Nat) : (unspoilLong off s).sealed = s.sealed := rfl
@[simp] theorem unspoilLong_fitS0 (off : Nat) : (unspoilLong off s).fitS0 = s.fitS0 := rfl
@[simp] theorem unspoilLong_sys (off : Nat) : (unspoilLong off s).sys = s.sys := rfl
@[simp] theorem unspoilLong_img (off : Nat) : (unspoilLong off s).img = s.img := rfl
@[simp] theorem unspoilLong_port (off : Nat) : (unspoilLong off s).port = s.port := rfl
@[simp] theorem unspoilLong_dma0 (off : Nat) : (unspoilLong off s).dma0 = s.dma0 := rfl
@[simp] theorem unspoilLong_dma1 (off : Nat) : (unspoilLong off s).dma1 = s.dma1 := rfl
@[simp] theorem unspoilLong_dma2 (off : Nat) : (unspoilLong off s).dma2 = s.dma2 := rfl
@[simp] theorem unspoilLong_dma3 (off : Nat) : (unspoilLong off s).dma3 = s.dma3 := rfl
@[simp] theorem unspoilLong_intc (off : Nat) : (unspoilLong off s).intc = s.intc := rfl
@[simp] theorem unspoilLong_drv (off : Nat) : (unspoilLong off s).drv = s.drv := rfl
@[simp] theorem unspoilLong_chain (off : Nat) : (unspoilLong off s).chain = s.chain := rfl
@[simp] theorem unspoilLong_rfx (off : Nat) : (unspoilLong off s).rfx = s.rfx := rfl
@[simp] theorem unspoilLong_cal (off : Nat) : (unspoilLong off s).cal = s.cal := rfl
@[simp] theorem unspoilLong_mtr (off : Nat) : (unspoilLong off s).mtr = s.mtr := rfl
@[simp] theorem unspoilLong_net (off : Nat) : (unspoilLong off s).net = s.net := rfl
@[simp] theorem unspoilLong_tsu (off : Nat) : (unspoilLong off s).tsu = s.tsu := rfl
@[simp] theorem unspoilLong_air (off : Nat) : (unspoilLong off s).air = s.air := rfl
@[simp] theorem unspoilLong_key (off : Nat) : (unspoilLong off s).key = s.key := rfl
@[simp] theorem unspoilLong_upd (off : Nat) : (unspoilLong off s).upd = s.upd := rfl
@[simp] theorem unspoilLong_hier (off : Nat) : (unspoilLong off s).hier = s.hier := rfl
@[simp] theorem unspoilLong_pln (off : Nat) : (unspoilLong off s).pln = s.pln := rfl
@[simp] theorem unspoilLong_twn (off : Nat) : (unspoilLong off s).twn = s.twn := rfl
@[simp] theorem unspoilLong_tstHalf (off : Nat) : (unspoilLong off s).tstHalf = s.tstHalf := rfl
@[simp] theorem unspoilLong_tstSeen (off : Nat) : (unspoilLong off s).tstSeen = s.tstSeen := rfl
@[simp] theorem unspoilLong_tstDone (off : Nat) : (unspoilLong off s).tstDone = s.tstDone := rfl
@[simp] theorem unspoilLong_out (off : Nat) : (unspoilLong off s).out = s.out := rfl
@[simp] theorem unspoilLong_pending (off : Nat) : (unspoilLong off s).pending = s.pending := rfl

/-! drawn -/
@[simp] theorem drawn_regs : (drawn s).regs = s.regs := rfl
@[simp] theorem drawn_unpred : (drawn s).unpred = s.unpred := rfl
@[simp] theorem drawn_hostData : (drawn s).hostData = s.hostData := rfl
@[simp] theorem drawn_free : (drawn s).free = s.free + 1 := rfl
@[simp] theorem drawn_sealed : (drawn s).sealed = s.sealed := rfl
@[simp] theorem drawn_fitS0 : (drawn s).fitS0 = s.fitS0 := rfl
@[simp] theorem drawn_sys : (drawn s).sys = s.sys := rfl
@[simp] theorem drawn_img : (drawn s).img = s.img := rfl
@[simp] theorem drawn_port : (drawn s).port = s.port := rfl
@[simp] theorem drawn_dma0 : (drawn s).dma0 = s.dma0 := rfl
@[simp] theorem drawn_dma1 : (drawn s).dma1 = s.dma1 := rfl
@[simp] theorem drawn_dma2 : (drawn s).dma2 = s.dma2 := rfl
@[simp] theorem drawn_dma3 : (drawn s).dma3 = s.dma3 := rfl
@[simp] theorem drawn_intc : (drawn s).intc = s.intc := rfl
@[simp] theorem drawn_drv : (drawn s).drv = s.drv := rfl
@[simp] theorem drawn_chain : (drawn s).chain = s.chain := rfl
@[simp] theorem drawn_rfx : (drawn s).rfx = s.rfx := rfl
@[simp] theorem drawn_cal : (drawn s).cal = s.cal := rfl
@[simp] theorem drawn_mtr : (drawn s).mtr = s.mtr := rfl
@[simp] theorem drawn_net : (drawn s).net = s.net := rfl
@[simp] theorem drawn_tsu : (drawn s).tsu = s.tsu := rfl
@[simp] theorem drawn_air : (drawn s).air = s.air := rfl
@[simp] theorem drawn_key : (drawn s).key = s.key := rfl
@[simp] theorem drawn_upd : (drawn s).upd = s.upd := rfl
@[simp] theorem drawn_hier : (drawn s).hier = s.hier := rfl
@[simp] theorem drawn_pln : (drawn s).pln = s.pln := rfl
@[simp] theorem drawn_twn : (drawn s).twn = s.twn := rfl
@[simp] theorem drawn_tstHalf : (drawn s).tstHalf = s.tstHalf := rfl
@[simp] theorem drawn_tstSeen : (drawn s).tstSeen = s.tstSeen := rfl
@[simp] theorem drawn_tstDone : (drawn s).tstDone = s.tstDone := rfl
@[simp] theorem drawn_out : (drawn s).out = s.out := rfl
@[simp] theorem drawn_pending : (drawn s).pending = s.pending := rfl

/-! emit -/
@[simp] theorem emit_regs (o : Output) : (emit o s).regs = s.regs := rfl
@[simp] theorem emit_unpred (o : Output) : (emit o s).unpred = s.unpred := rfl
@[simp] theorem emit_hostData (o : Output) : (emit o s).hostData = s.hostData := rfl
@[simp] theorem emit_free (o : Output) : (emit o s).free = s.free := rfl
@[simp] theorem emit_sealed (o : Output) : (emit o s).sealed = s.sealed := rfl
@[simp] theorem emit_fitS0 (o : Output) : (emit o s).fitS0 = s.fitS0 := rfl
@[simp] theorem emit_sys (o : Output) : (emit o s).sys = s.sys := rfl
@[simp] theorem emit_img (o : Output) : (emit o s).img = s.img := rfl
@[simp] theorem emit_port (o : Output) : (emit o s).port = s.port := rfl
@[simp] theorem emit_dma0 (o : Output) : (emit o s).dma0 = s.dma0 := rfl
@[simp] theorem emit_dma1 (o : Output) : (emit o s).dma1 = s.dma1 := rfl
@[simp] theorem emit_dma2 (o : Output) : (emit o s).dma2 = s.dma2 := rfl
@[simp] theorem emit_dma3 (o : Output) : (emit o s).dma3 = s.dma3 := rfl
@[simp] theorem emit_intc (o : Output) : (emit o s).intc = s.intc := rfl
@[simp] theorem emit_drv (o : Output) : (emit o s).drv = s.drv := rfl
@[simp] theorem emit_chain (o : Output) : (emit o s).chain = s.chain := rfl
@[simp] theorem emit_rfx (o : Output) : (emit o s).rfx = s.rfx := rfl
@[simp] theorem emit_cal (o : Output) : (emit o s).cal = s.cal := rfl
@[simp] theorem emit_mtr (o : Output) : (emit o s).mtr = s.mtr := rfl
@[simp] theorem emit_net (o : Output) : (emit o s).net = s.net := rfl
@[simp] theorem emit_tsu (o : Output) : (emit o s).tsu = s.tsu := rfl
@[simp] theorem emit_air (o : Output) : (emit o s).air = s.air := rfl
@[simp] theorem emit_key (o : Output) : (emit o s).key = s.key := rfl
@[simp] theorem emit_upd (o : Output) : (emit o s).upd = s.upd := rfl
@[simp] theorem emit_hier (o : Output) : (emit o s).hier = s.hier := rfl
@[simp] theorem emit_pln (o : Output) : (emit o s).pln = s.pln := rfl
@[simp] theorem emit_twn (o : Output) : (emit o s).twn = s.twn := rfl
@[simp] theorem emit_tstHalf (o : Output) : (emit o s).tstHalf = s.tstHalf := rfl
@[simp] theorem emit_tstSeen (o : Output) : (emit o s).tstSeen = s.tstSeen := rfl
@[simp] theorem emit_tstDone (o : Output) : (emit o s).tstDone = s.tstDone := rfl
@[simp] theorem emit_out (o : Output) : (emit o s).out = o :: s.out := rfl
@[simp] theorem emit_pending (o : Output) : (emit o s).pending = s.pending := rfl

/-! spoil -/
@[simp] theorem spoil_regs (off mask : Nat) : (spoil off mask s).regs = s.regs := rfl
@[simp] theorem spoil_unpred (off mask : Nat) : (spoil off mask s).unpred = tabSet (fun _ => 0) s.unpred off (tabGet (fun _ => 0) s.unpred off ||| w32 mask) := rfl
@[simp] theorem spoil_hostData (off mask : Nat) : (spoil off mask s).hostData = s.hostData := rfl
@[simp] theorem spoil_free (off mask : Nat) : (spoil off mask s).free = s.free := rfl
@[simp] theorem spoil_sealed (off mask : Nat) : (spoil off mask s).sealed = s.sealed := rfl
@[simp] theorem spoil_fitS0 (off mask : Nat) : (spoil off mask s).fitS0 = s.fitS0 := rfl
@[simp] theorem spoil_sys (off mask : Nat) : (spoil off mask s).sys = s.sys := rfl
@[simp] theorem spoil_img (off mask : Nat) : (spoil off mask s).img = s.img := rfl
@[simp] theorem spoil_port (off mask : Nat) : (spoil off mask s).port = s.port := rfl
@[simp] theorem spoil_dma0 (off mask : Nat) : (spoil off mask s).dma0 = s.dma0 := rfl
@[simp] theorem spoil_dma1 (off mask : Nat) : (spoil off mask s).dma1 = s.dma1 := rfl
@[simp] theorem spoil_dma2 (off mask : Nat) : (spoil off mask s).dma2 = s.dma2 := rfl
@[simp] theorem spoil_dma3 (off mask : Nat) : (spoil off mask s).dma3 = s.dma3 := rfl
@[simp] theorem spoil_intc (off mask : Nat) : (spoil off mask s).intc = s.intc := rfl
@[simp] theorem spoil_drv (off mask : Nat) : (spoil off mask s).drv = s.drv := rfl
@[simp] theorem spoil_chain (off mask : Nat) : (spoil off mask s).chain = s.chain := rfl
@[simp] theorem spoil_rfx (off mask : Nat) : (spoil off mask s).rfx = s.rfx := rfl
@[simp] theorem spoil_cal (off mask : Nat) : (spoil off mask s).cal = s.cal := rfl
@[simp] theorem spoil_mtr (off mask : Nat) : (spoil off mask s).mtr = s.mtr := rfl
@[simp] theorem spoil_net (off mask : Nat) : (spoil off mask s).net = s.net := rfl
@[simp] theorem spoil_tsu (off mask : Nat) : (spoil off mask s).tsu = s.tsu := rfl
@[simp] theorem spoil_air (off mask : Nat) : (spoil off mask s).air = s.air := rfl
@[simp] theorem spoil_key (off mask : Nat) : (spoil off mask s).key = s.key := rfl
@[simp] theorem spoil_upd (off mask : Nat) : (spoil off mask s).upd = s.upd := rfl
@[simp] theorem spoil_hier (off mask : Nat) : (spoil off mask s).hier = s.hier := rfl
@[simp] theorem spoil_pln (off mask : Nat) : (spoil off mask s).pln = s.pln := rfl
@[simp] theorem spoil_twn (off mask : Nat) : (spoil off mask s).twn = s.twn := rfl
@[simp] theorem spoil_tstHalf (off mask : Nat) : (spoil off mask s).tstHalf = s.tstHalf := rfl
@[simp] theorem spoil_tstSeen (off mask : Nat) : (spoil off mask s).tstSeen = s.tstSeen := rfl
@[simp] theorem spoil_tstDone (off mask : Nat) : (spoil off mask s).tstDone = s.tstDone := rfl
@[simp] theorem spoil_out (off mask : Nat) : (spoil off mask s).out = s.out := rfl
@[simp] theorem spoil_pending (off mask : Nat) : (spoil off mask s).pending = s.pending := rfl

/-! unspoil -/
@[simp] theorem unspoil_regs (off : Nat) : (unspoil off s).regs = s.regs := rfl
@[simp] theorem unspoil_unpred (off : Nat) : (unspoil off s).unpred = tabSet (fun _ => 0) s.unpred off 0 := rfl
@[simp] theorem unspoil_hostData (off : Nat) : (unspoil off s).hostData = s.hostData := rfl
@[simp] theorem unspoil_free (off : Nat) : (unspoil off s).free = s.free := rfl
@[simp] theorem unspoil_sealed (off : Nat) : (unspoil off s).sealed = s.sealed := rfl
@[simp] theorem unspoil_fitS0 (off : Nat) : (unspoil off s).fitS0 = s.fitS0 := rfl
@[simp] theorem unspoil_sys (off : Nat) : (unspoil off s).sys = s.sys := rfl
@[simp] theorem unspoil_img (off : Nat) : (unspoil off s).img = s.img := rfl
@[simp] theorem unspoil_port (off : Nat) : (unspoil off s).port = s.port := rfl
@[simp] theorem unspoil_dma0 (off : Nat) : (unspoil off s).dma0 = s.dma0 := rfl
@[simp] theorem unspoil_dma1 (off : Nat) : (unspoil off s).dma1 = s.dma1 := rfl
@[simp] theorem unspoil_dma2 (off : Nat) : (unspoil off s).dma2 = s.dma2 := rfl
@[simp] theorem unspoil_dma3 (off : Nat) : (unspoil off s).dma3 = s.dma3 := rfl
@[simp] theorem unspoil_intc (off : Nat) : (unspoil off s).intc = s.intc := rfl
@[simp] theorem unspoil_drv (off : Nat) : (unspoil off s).drv = s.drv := rfl
@[simp] theorem unspoil_chain (off : Nat) : (unspoil off s).chain = s.chain := rfl
@[simp] theorem unspoil_rfx (off : Nat) : (unspoil off s).rfx = s.rfx := rfl
@[simp] theorem unspoil_cal (off : Nat) : (unspoil off s).cal = s.cal := rfl
@[simp] theorem unspoil_mtr (off : Nat) : (unspoil off s).mtr = s.mtr := rfl
@[simp] theorem unspoil_net (off : Nat) : (unspoil off s).net = s.net := rfl
@[simp] theorem unspoil_tsu (off : Nat) : (unspoil off s).tsu = s.tsu := rfl
@[simp] theorem unspoil_air (off : Nat) : (unspoil off s).air = s.air := rfl
@[simp] theorem unspoil_key (off : Nat) : (unspoil off s).key = s.key := rfl
@[simp] theorem unspoil_upd (off : Nat) : (unspoil off s).upd = s.upd := rfl
@[simp] theorem unspoil_hier (off : Nat) : (unspoil off s).hier = s.hier := rfl
@[simp] theorem unspoil_pln (off : Nat) : (unspoil off s).pln = s.pln := rfl
@[simp] theorem unspoil_twn (off : Nat) : (unspoil off s).twn = s.twn := rfl
@[simp] theorem unspoil_tstHalf (off : Nat) : (unspoil off s).tstHalf = s.tstHalf := rfl
@[simp] theorem unspoil_tstSeen (off : Nat) : (unspoil off s).tstSeen = s.tstSeen := rfl
@[simp] theorem unspoil_tstDone (off : Nat) : (unspoil off s).tstDone = s.tstDone := rfl
@[simp] theorem unspoil_out (off : Nat) : (unspoil off s).out = s.out := rfl
@[simp] theorem unspoil_pending (off : Nat) : (unspoil off s).pending = s.pending := rfl

/-! clearRegs -/
@[simp] theorem clearRegs_regs (p : Nat → Bool) : (clearRegs p s).regs = tabClear p s.regs := rfl
@[simp] theorem clearRegs_unpred (p : Nat → Bool) : (clearRegs p s).unpred = tabClear p s.unpred := rfl
@[simp] theorem clearRegs_hostData (p : Nat → Bool) : (clearRegs p s).hostData = s.hostData := rfl
@[simp] theorem clearRegs_free (p : Nat → Bool) : (clearRegs p s).free = s.free := rfl
@[simp] theorem clearRegs_sealed (p : Nat → Bool) : (clearRegs p s).sealed = s.sealed := rfl
@[simp] theorem clearRegs_fitS0 (p : Nat → Bool) : (clearRegs p s).fitS0 = s.fitS0 := rfl
@[simp] theorem clearRegs_sys (p : Nat → Bool) : (clearRegs p s).sys = s.sys := rfl
@[simp] theorem clearRegs_img (p : Nat → Bool) : (clearRegs p s).img = s.img := rfl
@[simp] theorem clearRegs_port (p : Nat → Bool) : (clearRegs p s).port = s.port := rfl
@[simp] theorem clearRegs_dma0 (p : Nat → Bool) : (clearRegs p s).dma0 = s.dma0 := rfl
@[simp] theorem clearRegs_dma1 (p : Nat → Bool) : (clearRegs p s).dma1 = s.dma1 := rfl
@[simp] theorem clearRegs_dma2 (p : Nat → Bool) : (clearRegs p s).dma2 = s.dma2 := rfl
@[simp] theorem clearRegs_dma3 (p : Nat → Bool) : (clearRegs p s).dma3 = s.dma3 := rfl
@[simp] theorem clearRegs_intc (p : Nat → Bool) : (clearRegs p s).intc = s.intc := rfl
@[simp] theorem clearRegs_drv (p : Nat → Bool) : (clearRegs p s).drv = s.drv := rfl
@[simp] theorem clearRegs_chain (p : Nat → Bool) : (clearRegs p s).chain = s.chain := rfl
@[simp] theorem clearRegs_rfx (p : Nat → Bool) : (clearRegs p s).rfx = s.rfx := rfl
@[simp] theorem clearRegs_cal (p : Nat → Bool) : (clearRegs p s).cal = s.cal := rfl
@[simp] theorem clearRegs_mtr (p : Nat → Bool) : (clearRegs p s).mtr = s.mtr := rfl
@[simp] theorem clearRegs_net (p : Nat → Bool) : (clearRegs p s).net = s.net := rfl
@[simp] theorem clearRegs_tsu (p : Nat → Bool) : (clearRegs p s).tsu = s.tsu := rfl
@[simp] theorem clearRegs_air (p : Nat → Bool) : (clearRegs p s).air = s.air := rfl
@[simp] theorem clearRegs_key (p : Nat → Bool) : (clearRegs p s).key = s.key := rfl
@[simp] theorem clearRegs_upd (p : Nat → Bool) : (clearRegs p s).upd = s.upd := rfl
@[simp] theorem clearRegs_hier (p : Nat → Bool) : (clearRegs p s).hier = s.hier := rfl
@[simp] theorem clearRegs_pln (p : Nat → Bool) : (clearRegs p s).pln = s.pln := rfl
@[simp] theorem clearRegs_twn (p : Nat → Bool) : (clearRegs p s).twn = s.twn := rfl
@[simp] theorem clearRegs_tstHalf (p : Nat → Bool) : (clearRegs p s).tstHalf = s.tstHalf := rfl
@[simp] theorem clearRegs_tstSeen (p : Nat → Bool) : (clearRegs p s).tstSeen = s.tstSeen := rfl
@[simp] theorem clearRegs_tstDone (p : Nat → Bool) : (clearRegs p s).tstDone = s.tstDone := rfl
@[simp] theorem clearRegs_out (p : Nat → Bool) : (clearRegs p s).out = s.out := rfl
@[simp] theorem clearRegs_pending (p : Nat → Bool) : (clearRegs p s).pending = s.pending := rfl

/-! setDom -/
@[simp] theorem setDom_unpred (d : Dom) (n : Nat) : (setDom d n s).unpred = s.unpred := rfl
@[simp] theorem setDom_hostData (d : Dom) (n : Nat) : (setDom d n s).hostData = s.hostData := rfl
@[simp] theorem setDom_free (d : Dom) (n : Nat) : (setDom d n s).free = s.free := rfl
@[simp] theorem setDom_sealed (d : Dom) (n : Nat) : (setDom d n s).sealed = s.sealed := rfl
@[simp] theorem setDom_fitS0 (d : Dom) (n : Nat) : (setDom d n s).fitS0 = s.fitS0 := rfl
@[simp] theorem setDom_sys (d : Dom) (n : Nat) : (setDom d n s).sys = s.sys := rfl
@[simp] theorem setDom_img (d : Dom) (n : Nat) : (setDom d n s).img = s.img := rfl
@[simp] theorem setDom_port (d : Dom) (n : Nat) : (setDom d n s).port = s.port := rfl
@[simp] theorem setDom_dma0 (d : Dom) (n : Nat) : (setDom d n s).dma0 = s.dma0 := rfl
@[simp] theorem setDom_dma1 (d : Dom) (n : Nat) : (setDom d n s).dma1 = s.dma1 := rfl
@[simp] theorem setDom_dma2 (d : Dom) (n : Nat) : (setDom d n s).dma2 = s.dma2 := rfl
@[simp] theorem setDom_dma3 (d : Dom) (n : Nat) : (setDom d n s).dma3 = s.dma3 := rfl
@[simp] theorem setDom_intc (d : Dom) (n : Nat) : (setDom d n s).intc = s.intc := rfl
@[simp] theorem setDom_drv (d : Dom) (n : Nat) : (setDom d n s).drv = s.drv := rfl
@[simp] theorem setDom_chain (d : Dom) (n : Nat) : (setDom d n s).chain = s.chain := rfl
@[simp] theorem setDom_rfx (d : Dom) (n : Nat) : (setDom d n s).rfx = s.rfx := rfl
@[simp] theorem setDom_cal (d : Dom) (n : Nat) : (setDom d n s).cal = s.cal := rfl
@[simp] theorem setDom_mtr (d : Dom) (n : Nat) : (setDom d n s).mtr = s.mtr := rfl
@[simp] theorem setDom_net (d : Dom) (n : Nat) : (setDom d n s).net = s.net := rfl
@[simp] theorem setDom_tsu (d : Dom) (n : Nat) : (setDom d n s).tsu = s.tsu := rfl
@[simp] theorem setDom_air (d : Dom) (n : Nat) : (setDom d n s).air = s.air := rfl
@[simp] theorem setDom_key (d : Dom) (n : Nat) : (setDom d n s).key = s.key := rfl
@[simp] theorem setDom_upd (d : Dom) (n : Nat) : (setDom d n s).upd = s.upd := rfl
@[simp] theorem setDom_hier (d : Dom) (n : Nat) : (setDom d n s).hier = s.hier := rfl
@[simp] theorem setDom_pln (d : Dom) (n : Nat) : (setDom d n s).pln = s.pln := rfl
@[simp] theorem setDom_twn (d : Dom) (n : Nat) : (setDom d n s).twn = s.twn := rfl
@[simp] theorem setDom_tstHalf (d : Dom) (n : Nat) : (setDom d n s).tstHalf = s.tstHalf := rfl
@[simp] theorem setDom_tstSeen (d : Dom) (n : Nat) : (setDom d n s).tstSeen = s.tstSeen := rfl
@[simp] theorem setDom_tstDone (d : Dom) (n : Nat) : (setDom d n s).tstDone = s.tstDone := rfl
@[simp] theorem setDom_out (d : Dom) (n : Nat) : (setDom d n s).out = s.out := rfl
@[simp] theorem setDom_pending (d : Dom) (n : Nat) : (setDom d n s).pending = s.pending := rfl

/-! setSlice -/
@[simp] theorem setSlice_regs (n : Nat) (x : Slice) : (setSlice n x s).regs = s.regs := rfl
@[simp] theorem setSlice_unpred (n : Nat) (x : Slice) : (setSlice n x s).unpred = s.unpred := rfl
@[simp] theorem setSlice_hostData (n : Nat) (x : Slice) : (setSlice n x s).hostData = s.hostData := rfl
@[simp] theorem setSlice_free (n : Nat) (x : Slice) : (setSlice n x s).free = s.free := rfl
@[simp] theorem setSlice_sealed (n : Nat) (x : Slice) : (setSlice n x s).sealed = s.sealed := rfl
@[simp] theorem setSlice_fitS0 (n : Nat) (x : Slice) : (setSlice n x s).fitS0 = s.fitS0 := rfl
@[simp] theorem setSlice_sys (n : Nat) (x : Slice) : (setSlice n x s).sys = s.sys := rfl
@[simp] theorem setSlice_img (n : Nat) (x : Slice) : (setSlice n x s).img = s.img := rfl
@[simp] theorem setSlice_port (n : Nat) (x : Slice) : (setSlice n x s).port = s.port := rfl
@[simp] theorem setSlice_dma0 (n : Nat) (x : Slice) : (setSlice n x s).dma0 = s.dma0 := rfl
@[simp] theorem setSlice_dma1 (n : Nat) (x : Slice) : (setSlice n x s).dma1 = s.dma1 := rfl
@[simp] theorem setSlice_dma2 (n : Nat) (x : Slice) : (setSlice n x s).dma2 = s.dma2 := rfl
@[simp] theorem setSlice_dma3 (n : Nat) (x : Slice) : (setSlice n x s).dma3 = s.dma3 := rfl
@[simp] theorem setSlice_intc (n : Nat) (x : Slice) : (setSlice n x s).intc = s.intc := rfl
@[simp] theorem setSlice_drv (n : Nat) (x : Slice) : (setSlice n x s).drv = { s.drv with slices := tabSet (fun _ => {}) s.drv.slices n x } := rfl
@[simp] theorem setSlice_chain (n : Nat) (x : Slice) : (setSlice n x s).chain = s.chain := rfl
@[simp] theorem setSlice_rfx (n : Nat) (x : Slice) : (setSlice n x s).rfx = s.rfx := rfl
@[simp] theorem setSlice_cal (n : Nat) (x : Slice) : (setSlice n x s).cal = s.cal := rfl
@[simp] theorem setSlice_mtr (n : Nat) (x : Slice) : (setSlice n x s).mtr = s.mtr := rfl
@[simp] theorem setSlice_net (n : Nat) (x : Slice) : (setSlice n x s).net = s.net := rfl
@[simp] theorem setSlice_tsu (n : Nat) (x : Slice) : (setSlice n x s).tsu = s.tsu := rfl
@[simp] theorem setSlice_air (n : Nat) (x : Slice) : (setSlice n x s).air = s.air := rfl
@[simp] theorem setSlice_key (n : Nat) (x : Slice) : (setSlice n x s).key = s.key := rfl
@[simp] theorem setSlice_upd (n : Nat) (x : Slice) : (setSlice n x s).upd = s.upd := rfl
@[simp] theorem setSlice_hier (n : Nat) (x : Slice) : (setSlice n x s).hier = s.hier := rfl
@[simp] theorem setSlice_pln (n : Nat) (x : Slice) : (setSlice n x s).pln = s.pln := rfl
@[simp] theorem setSlice_twn (n : Nat) (x : Slice) : (setSlice n x s).twn = s.twn := rfl
@[simp] theorem setSlice_tstHalf (n : Nat) (x : Slice) : (setSlice n x s).tstHalf = s.tstHalf := rfl
@[simp] theorem setSlice_tstSeen (n : Nat) (x : Slice) : (setSlice n x s).tstSeen = s.tstSeen := rfl
@[simp] theorem setSlice_tstDone (n : Nat) (x : Slice) : (setSlice n x s).tstDone = s.tstDone := rfl
@[simp] theorem setSlice_out (n : Nat) (x : Slice) : (setSlice n x s).out = s.out := rfl
@[simp] theorem setSlice_pending (n : Nat) (x : Slice) : (setSlice n x s).pending = s.pending := rfl

/-! setChain -/
@[simp] theorem setChain_regs (k : Nat) (x : ChainSt) : (setChain k x s).regs = s.regs := rfl
@[simp] theorem setChain_unpred (k : Nat) (x : ChainSt) : (setChain k x s).unpred = s.unpred := rfl
@[simp] theorem setChain_hostData (k : Nat) (x : ChainSt) : (setChain k x s).hostData = s.hostData := rfl
@[simp] theorem setChain_free (k : Nat) (x : ChainSt) : (setChain k x s).free = s.free := rfl
@[simp] theorem setChain_sealed (k : Nat) (x : ChainSt) : (setChain k x s).sealed = s.sealed := rfl
@[simp] theorem setChain_fitS0 (k : Nat) (x : ChainSt) : (setChain k x s).fitS0 = s.fitS0 := rfl
@[simp] theorem setChain_sys (k : Nat) (x : ChainSt) : (setChain k x s).sys = s.sys := rfl
@[simp] theorem setChain_img (k : Nat) (x : ChainSt) : (setChain k x s).img = s.img := rfl
@[simp] theorem setChain_port (k : Nat) (x : ChainSt) : (setChain k x s).port = s.port := rfl
@[simp] theorem setChain_dma0 (k : Nat) (x : ChainSt) : (setChain k x s).dma0 = s.dma0 := rfl
@[simp] theorem setChain_dma1 (k : Nat) (x : ChainSt) : (setChain k x s).dma1 = s.dma1 := rfl
@[simp] theorem setChain_dma2 (k : Nat) (x : ChainSt) : (setChain k x s).dma2 = s.dma2 := rfl
@[simp] theorem setChain_dma3 (k : Nat) (x : ChainSt) : (setChain k x s).dma3 = s.dma3 := rfl
@[simp] theorem setChain_intc (k : Nat) (x : ChainSt) : (setChain k x s).intc = s.intc := rfl
@[simp] theorem setChain_drv (k : Nat) (x : ChainSt) : (setChain k x s).drv = s.drv := rfl
@[simp] theorem setChain_rfx (k : Nat) (x : ChainSt) : (setChain k x s).rfx = s.rfx := rfl
@[simp] theorem setChain_cal (k : Nat) (x : ChainSt) : (setChain k x s).cal = s.cal := rfl
@[simp] theorem setChain_mtr (k : Nat) (x : ChainSt) : (setChain k x s).mtr = s.mtr := rfl
@[simp] theorem setChain_net (k : Nat) (x : ChainSt) : (setChain k x s).net = s.net := rfl
@[simp] theorem setChain_tsu (k : Nat) (x : ChainSt) : (setChain k x s).tsu = s.tsu := rfl
@[simp] theorem setChain_air (k : Nat) (x : ChainSt) : (setChain k x s).air = s.air := rfl
@[simp] theorem setChain_key (k : Nat) (x : ChainSt) : (setChain k x s).key = s.key := rfl
@[simp] theorem setChain_upd (k : Nat) (x : ChainSt) : (setChain k x s).upd = s.upd := rfl
@[simp] theorem setChain_hier (k : Nat) (x : ChainSt) : (setChain k x s).hier = s.hier := rfl
@[simp] theorem setChain_pln (k : Nat) (x : ChainSt) : (setChain k x s).pln = s.pln := rfl
@[simp] theorem setChain_twn (k : Nat) (x : ChainSt) : (setChain k x s).twn = s.twn := rfl
@[simp] theorem setChain_tstHalf (k : Nat) (x : ChainSt) : (setChain k x s).tstHalf = s.tstHalf := rfl
@[simp] theorem setChain_tstSeen (k : Nat) (x : ChainSt) : (setChain k x s).tstSeen = s.tstSeen := rfl
@[simp] theorem setChain_tstDone (k : Nat) (x : ChainSt) : (setChain k x s).tstDone = s.tstDone := rfl
@[simp] theorem setChain_out (k : Nat) (x : ChainSt) : (setChain k x s).out = s.out := rfl
@[simp] theorem setChain_pending (k : Nat) (x : ChainSt) : (setChain k x s).pending = s.pending := rfl

/-! answer -/
@[simp] theorem answer_regs (v : Word) : (answer v s).regs = s.regs := rfl
@[simp] theorem answer_unpred (v : Word) : (answer v s).unpred = s.unpred := rfl
@[simp] theorem answer_hostData (v : Word) : (answer v s).hostData = [v] := rfl
@[simp] theorem answer_free (v : Word) : (answer v s).free = s.free := rfl
@[simp] theorem answer_sealed (v : Word) : (answer v s).sealed = s.sealed := rfl
@[simp] theorem answer_fitS0 (v : Word) : (answer v s).fitS0 = s.fitS0 := rfl
@[simp] theorem answer_sys (v : Word) : (answer v s).sys = s.sys := rfl
@[simp] theorem answer_img (v : Word) : (answer v s).img = s.img := rfl
@[simp] theorem answer_port (v : Word) : (answer v s).port = s.port := rfl
@[simp] theorem answer_dma0 (v : Word) : (answer v s).dma0 = s.dma0 := rfl
@[simp] theorem answer_dma1 (v : Word) : (answer v s).dma1 = s.dma1 := rfl
@[simp] theorem answer_dma2 (v : Word) : (answer v s).dma2 = s.dma2 := rfl
@[simp] theorem answer_dma3 (v : Word) : (answer v s).dma3 = s.dma3 := rfl
@[simp] theorem answer_intc (v : Word) : (answer v s).intc = s.intc := rfl
@[simp] theorem answer_drv (v : Word) : (answer v s).drv = s.drv := rfl
@[simp] theorem answer_chain (v : Word) : (answer v s).chain = s.chain := rfl
@[simp] theorem answer_rfx (v : Word) : (answer v s).rfx = s.rfx := rfl
@[simp] theorem answer_cal (v : Word) : (answer v s).cal = s.cal := rfl
@[simp] theorem answer_mtr (v : Word) : (answer v s).mtr = s.mtr := rfl
@[simp] theorem answer_net (v : Word) : (answer v s).net = s.net := rfl
@[simp] theorem answer_tsu (v : Word) : (answer v s).tsu = s.tsu := rfl
@[simp] theorem answer_air (v : Word) : (answer v s).air = s.air := rfl
@[simp] theorem answer_key (v : Word) : (answer v s).key = s.key := rfl
@[simp] theorem answer_upd (v : Word) : (answer v s).upd = s.upd := rfl
@[simp] theorem answer_hier (v : Word) : (answer v s).hier = s.hier := rfl
@[simp] theorem answer_pln (v : Word) : (answer v s).pln = s.pln := rfl
@[simp] theorem answer_twn (v : Word) : (answer v s).twn = s.twn := rfl
@[simp] theorem answer_tstHalf (v : Word) : (answer v s).tstHalf = s.tstHalf := rfl
@[simp] theorem answer_tstSeen (v : Word) : (answer v s).tstSeen = s.tstSeen := rfl
@[simp] theorem answer_tstDone (v : Word) : (answer v s).tstDone = s.tstDone := rfl
@[simp] theorem answer_out (v : Word) : (answer v s).out = s.out := rfl
@[simp] theorem answer_pending (v : Word) : (answer v s).pending = s.pending := rfl

/-! withPending -/
@[simp] theorem withPending_regs (q : List Instr) : (s.withPending q).regs = s.regs := rfl
@[simp] theorem withPending_unpred (q : List Instr) : (s.withPending q).unpred = s.unpred := rfl
@[simp] theorem withPending_hostData (q : List Instr) : (s.withPending q).hostData = s.hostData := rfl
@[simp] theorem withPending_free (q : List Instr) : (s.withPending q).free = s.free := rfl
@[simp] theorem withPending_sealed (q : List Instr) : (s.withPending q).sealed = s.sealed := rfl
@[simp] theorem withPending_fitS0 (q : List Instr) : (s.withPending q).fitS0 = s.fitS0 := rfl
@[simp] theorem withPending_sys (q : List Instr) : (s.withPending q).sys = s.sys := rfl
@[simp] theorem withPending_img (q : List Instr) : (s.withPending q).img = s.img := rfl
@[simp] theorem withPending_port (q : List Instr) : (s.withPending q).port = s.port := rfl
@[simp] theorem withPending_dma0 (q : List Instr) : (s.withPending q).dma0 = s.dma0 := rfl
@[simp] theorem withPending_dma1 (q : List Instr) : (s.withPending q).dma1 = s.dma1 := rfl
@[simp] theorem withPending_dma2 (q : List Instr) : (s.withPending q).dma2 = s.dma2 := rfl
@[simp] theorem withPending_dma3 (q : List Instr) : (s.withPending q).dma3 = s.dma3 := rfl
@[simp] theorem withPending_intc (q : List Instr) : (s.withPending q).intc = s.intc := rfl
@[simp] theorem withPending_drv (q : List Instr) : (s.withPending q).drv = s.drv := rfl
@[simp] theorem withPending_chain (q : List Instr) : (s.withPending q).chain = s.chain := rfl
@[simp] theorem withPending_rfx (q : List Instr) : (s.withPending q).rfx = s.rfx := rfl
@[simp] theorem withPending_cal (q : List Instr) : (s.withPending q).cal = s.cal := rfl
@[simp] theorem withPending_mtr (q : List Instr) : (s.withPending q).mtr = s.mtr := rfl
@[simp] theorem withPending_net (q : List Instr) : (s.withPending q).net = s.net := rfl
@[simp] theorem withPending_tsu (q : List Instr) : (s.withPending q).tsu = s.tsu := rfl
@[simp] theorem withPending_air (q : List Instr) : (s.withPending q).air = s.air := rfl
@[simp] theorem withPending_key (q : List Instr) : (s.withPending q).key = s.key := rfl
@[simp] theorem withPending_upd (q : List Instr) : (s.withPending q).upd = s.upd := rfl
@[simp] theorem withPending_hier (q : List Instr) : (s.withPending q).hier = s.hier := rfl
@[simp] theorem withPending_pln (q : List Instr) : (s.withPending q).pln = s.pln := rfl
@[simp] theorem withPending_twn (q : List Instr) : (s.withPending q).twn = s.twn := rfl
@[simp] theorem withPending_tstHalf (q : List Instr) : (s.withPending q).tstHalf = s.tstHalf := rfl
@[simp] theorem withPending_tstSeen (q : List Instr) : (s.withPending q).tstSeen = s.tstSeen := rfl
@[simp] theorem withPending_tstDone (q : List Instr) : (s.withPending q).tstDone = s.tstDone := rfl
@[simp] theorem withPending_out (q : List Instr) : (s.withPending q).out = s.out := rfl
@[simp] theorem withPending_pending (q : List Instr) : (s.withPending q).pending = q := rfl

end Sys2Proof.Machine
end

