-- ==== Sys2Proof/Laws/Ops.lean ====
section
/-! SUPPORT. What each shared operation does, said once: a field read back after a field written, the counters, the interrupt
pulses, and what an operation repeated over a list leaves alone. -/

namespace Sys2Proof.Machine

/-! ### Words -/

/-- A field is below its width. -/
theorem getBits_lt (x : Word) (lo w : Nat) : getBits x lo w < 2 ^ w := Nat.mod_lt _ (Nat.two_pow_pos w)

/-- A word in three parts: below a field, the field, and above it. -/
theorem word_parts (x lo w : Nat) :
    x = x % 2 ^ lo + (x / 2 ^ lo % 2 ^ w) * 2 ^ lo + x / 2 ^ (lo + w) * 2 ^ (lo + w) := by
  rw [Nat.pow_add, ← Nat.div_div_eq_div_mul]
  have h1 := Nat.div_add_mod x (2 ^ lo)
  have h2 := Nat.div_add_mod (x / 2 ^ lo) (2 ^ w)
  have h3 : 2 ^ lo * (x / 2 ^ lo) = 2 ^ lo * (2 ^ w * (x / 2 ^ lo / 2 ^ w)) + 2 ^ lo * (x / 2 ^ lo % 2 ^ w) := by
    rw [← Nat.mul_add, h2]
  rw [Nat.mul_comm (x / 2 ^ lo % 2 ^ w), Nat.mul_comm (x / 2 ^ lo / 2 ^ w), Nat.mul_assoc]
  omega

/-- The bits of a word with a field replaced. -/
theorem putBits_toNat (x : Word) {lo w : Nat} (v : Nat) (h : lo + w ≤ 32) :
    (putBits x lo w v).toNat = x.toNat % 2 ^ lo + (v % 2 ^ w) * 2 ^ lo + x.toNat / 2 ^ (lo + w) * 2 ^ (lo + w) := by
  have hp := word_parts x.toNat lo w
  have hx := x.isLt
  have hv : v % 2 ^ w < 2 ^ w := Nat.mod_lt _ (Nat.two_pow_pos w)
  have hb : x.toNat % 2 ^ lo < 2 ^ lo := Nat.mod_lt _ (Nat.two_pow_pos lo)
  have hlow : x.toNat % 2 ^ lo + (v % 2 ^ w) * 2 ^ lo < 2 ^ (lo + w) := by
    have : (v % 2 ^ w + 1) * 2 ^ lo ≤ 2 ^ w * 2 ^ lo := Nat.mul_le_mul_right _ hv
    rw [Nat.pow_add, Nat.mul_comm (2 ^ lo)]
    rw [Nat.add_mul, Nat.one_mul] at this
    omega
  have hlt : x.toNat % 2 ^ lo + (v % 2 ^ w) * 2 ^ lo + x.toNat / 2 ^ (lo + w) * 2 ^ (lo + w) < 2 ^ 32 := by
    have hq : x.toNat / 2 ^ (lo + w) < 2 ^ (32 - (lo + w)) := by
      rw [Nat.div_lt_iff_lt_mul (Nat.two_pow_pos _), ← Nat.pow_add]
      have : 32 - (lo + w) + (lo + w) = 32 := by omega
      rw [this]; exact hx
    have : (x.toNat / 2 ^ (lo + w) + 1) * 2 ^ (lo + w) ≤ 2 ^ (32 - (lo + w)) * 2 ^ (lo + w) := Nat.mul_le_mul_right _ hq
    rw [← Nat.pow_add, Nat.add_mul, Nat.one_mul] at this
    have e : 32 - (lo + w) + (lo + w) = 32 := by omega
    rw [e] at this
    omega
  unfold putBits getBits
  rw [BitVec.toNat_ofNat, Nat.shiftRight_eq_div_pow]
  rw [Nat.mod_eq_of_lt]
  · omega
  · omega

/-- A field of a word that has just been put there. -/
theorem getBits_putBits_same (x : Word) {lo w : Nat} (v : Nat) (h : lo + w ≤ 32) :
    getBits (putBits x lo w v) lo w = v % 2 ^ w := by
  unfold getBits
  rw [putBits_toNat x v h, Nat.shiftRight_eq_div_pow, Nat.pow_add]
  have hb : x.toNat % 2 ^ lo < 2 ^ lo := Nat.mod_lt _ (Nat.two_pow_pos lo)
  have e : x.toNat % 2 ^ lo + v % 2 ^ w * 2 ^ lo + x.toNat / (2 ^ lo * 2 ^ w) * (2 ^ lo * 2 ^ w) =
      x.toNat % 2 ^ lo + 2 ^ lo * (v % 2 ^ w + 2 ^ w * (x.toNat / (2 ^ lo * 2 ^ w))) := by grind
  rw [e, Nat.add_mul_div_left _ _ (Nat.two_pow_pos lo), Nat.div_eq_of_lt hb, Nat.zero_add, Nat.add_mul_mod_self_left,
    Nat.mod_mod]

/-- A bit of a word with a field replaced. -/
theorem testBit_putBits (x : Word) {lo w : Nat} (v i : Nat) (h : lo + w ≤ 32) :
    (putBits x lo w v).toNat.testBit i =
      if lo ≤ i ∧ i < lo + w then v.testBit (i - lo) else x.toNat.testBit i := by
  rw [putBits_toNat x v h]
  have hb : x.toNat % 2 ^ lo < 2 ^ lo := Nat.mod_lt _ (Nat.two_pow_pos lo)
  have hv : v % 2 ^ w < 2 ^ w := Nat.mod_lt _ (Nat.two_pow_pos w)
  have e : x.toNat % 2 ^ lo + v % 2 ^ w * 2 ^ lo + x.toNat / 2 ^ (lo + w) * 2 ^ (lo + w) =
      2 ^ lo * (2 ^ w * (x.toNat / 2 ^ (lo + w)) + v % 2 ^ w) + x.toNat % 2 ^ lo := by rw [Nat.pow_add]; grind
  rw [e, Nat.testBit_two_pow_mul_add _ hb]
  split
  · next hi =>
    rw [Nat.testBit_mod_two_pow, if_neg (by omega), decide_eq_true hi, Bool.true_and]
  · next hi =>
    rw [Nat.testBit_two_pow_mul_add _ hv]
    split
    · next hj =>
      rw [Nat.testBit_mod_two_pow, if_pos (by omega), decide_eq_true hj, Bool.true_and]
    · next hj =>
      rw [Nat.testBit_div_two_pow]
      simp only [show ¬(lo ≤ i ∧ i < lo + w) by omega, if_false]
      congr 1; omega

/-- A field of a word after another field has been put there. -/
theorem getBits_putBits_other (x : Word) {lo w lo' w' : Nat} (v : Nat) (h : lo + w ≤ 32)
    (hd : lo' + w' ≤ lo ∨ lo + w ≤ lo') : getBits (putBits x lo w v) lo' w' = getBits x lo' w' := by
  unfold getBits
  apply Nat.eq_of_testBit_eq
  intro i
  rw [Nat.testBit_mod_two_pow, Nat.testBit_mod_two_pow, Nat.testBit_shiftRight, Nat.testBit_shiftRight,
    testBit_putBits x v _ h]
  by_cases hi : i < w'
  · simp only [hi, decide_true, Bool.true_and]
    rw [if_neg (by omega)]
  · simp [hi]

/-! ### Registers and their fields -/

@[simp] theorem getR_setR_same (off : Nat) (v : Word) (s : State) : getR (setR off v s) off = v := by
  simp [getR]

theorem getR_setR_ne {off o : Nat} (v : Word) (s : State) (h : o ≠ off) : getR (setR off v s) o = getR s o := by
  simp [getR, tabGet_set_ne regReset s.regs v h]

theorem getR_setF_ne {f : Fld} {o : Nat} (v : Nat) (s : State) (h : o ≠ f.off) : getR (setF f v s) o = getR s o :=
  getR_setR_ne _ s h

/-- A field reads back as it was set. -/
theorem getF_setF_same {f : Fld} (v : Nat) (s : State) (h : f.lo + f.w ≤ 32) : getF (setF f v s) f = v % 2 ^ f.w := by
  simp only [getF, setF, getR_setR_same]
  exact getBits_putBits_same _ v h

/-- Setting a field leaves a field of another register, and one beside it in the same register, alone. -/
theorem getF_setF_other {f g : Fld} (v : Nat) (s : State) (h : f.lo + f.w ≤ 32)
    (hd : g.off ≠ f.off ∨ g.lo + g.w ≤ f.lo ∨ f.lo + f.w ≤ g.lo) : getF (setF f v s) g = getF s g := by
  unfold getF setF
  by_cases ho : g.off = f.off
  · rw [ho, getR_setR_same]
    exact getBits_putBits_other _ v h (by omega)
  · rw [getR_setR_ne _ s ho]

theorem flag_setB_same {f : Fld} (b : Bool) (s : State) (h : f.lo + f.w ≤ 32) (hw : 0 < f.w) :
    flag (setB f b s) f = b := by
  unfold flag setB
  rw [getF_setF_same _ s h]
  have : 1 < 2 ^ f.w := Nat.one_lt_two_pow (by omega)
  cases b <;> simp [b2n, Nat.mod_eq_of_lt this]

theorem flag_setB_other {f g : Fld} (b : Bool) (s : State) (h : f.lo + f.w ≤ 32)
    (hd : g.off ≠ f.off ∨ g.lo + g.w ≤ f.lo ∨ f.lo + f.w ≤ g.lo) : flag (setB f b s) g = flag s g := by
  unfold flag setB
  rw [getF_setF_other _ s h hd]

/-- A counter counts one, and saturates at 2^32 - 1. -/
theorem getR_bump_same (off : Nat) (s : State) :
    (getR (bump off s) off).toNat = min (2 ^ 32 - 1) ((getR s off).toNat + 1) := by
  have h : getF (bump off s) ⟨off, 0, 32⟩ = min (2 ^ 32 - 1) (getF s ⟨off, 0, 32⟩ + 1) := by
    unfold bump addF
    rw [getF_setF_same _ s (by simp)]
    exact Nat.mod_eq_of_lt (by simp only [] ; omega)
  have e : ∀ x : Word, getBits x 0 32 = x.toNat := fun x => by
    unfold getBits; rw [Nat.shiftRight_zero]; exact Nat.mod_eq_of_lt x.isLt
  simpa [getF, e] using h

theorem getR_bump_ne {off o : Nat} (s : State) (h : o ≠ off) : getR (bump off s) o = getR s o := getR_setR_ne _ s h

/-! ### Interrupt pulses -/

/-- What a pulse does: it changes registers only, and of those the pending words alone. -/
theorem raise_regs_only (n : Nat) (s : State) : raise n s = { s with regs := (raise n s).regs } := by
  unfold raise
  extract_lets +onlyGivenNames s1
  have h1 : s1 = { s with regs := s1.regs } := by unfold s1; split <;> rfl
  generalize s1 = t at h1
  split
  · split
    · rw [h1]; rfl
    · exact h1
  · rfl

theorem getR_raise {n o : Nat} (s : State) (hn : n < 256) (h : o < 0x20120 ∨ 0x201C0 ≤ o) : getR (raise n s) o = getR s o := by
  have h1 : o ≠ srcOff 0x201A0 n := by unfold srcOff; omega
  have h2 : o ≠ srcOff 0x20120 n := by unfold srcOff; omega
  have hs : ∀ b t, getR (setSrcBit 0x201A0 n b t) o = getR t o := fun b t => getR_setF_ne _ t h1
  have ht : ∀ b t, getR (setSrcBit 0x20120 n b t) o = getR t o := fun b t => getR_setF_ne _ t h2
  unfold raise
  extract_lets +onlyGivenNames s1
  have e : getR s1 o = getR s o := by
    unfold s1; split
    · exact hs _ s
    · rfl
  split
  · split
    · rw [ht, e]
    · exact e
  · rfl

/-! ### Repetition -/

/-- What every application leaves alone, the repetition leaves alone. -/
theorem each_frame {α β : Type} (g : State → β) {xs : List α} {f : α → State → State} {s : State}
    (h : ∀ x t, g (f x t) = g t) : g (each xs f s) = g s := by
  unfold each
  induction xs generalizing s with
  | nil => rfl
  | cons x xs ih => rw [List.foldl_cons, ih, h]

end Sys2Proof.Machine
end

