-- ==== Sys2Proof/Laws/Ramps.lean ====
section
/-! SUPPORT. R230: the logarithmic ramp's value is the rounded-down value of the rule's formula. -/

namespace Sys2Proof.Machine

theorem greatest_holds (p : Nat → Bool) : ∀ n v, p v = true → p (greatest p n v) = true
  | 0, _, h => h
  | n + 1, v, h => by
    unfold greatest
    apply greatest_holds p n
    split <;> assumption

theorem greatest_greatest (p : Nat → Bool) (down : ∀ a b, a ≤ b → p b = true → p a = true) :
    ∀ n v w, w < v + 2 ^ n → p w = true → w ≤ greatest p n v
  | 0, v, w, hw, _ => by simp only [Nat.pow_zero] at hw; simp only [greatest]; omega
  | n + 1, v, w, hw, h => by
    rw [Nat.pow_succ] at hw
    unfold greatest
    split
    · exact greatest_greatest p down n _ w (by omega) h
    · rename_i hp
      refine greatest_greatest p down n v w (Nat.lt_of_not_le fun hle => hp (down _ _ hle h)) h

/-- R230: the value v of a ramp satisfies v^T ≤ c0^(T-t) c1^t, in lowest terms, and no greater 16-bit value does. -/
theorem logValue_floor (c0 c1 t T w : Nat) (hw : w < 2 ^ 16) (hT : T / max 1 (Nat.gcd t T) ≠ 0) :
    w ≤ logValue c0 c1 t T ↔ w ^ (T / max 1 (Nat.gcd t T)) ≤
      c0 ^ ((T - t) / max 1 (Nat.gcd t T)) * c1 ^ (t / max 1 (Nat.gcd t T)) := by
  have down : ∀ a b, a ≤ b → decide (b ^ (T / max 1 (Nat.gcd t T)) ≤
      c0 ^ ((T - t) / max 1 (Nat.gcd t T)) * c1 ^ (t / max 1 (Nat.gcd t T))) = true →
      decide (a ^ (T / max 1 (Nat.gcd t T)) ≤
      c0 ^ ((T - t) / max 1 (Nat.gcd t T)) * c1 ^ (t / max 1 (Nat.gcd t T))) = true := by
    intro a b hab h
    exact decide_eq_true (Nat.le_trans (Nat.pow_le_pow_left hab _) (of_decide_eq_true h))
  constructor
  · intro h
    refine of_decide_eq_true (down _ _ h (greatest_holds (fun v => decide (v ^ (T / max 1 (Nat.gcd t T)) ≤
      c0 ^ ((T - t) / max 1 (Nat.gcd t T)) * c1 ^ (t / max 1 (Nat.gcd t T)))) 16 0 (decide_eq_true ?_)))
    rw [Nat.zero_pow (Nat.pos_of_ne_zero hT)]
    exact Nat.zero_le _
  · intro h
    exact greatest_greatest _ down 16 0 w (by omega) (decide_eq_true h)

end Sys2Proof.Machine
end

