-- ==== Sys2Proof/Tests/Slice0.lean ====
section
/-! SUPPORT. The package's own tests: ill-formed commands for every check of WellFormed, and for every statement with
hypotheses, clause by clause, a small state and operands that meet them, with the result of the one step. -/

set_option Elab.async false

namespace Sys2Proof.Tests
open Sys2Proof Sys2Proof.Machine

/-! ### Helpers -/

/-- The command answers a next state, of which the condition holds. -/
def ends (c : Instr) (s : State) (q : State → Bool) : Bool := match exec c s with | .next t => q t | _ => false

/-- A witness: the hypotheses hold, and the command answers a next state of which the condition holds. -/
def wit (h : Bool) (c : Instr) (s : State) (q : State → Bool) : Bool := h && ends c s q

/-- A witness of a clause whose command changes nothing. -/
def same (h : Bool) (c : Instr) (s : State) : Bool := h && ends c s (fun t => t == s)

/-- READY with every domain powered, DRIVE LIVE and FAB HOT; the link is up, and BAR0 is decoded. -/
def on : State :=
  { State.reset with
    regs := [(4, 0x996), (0x18, 1), (0x1C, 6)]
    sys := { held := false }
    port := { link := true, perst := false, cfg := { memSpace := true } } }

/-- The same with CTRL in STANDBY, and with CTRL OFF; before READY; with the image sealed. -/
def standby : State := setF Dom.ctrl.fld 1 on
def ctrlOff : State := setF Dom.ctrl.fld 0 on
def early : State := setF stageFld 4 on
def sealedOn : State := setB ⟨0x10004, 0, 1⟩ true on

/-- Both twins failed; Twin A alone lives. -/
def dead : State := { on with twn := { on.twn with a := .failed, b := .failed } }
def lone : State := { on with twn := { on.twn with b := .failed } }

/-- A domain OFF. -/
def without (d : Dom) : State := setF d.fld 0 on

/-- Registers written one after the other. -/
def put (xs : List (Nat × Word)) (s : State) : State := each xs (fun e s => setR e.1 e.2 s) s

/-- A register listed at a value, where its reset value is a fused one. -/
def fused (off : Nat) (v : Word) (s : State) : State := { s with regs := tabInsert s.regs off v }

/-- A header of a command from the root to every module, with no acknowledgement. -/
def hdr : HierHdr :=
  { ackReq := false, down := true, scope := 3, own := 0, sched := false, fine := false, issuer := 0, sender := 0,
    epoch := 0, result := 0, cmdId := 7, epa := 0, tSec := 0, grace := 0, tNs := 0 }

/-- A frame for every module, a radio frame of slot 1, and a recovery request. -/
def frame0 : EthFrame := ⟨0xFFFFFFFFFFFF, 0x100, none, 0x88B5, 64, true, none, [1, 2]⟩
def rx0 : RadioRx := ⟨0, .slot 1, 9, 0, true, 0, 5, 3, 0, -40, 200⟩
def req0 : RcvReq := ⟨0x123, 1, 5, .image, 4, 0, 8, [1, 2, 3, 4]⟩

/-! ### Well-formed commands -/

theorem test_wf_registers :
    ([Instr.registerWrite (.host .qspi) 2 0 0, .registerWrite (.control .equal) 0x1000000 0 0, .rcRead .pcie 0x40D none,
      .unalignedAccess (.regs .pcie) 8 4 false, .unalignedAccess (.regs .pcie) 8 0 true, .unalignedAccess (.regs .pcie) 0xFFFFFF 2 true,
      .unalignedAccess .bar2 0xFFFFFFF 2 false, .unmappedAccess .qspi 7 true 0].all (fun c => !c.wf) &&
      (Instr.registerWrite (.host .qspi) 8 0 0).wf && (Instr.unalignedAccess .bar2 0 4 false).wf) = true := by decide

theorem test_wf_port :
    ([Instr.limiterUpdate 0 0 65536 0, .startup .aon, .qspiRead 0 0, .qspiQread 0x1000000 1, .qspiWrite 0 [], .qspiQwrite 0 [],
      .qspiBadop 0x0B, .qspiBadop 0xEB, .qspiBadop 0x02, .qspiBadop 0x38, .qspiBadop 0x05, .referenceArrival 0 [0],
      .dmaTailWrite 0 0 (List.replicate 4096 ⟨0, 0, 0, 0⟩)].all (fun c => !c.wf)) = true := by decide +kernel

theorem test_wf_bus_master :
    (Instr.ftxFrame [List.replicate 65537 0]).wf = false ∧ (Instr.blkTransfer (List.replicate 65537 0)).wf = false := by
  refine ⟨?_, ?_⟩ <;> simp only [Instr.wf, List.all_cons, List.length_replicate, List.all_nil] <;> decide

theorem test_wf_measures :
    ([Instr.measWindowEnd 0 0 65536, .chainLatch 0 (List.replicate 6145 false), .measureDone 0 0, .measureDone 0 8193,
      .ainStrobe [1], .ainStrobe [704001, 0, 0, 0, 0, 0, 0, 0], .meterStep ⟨[], [], []⟩, .meterStep ⟨[[], [], [], []], [], []⟩,
      .islandFrame true [] 0 0 none].all (fun c => !c.wf)) = true := by
  decide +kernel

theorem test_wf_frames :
    ([Instr.ringFrameReceive 0 { frame0 with len := 17 } 0, .edgeFrameReceive 0 { frame0 with payload := List.replicate 64 0 } 0,
      .mergeBlock .a ⟨0, 0, 0, false, none, none, false, 64⟩ [] true,
      .mergeBlock .a ⟨0, 0, 0, false, none, none, false, 64⟩ (List.replicate 65 0) true,
      .mergeBlock .a ⟨0, 0, 0, false, none, none, false, 9217⟩ [0] true, .powerFailTrip [[]], .powerFailTrip (List.replicate 5 (List.replicate 64 (0, 0))),
      .mergeBlock .a ⟨0, 0, 0, false, none, none, false, 900⟩ (List.replicate 257 0) true].all (fun c => !c.wf)) = true := by
  decide +kernel

theorem test_wf_radio :
    ([Instr.joinReq { rx0 with src := .slot 1024 } 0 0, .joinConf { rx0 with src := .slot 1024 } 0,
      .renew { rx0 with src := .slot 1024 }, .keepalive { rx0 with src := .slot 1024 } 0, .leave { rx0 with src := .slot 1024 } 0,
      .queradData { rx0 with src := .slot 1024 } (.data []), .queradData rx0 (.unknown 0x10 []),
      .relay { rx0 with src := .slot 1024 } 0 0 0 []].all (fun c => !c.wf) && (Instr.renew rx0).wf) = true := by decide

theorem test_wf_hierarchy :
    ([Instr.credit hdr (List.replicate 37 (0, 0)), .ack hdr ⟨[0], 0, 0, 0⟩,
      .snapdata hdr 0 0 false false 0 0 (List.replicate 118 0), .xferData hdr .image 0 [],
      .rcvBegin { req0 with len := 65536 }, .rcvBegin { req0 with offset := 2 ^ 32 }, .rcvBegin { req0 with total := 2 ^ 32 },
      .rcvHello { req0 with data := List.replicate 1485 0 }, .rcvBegin { req0 with data := List.replicate 1501 0 },
      .rcvData { req0 with data := List.replicate 1485 0 }, .rcvCommit { req0 with data := List.replicate 1501 0 },
      .rcvAbort { req0 with data := List.replicate 1485 0 }, .rcvBoot { req0 with data := List.replicate 1501 0 }].all
        (fun c => !c.wf)) = true := by decide +kernel

/-- No row of the table gives bits, so no word spells a command, and none is put at the front of the queue. -/
theorem test_no_word_spells : decodeTableWord 32 0x6B = none ∧ State.reset.withFetchWord 32 0x6B = State.reset := by decide

/-! ### The queue and the step -/

theorem test_step_takes_front :
    (match step (on.withPending [.qspiStatus, .j1Loss]) with
     | .next t => t.pending == [Instr.j1Loss] && t.hostData == [qspiStatusByte on] && on.regsWf | _ => false) = true := by
  decide +kernel

theorem test_idle : (match step State.reset with | .next t => t == State.reset | _ => false) = true := by decide +kernel

theorem test_reset :
    (getR State.reset 0x18 == 1 && getR State.reset 0x100004 == 0x1FFFF && ctrl State.reset == .run &&
      domState State.reset .net == 0) = true := by decide +kernel

/-! ### Host accesses -/

theorem wit_RegisterWriteCompletes : ([
  wit (routeOpen on .pcie && blockOf 8 == some .sys && blockUp on .sys && (regRow? 8).isSome && storesOnly on 8)
    (.registerWrite (.host .pcie) 8 0x1FF 0) on (fun t => getR t 8 == 0xFF),
  wit (blockOf 0x130010 == some .rfx && blockUp on .rfx && (regRow? 0x130010).isSome && storesFabric 0x130010)
    (.registerWrite (.host .qspi) 0x130010 5 0) on (fun t => getR t 0x130010 == 5 && flag t clkRun),
  wit (blockOf 0x400080 == some .hier && blockUp on .hier && ctrlRun on && atReady on) (.registerWrite (.host .qspi) 0x400080 5 2) on
    (fun t => t.twn.inbox == [.hostReg 0x400080 5 2] && getR t 0x400080 == 0),
  wit (blockOf 0x410000 == some .pln && !(twinDead on .a && twinDead on .b)) (.registerWrite (.host .qspi) 0x410000 1 0) on
    (fun t => t.twn.inbox == [.hostReg 0x410000 1 0]),
  wit true (.registerWrite (.host .pcie) 0x10 0x05 0) (put [(0x10, 0x07)] on) (fun t => getR t 0x10 == 0x02),
  wit true (.registerWrite (.host .qspi) 0x10 0x07 0x04) (put [(0x10, 0x07)] on) (fun t => getR t 0x10 == 0x04),
  wit (ctrlRun on && bothInStep on && srcDefined 255) (.registerWrite (.control .equal) 0x207FC 6 0) on
    (fun t => srcCore t 255 == 2 && srcHost t 255 == srcHost on 255)]).all id = true := by decide +kernel

theorem wit_WritesAreCommands :
    (routeOpen on .pcie && ctrlOn on && driveOn on && mtrOn on && fabOn on && netOn on && airOn on && getBits 0xFFF1#32 0 2 == 1 &&
      getBits 2#32 0 2 == 2 && getBits 3#32 0 2 == 3 && (List.range 8).all (fun k => getBits (w32 (k + 8)) 0 3 == k) &&
      ends (.registerWrite (.host .pcie) 0 0x550000 0) on (fun t => getF t pwrTag == 0x55)) = true := by decide +kernel

theorem wit_OtherAccessesComplete : ([
  wit (regRow? 0x200 == none && regRow? 0x600000 == none) (.unmappedAccess .qspi 0x600000 false 0) on (fun t => t.hostData == [0]),
  same (blockOf 0x200 == some .sys) (.unmappedAccess .qspi 0x200 true 5) on,
  same true (.registerWrite (.host .qspi) 0x200 5 0) on,
  wit (!tstUnlocked on && blockOf 0x120100 == some .mtr && !blockUp (without .mtr) .mtr)
    (.rcRead .qspi 0x120100 none) (put [(0x120100, 7)] (without .mtr)) (fun t => t.hostData == [0] && getR t 0x120100 == 7),
  wit true (.unmappedAccess .pcie 0x120100 false 0) (put [(0x120100, 7)] (without .mtr)) (fun t => t.hostData == [0]),
  same true (.registerWrite (.host .qspi) 0x120008 1 0) (without .mtr),
  wit (blockOf 0x40C == some .sys && blockUp on .sys && rcMask 0x40C != 0 && !readActs 0x40C && hostUnpred on 0x40C == 0)
    (.rcRead .qspi 0x40C none) (put [(0x40C, 9)] on) (fun t => t.hostData == [9] && getR t 0x40C == 0),
  wit true (.rcRead .qspi 0x40C (some 10)) (put [(0x40C, 9)] on) (fun t => t.hostData == [10] && getR t 0x40C == 0),
  wit (blockOf 8 == some .sys && (regRow? 8).isSome && rcMask 8 == 0 && !readActs 8 && hostUnpred on 8 == 0)
    (.rcRead .pcie 8 none) (put [(8, 0x41)] on) (fun t => t.hostData == [0x41]),
  wit (wordsTouched 6 4 == [4, 8]) (.unalignedAccess (.regs .qspi) 6 4 false) on (fun t => t.hostData.length == 2),
  wit (wordsTouched 9 2 == [8] && quietBlock 8 && blockUp on .sys && (regRow? 8).isSome) (.unalignedAccess (.regs .pcie) 9 2 true) on
    (fun t => unpredAt t 8 == 0xFF && getR t 4 == getR on 4),
  wit (routeOpen on .pcie) (.unalignedAccess .bar2 3 4 false) on (fun t => t.hostData.length == 1),
  same true (.unalignedAccess .bar2 0 4 true) on]).all id = true := by decide +kernel

/-! ### Supply and power states -/

theorem wit_SupplyEventsComplete : ([
  wit (j1Ok (put [(0x400, 1)] on)) .j1Loss (put [(0x400, 1)] on) (fun t => !j1Ok t && !t.sys.sens12),
  same (!j1Ok on) .j1Loss on,
  wit (!j1High on) .j1Return on (fun t => j1Ok t && t.sys.sens12 && j1High t),
  wit ((slice on 63).phaseA && !(slice on 63).latentA && !(slice on 63).latentB) .j1Return
    (setSlice 63 { slice on 63 with st := .waitJ1 } on) (fun t => (slice t 63).st == .bias),
  same (j1High { on with sys := { on.sys with j1High := true } }) .j1Return { on with sys := { on.sys with j1High := true } },
  wit true (.supplyMonitorUpdate 24000 70000 30000 3000 2500 true) on
    (fun t => getR t 0x404 == 0xFFFF5DC0 && t.sys.storeMv == 30000 && j1Ok t && flag t ⟨0x400, 10, 1⟩),
  wit true (.supplyMonitorUpdate 9000 9000 11999 2199 (-100) false) on
    (fun t => j1Ok t && flag t ⟨0x400, 1, 1⟩ && flag t ⟨0x400, 4, 1⟩ && flag t ⟨0x400, 9, 1⟩ && getF t ⟨0x408, 0, 16⟩ == 0xFF9C),
  wit true (.supplyMonitorUpdate 8499 8499 12000 2200 0 false) (put [(0x400, 3)] on)
    (fun t => !j1Ok t && !flag t ⟨0x400, 1, 1⟩ && !flag t ⟨0x400, 4, 1⟩ && !flag t ⟨0x400, 9, 1⟩),
  wit true (.supplyMonitorUpdate 8500 0 0 0 0 false) (put [(0x400, 1)] on) (fun t => j1Ok t),
  wit (driveOn on) (.limiterUpdate 90000 100000 48000 2500) on (fun t => decide (1 ≤ t.sys.k) && decide (t.sys.k ≤ 1024)),
  wit true (.limiterUpdate 5000000 0 48000 2500) on (fun t => decide (t.sys.k < 1024) && getR t 0x40C == 1 && flag t ⟨0x400, 6, 1⟩),
  same (!driveOn (without .drive)) (.limiterUpdate 5000000 0 48000 2500) (without .drive),
  wit (j1Ok (put [(0x400, 1)] on)) .j1Loss (setSlice 63 { slice on 63 with st := .run, work := 500 } (put [(0x400, 1)] on))
    (fun t => (slice t 63).st == .waitJ1 && (slice t 63).work == 0 && slice t 0 == slice on 0)]).all id = true := by decide +kernel

theorem wit_PowerFailCompletes : ([
  wit (!on.sys.held && !on.sys.trip) (.powerFailTrip []) { on with sys := { on.sys with measuring := true } }
    (fun t => t.sys.trip && !t.sys.measuring && t.mtr.saving.map (·.kind) == some .final),
  wit true (.powerFailTrip []) { on with mtr := { on.mtr with saving := some ⟨.final, false, 5, []⟩ } }
    (fun t => t.mtr.saving == some ⟨.final, false, 5, []⟩),
  wit true .tripRideThrough { on with sys := { on.sys with trip := true } } (fun t => !t.sys.trip && flag t ⟨0x400, 5, 1⟩ && t.mtr.held == []),
  wit true .tripRideThrough (setB pwrSave true { on with sys := { on.sys with trip := true }, mtr := { on.mtr with zero := [(3, 5)] } })
    (fun t => t.mtr.zero == [(3, 5)]),
  wit true .brownOutReset { on with sys := { on.sys with storeMv := 24000 } }
    (fun t => t.sys.held && ctrl t == .off && t.sealed == [] && !t.port.link && slice t 63 == slept (slice on 63)),
  wit true .holdupMeasure on (fun t => t.sys.measuring),
  wit true (.holdupMeasureDone 65536) { on with sys := { on.sys with measuring := true } } (fun t => !t.sys.measuring),
  wit true (.powerOn 24000 24000 false false) { on with sys := { on.sys with held := true } }
    (fun t => getF t ⟨0x18, 1, 1⟩ == 1 && !t.sys.held && t.sys.start == some .brownOut),
  wit true (.powerOn 24000 70000 true false) { on with sys := { on.sys with held := true } }
    (fun t => getR t 0x18 == 1 && t.sys.start == some .powerOn && t.hier.epoch == 1),
  wit true (.powerOn 24000 24000 false true) { on with sys := { on.sys with held := true } }
    (fun t => getR t 0x18 == 1 && t.key == { outside := on.key.outside })]).all id = true := by decide +kernel

theorem wit_PowerCommandCompletes : ([
  wit (routeOpen on .qspi && !flag on pwrBusy && !pwrRefused on 0x550000) (.powerCommand .qspi 0x550000) on
    (fun t => getF t pwrTag == 0x55 && getF t pwrResult == 0 && flag t pwrBusy == decide (t.sys.todo != [])),
  wit (pwrRefused on 0x550001) (.powerCommand .pcie 0x550001) on (fun t => getF t pwrResult == 2 && t.sys.todo == []),
  wit true (.powerCommand .qspi 0x110000) (setB pwrBusy true on) (fun t => getF t pwrResult == 1 && t.sys.todo == [])]).all id = true := by
  decide +kernel

theorem wit_DomainChangeCompletes : ([
  wit true .domainChangeDone (setB pwrBusy true { on with sys := { on.sys with todo := [⟨.air, 0⟩] } })
    (fun t => domState t .air == 0 && t.sys.todo == [] && !flag t pwrBusy),
  wit true .domainChangeDone (setB pwrBusy true { on with sys := { on.sys with todo := [⟨.fab, 2⟩, ⟨.air, 0⟩] } })
    (fun t => domState t .fab == 2 && t.sys.todo == [⟨.air, 0⟩] && flag t pwrBusy),
  wit (domState ctrlOff .ctrl == 0) .domainChangeDone { ctrlOff with sys := { on.sys with todo := [⟨.ctrl, 2⟩] } }
    (fun t => domState t .ctrl != 0 && t.port.link),
  wit (domState (without .mtr) .mtr == 0) (.powerGoodTimeout .mtr) { (without .mtr) with sys := { on.sys with todo := [⟨.mtr, 1⟩, ⟨.air, 0⟩] } }
    (fun t => flag t pwrFault && levelCond t 1 && t.sys.todo == [] && domState t .air == domState on .air),
  same true (.powerGoodTimeout .air) { (without .mtr) with sys := { on.sys with todo := [⟨.mtr, 1⟩, ⟨.air, 0⟩] } }]).all id = true := by decide +kernel

/-- A worker in STANDBY whose NET wake source is armed. -/
def asleepWorker : State := put [(8, 0xFF), (0x400000, 2), (0x204010, 0x8000)] standby

theorem wit_WakeCompletes : ([
  wit (bitOf (getR (put [(8, 0x40)] on) 8) (wakeBit .j1)) (.wakeFire .j1) (put [(8, 0x40), (0xC, 0x550000)] on)
    (fun t => getR t 8 == 0 && flag t ⟨0x10, wakeBit .j1, 1⟩ && getF t pwrTag == 0x55),
  wit true (.wakeFire .j1) (put [(8, 0x40), (0xC, 5)] (setB pwrBusy true on)) (fun t => t.sys.wakeWait == some 5),
  same true (.wakeFire .j1) on,
  same true (.wakeFire .j1) { put [(8, 0xFF)] on with sys := { on.sys with held := true } },
  wit true .wakeCommandIssue { on with sys := { on.sys with wakeWait := some 0x550000 } } (fun t => t.sys.wakeWait == none && flag t pwrSrc && getF t pwrTag == 0x55),
  same true .wakeCommandIssue on,
  same true .wakeCommandIssue (setB pwrBusy true { on with sys := { on.sys with wakeWait := some 0 } }),
  wit (netOn asleepWorker && ctrl asleepWorker == .standby && selected asleepWorker hdr && heldEpoch asleepWorker hdr.issuer == none)
    (.wake hdr) asleepWorker (fun t => getR t 8 == 0 && flag t ⟨0x10, wakeBit .net, 1⟩)]).all id = true := by decide +kernel

/-- A start that stands at a stage. -/
def starting (n : Nat) : State := setF stageFld n { on with sys := { on.sys with start := some .powerOn } }

theorem wit_ResetsAndStartComplete : ([
  wit (resetAnswer on .controller == .ok) (.controllerReset true) on (fun t => t.sys.rstWait == some (.controller, true) && getF t pwrResult == 0),
  wit (resetAnswer on .module == .ok) (.moduleReset false) on (fun t => t.sys.rstWait == some (.module, false)),
  wit true (.moduleReset false) { on with sys := { on.sys with rstWait := some (.controller, true) } } (fun t => t.sys.rstWait == some (.controller, true)),
  wit true .resetEffect { on with sys := { on.sys with rstWait := some (.module, true), rstSaved := true } }
    (fun t => t.sys.start == some .module && t.sealed == [] && t.sys.rstWait == none && flag t ⟨0x18, 5, 1⟩ && t.hier.epoch == 1),
  wit true .resetEffect { on with sys := { on.sys with rstWait := some (.controller, false), rstSaved := true } }
    (fun t => flag t ⟨0x18, 3, 1⟩ && t.sealed == [] && t.sys.rstWait == none && domState t .drive == 1),
  wit true .perstAssert on (fun t => t.port.perst && !t.port.link && flag t ⟨0x18, 4, 1⟩),
  same true .perstAssert { on with port := { on.port with perst := true } },
  wit true .perstRelease { on with port := { on.port with perst := true } } (fun t => !t.port.perst && t.port.link),
  wit (getF State.reset stageFld == 0 && State.reset.sys.start == some .powerOn) (.startup .ref) State.reset (fun t => t == setF stageFld 1 State.reset),
  same true (.startup .ready) on,
  wit (getF (starting 1) stageFld == 1) (.startup .safe) (starting 1) (fun t => getF t stageFld == 2),
  wit (getF (starting 2) stageFld == 2) (.startup .rom) { starting 2 with sys := { (starting 2).sys with haltDue := true } }
    (fun t => ctrl t == .halted && getF t stageFld == 15),
  wit (ctrlRun (starting 2)) (.startup .rom) (starting 2) (fun t => getF t stageFld == 3 || getF t stageFld == 14),
  wit true (.startup .img) (starting 3) (fun t => getF t stageFld == 4),
  getF (starting 4) stageFld == 4,
  wit (!on.upd.trial) (.startup .ready) (starting 5) (fun t => atReady t && t.sys.start == none && t.hier.epoch == 0 && t.hier.owed),
  wit (atReady on && !flag on pwrBusy) .startStateLive { on with sys := { on.sys with liveWait := true } }
    (fun t => !t.sys.liveWait && getF t pwrTag == 0)]).all id = true := by decide +kernel

/-! ### Interrupts -/

/-- Source n routed to H0, and to CP0. -/
def routed (n : Nat) : State := put [(0x20400 + 4 * n, 0x84)] on
def toCore (n : Nat) : State := put [(0x20400 + 4 * n, 0x81)] on

/-- Source 4 pending at H0. -/
def pend4 : State := setSrcBit 0x20180 4 false (setSrcBit 0x20120 4 true (put [(0x20160, 0)] (routed 4)))

theorem wit_EventsPresented : ([
  wit (srcDefined 255 && !srcLevel 255 && srcHost (routed 255) 255 == 1) (.intcSourceEvent 255) (routed 255) (fun t => srcBit t 0x20120 255),
  wit (srcCore (toCore 4) 4 == 1) (.intcSourceEvent 4) (toCore 4) (fun t => srcBit t 0x201A0 4),
  wit (srcLevel 1 && levelCond (setB pwrFault true (routed 1)) 1) (.intcSourceEvent 1) (setB pwrFault true (routed 1)) (fun t => srcBit t 0x20120 1),
  same (srcLevel 1 && !levelCond on 1) (.intcSourceEvent 1) on,
  same (!srcDefined 200 && ctrl on != .standby) (.intcSourceEvent 200) on,
  (let w := coreWake (evalLevels pend4)
   wit (candidate w .h0 == some 4 && !asleep w .h0 && (tgt w .h0).claim == none && (tgt w .h0).insvc == none && modPermits w .h0 (targetIdle w .h0 false) 4)
     (.intcPresent .h0 false) pend4 (fun t => (tgt t .h0).claim == some ⟨4, 8, 0⟩ && !(tgt t .h0).window)),
  (let s := setSrcBit 0x201C0 4 false (setSrcBit 0x201A0 4 true (toCore 4))
   let w := coreWake (evalLevels s)
   wit (candidate w .cp0 == some 4 && (tgt w .cp0).claim == none && modPermits w .cp0 (targetIdle w .cp0 true) 4)
     (.intcPresent .cp0 true) s (fun t => t.twn.inbox == [.irq .cp0 4])),
  wit (candidate (coreWake (evalLevels on)) .h1 == none) (.intcPresent .h1 false) on (fun t => t == coreWake (evalLevels on)),
  wit true (.intcPresent .h0 false) (setTgt .h0 { insvc := some 9 } pend4) (fun t => (tgt t .h0).claim == none),
  wit true (.intcModExpire .h1 false) (setTgt .h1 { tgt on .h1 with window := true } on) (fun t => !(tgt t .h1).window),
  wit true (.intcModExpire .h0 false) (setTgt .h0 { window := true } pend4) (fun t => (tgt t .h0).claim == some ⟨4, 8, 0⟩)]).all id = true := by
  decide +kernel

theorem wit_ClaimsAndPendingComplete : ([
  wit (ctrlOn on) (.intcHpendSet 0 0x10) on (fun t => getR t 0x20120 == 0x10),
  wit true (.intcHpendSet 7 0x80000000) on (fun t => srcBit t 0x20120 255),
  wit true (.intcHpendClr 0 0x30 0x10) (put [(0x20120, 0x30)] (routed 4)) (fun t => getR t 0x20120 == 0x10),
  wit true (.intcHpendClr 0 0x10 0x10) (put [(0x20120, 0x10)] on) (fun t => getR t 0x20120 == 0),
  wit (srcLevel 1 && levelCond (setB pwrFault true (routed 1)) 1 && srcHost (routed 1) 1 == 1) (.intcPresent .h1 false) (setB pwrFault true (routed 1))
    (fun t => srcBit t 0x20120 1),
  wit (routeOpen on .qspi && !tstUnlocked on) (.intcTgtClaim .qspi .h1) (setTgt .h1 { claim := some ⟨255, 3, 31⟩ } on)
    (fun t => t.hostData == [0x8001F3FF] && (tgt t .h1).insvc == some 255 && (tgt t .h1).claim == none),
  wit (hostUnpred on (tgtBase .h0 + 8) == 0) (.rcRead .pcie (tgtBase .h0 + 8) none) (setTgt .h0 { claim := some ⟨4, 3, 0⟩ } on)
    (fun t => (tgt t .h0).insvc == some 4),
  wit ((tgt on .h0).claim == none) (.intcTgtClaim .pcie .h0) on (fun t => t.hostData == [0]),
  wit true (.intcTgtDone .h1 255) (setTgt .h1 { insvc := some 255 } on) (fun t => (tgt t .h1).insvc == none),
  wit true (.intcTgtDone .h1 254) (setTgt .h1 { insvc := some 255 } on) (fun t => (tgt t .h1).insvc == some 255),
  same true (.intcTgtDone .h0 0) on]).all id = true := by decide +kernel

/-! ### The image store, firmware update and recovery -/

/-- The image store in a state, owned by the host. -/
def imgIn (st : StgState) : State := { on with img := { on.img with stg := ⟨st, .host, false, []⟩, active := some true } }

/-- The firmware store likewise. -/
def updIn (st : StgState) : State := { on with upd := { on.upd with stg := ⟨st, .host, false, []⟩ } }

/-- Either store busy. -/
def imgBusy : State := setB (stgBusy .image) true (imgIn .opened)
def updBusy : State := setB (stgBusy .firmware) true (updIn .opened)

theorem wit_ImageStagingCompletes : ([
  wit (stgJudge .image .host false on == .ok) (.imgBegin .host) on (fun t => t.img.stg == ⟨.opened, .host, true, []⟩ && flag t (stgBusy .image)),
  wit (ctrlRun (imgIn .opened) && (soleTwin (imgIn .opened)).isSome && stgJudge .image .hier false (imgIn .opened) != .ok) (.imgBegin (.hier .equal)) (imgIn .opened) (fun t => t.img == (imgIn .opened).img && getF t (stgResult .image) == 1),
  wit (stgJudge .image .host true (imgIn .opened) == .ok) (.imgCommit .host) (imgIn .opened) (fun t => t.img.stg.st == .pending && getF t (stgResult .image) == 0),
  wit true (.imgAbort .host) (imgIn .opened) (fun t => t.img.stg.st == .empty),
  wit (stgJudge .image .recovery true on != .ok) (.imgCommit .recovery) on (fun t => getF t (stgResult .image) == 2),
  wit true (.imgAbort .host) imgBusy (fun t => getF t (stgResult .image) == 1 && t.img.stg.st == .opened),
  same (soleTwin dead).isNone (.imgBegin (.hier .equal)) dead,
  same true (.imgAbort (.hier (.alone .a))) { dead with img := (imgIn .opened).img },
  wit true .imgBeginDone { on with img := { on.img with stg := ⟨.opened, .host, true, []⟩ } } (fun t => !t.img.stg.zeroing && t.img.stg.held == []),
  wit (!flag (imgIn .pending) (stgBusy .image)) .imgVerify (imgIn .pending) (fun t => t.img.verifying && flag t (stgBusy .image)),
  wit true .imgVerify (imgIn .rejected) (fun t => !t.img.verifying && getF t (stgResult .image) == 2),
  wit true .imgVerify imgBusy (fun t => getF t (stgResult .image) == 1),
  wit true .imgDiscard (imgIn .pending) (fun t => t.img.stg.st == .empty),
  wit true .imgDiscard (imgIn .rejected) (fun t => t.img.stg.st == .empty),
  wit true .imgDiscard on (fun t => getF t (stgResult .image) == 2),
  wit true .imgDiscard imgBusy (fun t => getF t (stgResult .image) == 1),
  { imgIn .pending with img := { (imgIn .pending).img with verifying := true } }.img.verifying,
  wit (decide (stgOff (imgIn .opened) .image < 163840)) (.imgStgData 7) (imgIn .opened) (fun t => getR t 0x10008 == 4 && tabGet zeroByte (stagedOf t .image) 0 == 7),
  wit true (.imgStgData 7) (put [(0x10008, 163836)] (imgIn .opened)) (fun t => getR t 0x10008 == 163840),
  wit true (.imgStgData 7) { on with img := { on.img with stg := ⟨.opened, .host, true, []⟩ } } (fun t => t.img.stg.held == [(0, [7, 0, 0, 0])]),
  same true (.imgStgData 7) (put [(0x10008, 163840)] (imgIn .opened)),
  same true (.imgStgData 7) (imgIn .pending)]).all id = true := by decide +kernel

theorem wit_StagingKeepsActive :
    (imgIn .pending).img.active = some true ∧ Instr.imgDiscard ∈ [Instr.imgBegin .host, .imgBeginDone, .imgCommit .host, .imgAbort .host,
      .imgVerify, .imgVerifyDone, .imgDiscard, .imgStgData 0] ∧
    (match exec .imgDiscard (imgIn .pending) with | .next t => t.img.active == some true | _ => false) = true := by decide +kernel

theorem wit_FirmwareStagingCompletes : ([
  wit (stgJudge .firmware .hier false on == .ok && (soleTwin on).isSome) (.updBegin (.hier .equal)) on (fun t => t.upd.stg == ⟨.opened, .hier, true, []⟩ && !t.upd.backup),
  wit (stgJudge .firmware .hier false (updIn .opened) != .ok) (.updBegin (.hier .equal)) (updIn .opened) (fun t => getF t (stgResult .firmware) == 1),
  wit (stgJudge .firmware .host true (updIn .opened) == .ok) (.updCommit .host) (updIn .opened) (fun t => t.upd.stg.st == .pending),
  wit true (.updAbort .host) (updIn .opened) (fun t => t.upd.stg.st == .empty),
  wit (stgJudge .firmware .host true on != .ok) (.updCommit .host) on (fun t => getF t (stgResult .firmware) == 2),
  wit true (.updAbort .host) updBusy (fun t => getF t (stgResult .firmware) == 1),
  same (soleTwin dead).isNone (.updCommit (.hier .differ)) dead,
  wit true .updDiscard (updIn .pending) (fun t => t.upd.stg.st == .empty),
  wit true .updDiscard (updIn .rejected) (fun t => t.upd.stg.st == .empty),
  wit true .updDiscard (updIn .opened) (fun t => getF t (stgResult .firmware) == 2),
  wit true .updDiscard updBusy (fun t => getF t (stgResult .firmware) == 1),
  wit true .updBeginDone { on with upd := { on.upd with stg := ⟨.opened, .host, true, []⟩ } } (fun t => !t.upd.stg.zeroing),
  wit true (.updStgData 7) (put [(0x50008, 90108)] (updIn .opened)) (fun t => getR t 0x50008 == 90112),
  wit true (.updStgData 7) { on with upd := { on.upd with stg := ⟨.opened, .host, true, []⟩ } } (fun t => t.upd.stg.held == [(0, [7, 0, 0, 0])]),
  same true (.updStgData 7) (put [(0x50008, 90112)] (updIn .opened)),
  same true (.updStgData 7) on]).all id = true := by decide +kernel

/-- A save in progress over the first copy, and over the second. -/
def saveA : State := { on with upd := { on.upd with saving := some [] } }
def saveB : State := { on with upd := { on.upd with saving := some [], setA := ((copyBytes 1 0 []).zipIdx.filter (fun x => x.1 != 0)).map (fun x => (x.2, x.1)) } }

theorem wit_SettingsComplete : ([
  wit (ctrlRun on && atReady on && !flag on (stgBusy .firmware)) .saveSettings on (fun t => t.upd.setAsk == some false && flag t (stgBusy .firmware)),
  wit true .defaults on (fun t => t.upd.setAsk == some true),
  wit true .saveSettings updBusy (fun t => getF t (stgResult .firmware) == 1 && t.upd.setAsk == none),
  wit true .defaults standby (fun t => getF t (stgResult .firmware) == 2),
  wit true .saveSettings early (fun t => getF t (stgResult .firmware) == 2),
  wit (ctrlRun on && (soleTwin on).isSome && !overSecond saveA && (readCopy on.upd.setB).wseq == 0) (.settingsSaveDone .equal) saveA
    (fun t => t.upd.saving == none && getF t (stgResult .firmware) == 0 && (readCopy t.upd.setA).wseq == 1 && t.upd.setB == on.upd.setB),
  wit (bothInStep saveA) (.settingsSaveDone .differ) saveA (fun t => t.upd.saving == none && t.twn.a == .proving && t.twn.b == .proving),
  wit (overSecond saveB && (soleTwin saveB).isSome) (.settingsSaveDone .equal) saveB
    (fun t => t.upd.saving == none && t.upd.setA == saveB.upd.setA && (readCopy t.upd.setB).wseq == 2),
  same true (.settingsSaveDone .equal) on,
  same (soleTwin dead).isNone (.settingsSaveDone .equal) { dead with upd := saveA.upd },
  wit true .recoverNext on (fun t => t.upd.recFlag),
  wit true .recoverNext updBusy (fun t => !t.upd.recFlag),
  (let s := setB ⟨0x50004, 5, 1⟩ true (starting 3)
   flag s ⟨0x50004, 5, 1⟩ && s.sys.start.isSome && decide (3 ≤ getF s stageFld)),
  same true .trialTimeout on,
  same (on.sys.start == none) .trialTimeout (setB ⟨0x50004, 5, 1⟩ true on)]).all id = true := by decide +kernel

/-- A recovery request of sender 0x123. -/
def ask (seq : BitVec 16) (len off total : Nat) (data : List Byte) : RcvReq := ⟨0x123, 1, seq, .image, len, off, total, data⟩

/-- In RECOVERY; with a session that has staged four bytes; after a request. -/
def recovering : State := setF stageFld 14 on
def session : State :=
  { recovering with
    img := { on.img with stg := ⟨.opened, .recovery, false, []⟩ }
    upd := { on.upd with sess := some ⟨0x123, .image, 4⟩ } }
def asked : State := { recovering with upd := { on.upd with last := some (5, 3, .state) } }

theorem wit_RecoveryRequestsComplete : ([
  wit (inRecovery recovering) .rcvHelloPeriod recovering (fun t => t.out.length == 1),
  wit (recovering.upd.sess == none && recovering.upd.last == none) (.rcvHello req0) recovering (fun t => t.upd.last == some (5, 1, .ok)),
  wit (stgJudge .image .recovery false recovering == .ok) (.rcvBegin (ask 5 0 0 8 [])) recovering
    (fun t => t.upd.sess == some ⟨0x123, .image, 0⟩),
  wit (stgJudge .image .recovery false session != .ok) (.rcvBegin (ask 5 0 0 8 [])) session (fun t => t.upd.sess == some ⟨0x123, .image, 4⟩),
  wit (rcvShape (ask 5 4 4 8 [1, 2, 3, 4])) (.rcvData (ask 5 4 4 8 [1, 2, 3, 4])) session (fun t => t.upd.sess == some ⟨0x123, .image, 8⟩ && t.upd.last == some (5, 3, .ok)),
  wit true (.rcvData (ask 5 4 5 8 [1, 2, 3, 4])) session (fun t => t.upd.sess == some ⟨0x123, .image, 4⟩ && t.upd.last == some (5, 3, .state)),
  wit true (.rcvData (ask 5 0 0 8 [1])) recovering (fun t => t.upd.last == some (5, 3, .state)),
  wit (stgJudge .image .recovery true session == .ok) (.rcvCommit (ask 6 0 4 4 [])) session (fun t => t.upd.sess == none && t.img.stg.st == .pending),
  wit (stgJudge .image .recovery true recovering != .ok) (.rcvCommit (ask 6 0 4 4 [])) recovering (fun t => t.upd.last == some (6, 4, .state)),
  wit true (.rcvAbort (ask 6 0 0 0 [])) session (fun t => t.upd.sess == none && t.img.stg.st == .empty),
  wit true (.rcvAbort { ask 6 0 0 0 [] with target := .firmware }) session (fun t => t.upd.sess == some ⟨0x123, .image, 4⟩),
  wit (resetAnswer recovering .module == .ok) (.rcvBoot (ask 5 0 0 0 [])) recovering (fun t => t.sys.rstWait == some (.module, false)),
  wit true (.rcvData (ask 5 0 0 8 [1])) asked (fun t => t == emit (rcvReply 3 (ask 5 0 0 8 [1]) .state []) asked),
  wit true (.rcvBegin { ask 5 0 0 8 [] with src := 0x124 }) session (fun t => t.upd == session.upd && t.out.length == 1),
  same (!inRecovery on) (.rcvHello req0) on,
  same (!rcvShape { req0 with ver := 2 }) (.rcvBegin { req0 with ver := 2 }) recovering,
  same (!rcvShape (ask 5 3 0 8 [1, 2, 3])) (.rcvData (ask 5 3 0 8 [1, 2, 3])) session,
  same (!rcvShape (ask 5 1028 0 8 [])) (.rcvData (ask 5 1028 0 8 [])) session,
  wit true .rcvSessionTimeout session (fun t => t.upd.sess == none)]).all id = true := by decide +kernel

/-! ### The host port and the bus master -/

theorem wit_PortCommandsComplete : ([
  wit on.port.link (.pcieConfigWrite { busMaster := true, msiEnable := true }) on (fun t => t.port.cfg.busMaster && t.port.cfg.msiEnable),
  wit true (.pcieConfigWrite {}) { on with port := { on.port with msiPend := 1, cfg := { on.port.cfg with msiEnable := true } } } (fun t => t.port.msiPend == 0),
  same (!State.reset.port.link) (.pcieConfigWrite { busMaster := true }) State.reset,
  wit true .qspiStatus { on with port := { on.port with partialWord := true } } (fun t => !t.port.partialWord && t.hostData.length == 1),
  wit (decide (0xFF#8 ∉ qspiOpcodes)) (.qspiBadop 0xFF) on (fun t => t.port.badop),
  same (decide (0x0B#8 ∈ qspiOpcodes)) (.qspiBadop 0x0B) on,
  wit true (.qspiCsAbort true) on (fun t => t.port.partialWord),
  same true (.qspiCsAbort false) on,
  wit true (.qspiRead 0 0) on (fun t => t.hostData == []),
  wit true (.qspiRead 4 2) (put [(8, 5)] on) (fun t => t.hostData == [getR on 4, 5]),
  ends (.qspiQread 8 1) on (fun t => ends (.qspiRead 8 1) on (fun u => u == t)),
  same true (.qspiWrite 8 []) on,
  wit true (.qspiWrite 8 [3]) on (fun t => getR t 8 == 3),
  wit true (.qspiQwrite 4 [1, 2]) on (fun t => getR t 8 == 2)]).all id = true := by decide +kernel

/-- A descriptor of 64 bytes that ends its frame. -/
def desc0 : Desc := ⟨0x1000, 64, 4, 0⟩

/-- The bus master enabled, with rings 0 to 3 enabled. -/
def rings : State :=
  let s := put [(0x220000, 1), (0x220108, 1), (0x220148, 1), (0x220188, 1), (0x2201C8, 1)] on
  { s with port := { s.port with cfg := { s.port.cfg with busMaster := true } } }

def item0 : HostItem := ⟨[1, 2], 5, 0, 0, 0, 1⟩
def long0 : HostItem := ⟨List.replicate 65 7, 5, 0, 0, 0, 1⟩

/-- The bus master stopped. -/
def noBus (s : State) : State := { s with port := { s.port with cfg := { s.port.cfg with busMaster := false } } }

/-- A receive frame that waits for a descriptor on ring 1. -/
def waits1 : State := { rings with dma1 := { rings.dma1 with rx := some ⟨long0, [7], [(desc0, 64)]⟩, waiting := true } }

theorem wit_RingWritesComplete : ([
  wit (ctrlOn on && !ringEn on 1) (.dmaRingEnable 1 0xFFFFFFFF) on (fun t => getR t (ringReg 1 8) == 0xFFFF001F && (ring t 1).desc == []),
  wit (ringEn rings 3) (.dmaRingEnable 3 0) rings (fun t => !ringEn t 3 && getR t (ringReg 1 8) == 1),
  wit (ringEn rings 3 && !ringHalt rings 3 && !(ring rings 3).waiting && (ring rings 3).tails == []) (.dmaTailWrite 3 0x1001 [desc0]) rings
    (fun t => (ring t 3).desc == [desc0] && getF t ⟨ringReg 3 0x10, 0, 12⟩ == 1),
  wit (!ringEn on 0) (.dmaTailWrite 0 1 [desc0]) on (fun t => (ring t 0).desc == []),
  wit true (.dmaTailWrite 0 1 [desc0]) { rings with dma0 := { rings.dma0 with waiting := true, gather := [(desc0, [1])] } } (fun t => !t.dma0.waiting),
  wit (dmaActive waits1 && waits1.dma1.stall == none && waits1.dma1.tails == [] && !waits1.dma1.expired && (fillBuffers [desc0] [7]).2.1 == []) (.dmaTailWrite 1 1 [desc0]) waits1
    (fun t => (ring t 1).rx == none && !(ring t 1).waiting && (ring t 1).desc == []),
  wit ((fillBuffers [desc0] long0.bytes).2.1 != []) (.dmaTailWrite 1 1 [desc0]) { waits1 with dma1 := { waits1.dma1 with rx := some ⟨long0, long0.bytes, []⟩ } }
    (fun t => (ring t 1).waiting && (ring t 1).rx == some ⟨long0, [7], [(desc0, 64)]⟩),
  wit (!ringLive on 1) .frxFrame { on with dma1 := { on.dma1 with staging := [item0] } } (fun t => t.dma1.staging == [] && getR t (ringReg 1 0x20) == 1),
  wit (ringLive rings 1 && (fillBuffers [desc0] item0.bytes).2.1 == []) .frxFrame { rings with dma1 := { rings.dma1 with staging := [item0], desc := [desc0] } }
    (fun t => t.dma1.staging == [] && t.dma1.desc == [] && t.dma1.rx == none && getR t (ringReg 1 0x18) == 1),
  wit (ringLive rings 2 && (fillBuffers [desc0] long0.bytes).2.1 == [7]) .tlmBlock { rings with dma2 := { rings.dma2 with staging := [long0], desc := [desc0] } }
    (fun t => t.dma2.waiting && t.dma2.rx == some ⟨long0, [7], [(desc0, 64)]⟩),
  same (rings.dma2.staging == []) .tlmBlock rings,
  same (busAllowed waits1 && (ring waits1 1).rx.isSome) .frxFrame { waits1 with dma1 := { waits1.dma1 with staging := [item0] } },
  wit (!ringLive (noBus waits1) 1 && !busAllowed (noBus waits1)) .frxFrame (noBus { waits1 with dma1 := { waits1.dma1 with staging := [item0] } })
    (fun t => t.dma1.staging == [] && t.dma1.rx.isSome && getR t (ringReg 1 0x20) == 1),
  wit true (.dmaWaitExpire 1) waits1 (fun t => t.dma1.rx == none && !t.dma1.waiting),
  wit (!dmaActive (noBus waits1)) (.dmaWaitExpire 1) (noBus waits1) (fun t => t.dma1.expired && t.dma1.rx.isSome),
  same true (.dmaWaitExpire 3) rings]).all id = true := by decide +kernel

theorem wit_TransmitRingsComplete : ([
  wit (ctrlRun rings && atReady rings && ringLive rings 0 && !tstUnlocked rings &&
      (takeFrame [(desc0, [1, 2, 3])]).isSome) (.ftxFrame [[1, 2, 3]]) { rings with dma0 := { rings.dma0 with desc := [desc0, desc0] } }
    (fun t => t.dma0.desc == [desc0] && t.dma0.gather == [] && t.twn.inbox.length == 1 && getR t (ringReg 0 0x18) == 1),
  wit true (.ftxFrame [[1, 2, 3]]) { rings with dma0 := { rings.dma0 with desc := [⟨0, 64, 4 + 4 * 1024, 0⟩] } } (fun t => t.twn.inbox == []),
  wit (takeFrame [((⟨0, 64, 0, 0⟩ : Desc), [1])] == none) (.ftxFrame [[1]]) { rings with dma0 := { rings.dma0 with desc := [⟨0, 64, 0, 0⟩] } }
    (fun t => t.dma0.gather == [(⟨0, 64, 0, 0⟩, [1])] && t.dma0.waiting),
  wit true .ftxWaitExpire { rings with dma0 := { rings.dma0 with waiting := true, gather := [(desc0, [1])] } }
    (fun t => t.dma0.gather == [] && !t.dma0.waiting && getR t (ringReg 0 0x1C) == 1),
  wit true .ftxWaitExpire { on with dma0 := { rings.dma0 with waiting := true, gather := [(desc0, [1])] } } (fun t => t.dma0.expired && t.dma0.gather.length == 1),
  wit (ringLive rings 3) (.blkTransfer []) { rings with dma3 := { rings.dma3 with desc := [⟨0x1000, 4, 0, 0⟩] } }
    (fun t => t.dma3.desc == [] && ringHead t 3 == 1 % ringSize rings 3 && getR t (ringReg 3 0x18) == 1),
  wit (descCap ⟨0x1000, 1, 0x40, 0⟩ == 1) (.blkTransfer [9]) { rings with dma3 := { rings.dma3 with desc := [⟨0x1000, 1, 0x40, 0⟩] } } (fun t => t.dma3.desc == []),
  wit true (.dmaReadError 0 true) { rings with dma0 := { rings.dma0 with gather := [(desc0, [1])] } }
    (fun t => ringHalt t 0 && getF t ⟨ringReg 0 0x14, 1, 2⟩ == 2 && t.dma0.gather == []),
  wit (!ringHalt on 3) (.dmaReadError 3 false) on (fun t => ringHalt t 3),
  wit true (.dmaReadError 3 false) rings (fun t => getF t ⟨ringReg 3 0x14, 1, 2⟩ == 1),
  wit true (.dmaReadTimeout 1) waits1 (fun t => ringHalt t 1 && getF t ⟨ringReg 1 0x14, 1, 2⟩ == 3 && t.dma1.rx == none)]).all id = true := by decide +kernel

/-- The first copy of Twin A's waits at a host merge. -/
def heldFrx (x : HostItem) : State := { rings with port := { rings.port with mergeFrx := [{ twin := .a, item := x }] } }
def heldTlm (x : HostItem) : State := { rings with port := { rings.port with mergeTlm := [{ twin := .a, item := x }] } }

def loneRings : State := { rings with twn := lone.twn }

theorem wit_HostMergeCompletes : ([
  wit (ctrlRun on && !tstUnlocked on && bothInStep on && on.twn.late == [] && hostCopies on false == []) (.hostMerge false .a item0) on (fun u => hostCopies u false == [{ twin := .a, item := item0 }]),
  wit (hostCopies (heldTlm item0) true == [{ twin := .a, item := item0 }]) (.hostMerge true .b item0) (heldTlm item0)
    (fun u => hostCopies u true == [] && (ring u (mergeRing true)).staging == [item0] && twinState u .a == .inStep),
  wit true (.hostMerge false .b long0) (heldFrx item0)
    (fun u => (ring u 1).staging == [if on.twn.readSrc == .a then item0 else long0] && u.twn.a == .proving && u.twn.b == .proving && getR u 0x220008 == 1),
  wit (!bothInStep loneRings && shadowTwin loneRings == none && soleTwin loneRings == some .a) (.hostMerge false .a item0) loneRings
    (fun u => (ring u (mergeRing false)).staging == [item0] && hostCopies u false == []),
  wit (bothInStep (heldFrx item0)) (.hostMergeTimeout false) (heldFrx item0) (fun u => hostCopies u false == [] && (ring u 1).staging == [item0] && getR u 0x220008 == 1),
  wit (!bothInStep lone) (.hostMergeTimeout true) { loneRings with port := (heldTlm item0).port } (fun u => (ring u 2).staging == [item0]),
  wit (soleTwin { lone with twn := { on.twn with a := .failed } } == some .b) (.hostMergeTimeout true)
    { lone with port := (heldTlm item0).port, twn := { on.twn with a := .failed } } (fun u => (ring u 2).staging == [] && hostCopies u true == []),
  same true (.hostMergeTimeout true) on]).all id = true := by decide +kernel

/-! ### The channel drive and the chain ports -/

def ref0 : Ref := ⟨600, 0, false, false, 1⟩

/-- Channel 63 enabled, its own lead, in a state; the reference on the bus; an edited slice of it. -/
def ch63 (st : ChState) : State :=
  setSlice 63 { slice on 63 with st := st, biased := true } (put [(chReg 63 8, 0x1F), (chReg 63 0xC, 0x0064FFFF)] on)
def bound (r : Ref) (s : State) : State := { s with drv := { s.drv with bus := [(2, ref0), (63, r)] } }
def edit (s : State) (f : Slice → Slice) : State := setSlice 63 (f (slice s 63)) s

theorem wit_ReferenceCommandsComplete : ([
  wit (driveOn on && ctrlRun on && atReady on) (.drvChSet 63 0x12345) on
    (fun t => getR t (chReg 63 0) == 0x2345 && t.twn.inbox == [.drvReq 63 0x2345 0xFFFF true]),
  same (!driveOn (without .drive)) (.drvChSet 63 0x12345) (without .drive),
  wit (takeBus 63 (bound ref0 on).drv.bus == some (ref0, [(2, ref0)])) (.referenceArrival 63 []) (bound ref0 on) (fun t => t.drv.bus == [(2, ref0)]),
  wit true (.referenceArrival 63 []) { bound ref0 on with drv := { (bound ref0 on).drv with lost := [7] } }
    (fun t => t.drv.bus == [(2, ref0)] && t.drv.slices == on.drv.slices),
  same (takeBus 63 on.drv.bus == none) (.referenceArrival 63 []) on]).all id = true := by decide +kernel

/-- What ReferenceTakesEffect asks of the lead, channel 63, and of its string. -/
def leadHolds (s : State) : Bool :=
  (takeBus 63 s.drv.bus).isSome && chPowered s 63 && leadOf s 63 == 63 && !chBad s 63 && chOn s 63 && members s 63 == [63]

def later : Ref := { ref0 with ramp := 5, ms := true }

theorem wit_ReferenceTakesEffect : ([
  (let s := bound ref0 (ch63 .run)
   wit (leadHolds s && refUs (memberRef s 63 63 ref0) == 0) (.referenceArrival 63 [])
     s (fun t => (slice t 63).work == 600 && (slice t 63).ref == memberRef s 63 63 ref0 && slice t 2 == slice s 2)),
  (let s := bound later (ch63 .run)
   wit (leadHolds s && refUs (memberRef s 63 63 later) == 5000) (.referenceArrival 63 [0, 0, 0, 0, 0, 0, 0, 9]) s
     (fun t => (slice t 63).ramp == some ⟨workAt s 63 9, 600, 5000, false, false⟩)),
  (let s := bound ref0 (edit (ch63 .soft) (fun x => { x with ramp := some ⟨0, 400, 10000, false, true⟩ }))
   wit (leadHolds s && workAt s 63 4000 == 160) (.referenceArrival 63 [0, 0, 0, 0, 0, 0, 0, 4000]) s
     (fun t => (slice t 63).ramp == some ⟨160, 600, 6000, false, true⟩)),
  (let s := bound ref0 (edit (ch63 .bias) (fun x => { x with fresh := true }))
   wit (leadHolds s) (.referenceArrival 63 []) s (fun t => (slice t 63).st == .soft && (slice t 63).ramp == some ⟨0, 600, 10000, false, true⟩))]).all id = true := by
  decide +kernel

def ramp0 : Ramp := ⟨0, 600, 1000, false, false⟩

theorem wit_RampsAndProbesComplete : ([
  wit true (.rampEnd 63) (edit (ch63 .run) (fun x => { x with ramp := some ramp0 })) (fun t => (slice t 63).work == 600 && (slice t 63).ramp == none && (slice t 63).st == .run),
  wit true (.rampEnd 63) (edit (ch63 .run) (fun x => { x with ramp := some { ramp0 with c1 := 0 } })) (fun t => (slice t 63).st == .bias),
  same true (.rampEnd 63) (edit (ch63 .soft) (fun x => { x with ramp := some { ramp0 with soft := true } })),
  wit true (.softStartEnd 63) (edit (ch63 .soft) (fun x => { x with ramp := some { ramp0 with soft := true } })) (fun t => (slice t 63).work == 600 && (slice t 63).st == .run),
  same true (.rampEnd 63) (ch63 .run),
  same true (.softStartEnd 63) (ch63 .run),
  wit true (.biasEstablished 63) (edit (ch63 .bias) (fun x => { x with biased := false })) (fun t => (slice t 63).biased && (slice t 63).st == .bias),
  (let x := slice (edit (ch63 .bias) (fun x => { x with biased := false, fresh := true, ref := ref0 })) 63
   x.st == .bias && x.ref.code != 0 && x.fresh),
  wit true (.biasEstablished 63) (edit (ch63 .bias) (fun x => { x with biased := false, ref := ref0 })) (fun t => (slice t 63).st == .run),
  wit true (.biasEstablished 63) (edit (ch63 .probe) (fun x => { x with biased := false })) (fun t => (slice t 63).biased && (slice t 63).st == .probe),
  same true (.biasEstablished 63) (ch63 .run),
  wit (chPowered on 63) (.measWindowEnd 63 70000 20) on (fun t => getR t (chReg 63 0x2C) == 0x14FFFF),
  (let s := edit (ch63 .run) (fun x => { x with work := 600, winLoop := 600, qcount := 3, verdict := some true })
   let x := slice s 63
   wit (x.ramp == none && !x.clamp && !x.blank && !departed x (scaleCode s.sys.k x.work) s.sys.k &&
       windowVerdict (vShort s 63) (vOpen s 63) (scaleCode s.sys.k x.work) 20000 1600 == none)
     (.measWindowEnd 63 20000 1600) s (fun t => (slice t 63).qcount == 0)),
  (let s := put [(chReg 63 8, 0x0FA0001F), (chReg 63 0x24, 1)] (edit (ch63 .run) (fun x => { x with work := 600, winLoop := 600 }))
   let x := slice s 63
   wit (!departed x (scaleCode s.sys.k x.work) s.sys.k && windowVerdict (vShort s 63) (vOpen s 63) (scaleCode s.sys.k x.work) 65535 0 == some true &&
       getF s ⟨chReg 63 0x24, 0, 4⟩ == 1)
     (.measWindowEnd 63 65535 0) s (fun t => flag t ⟨chReg 63 0x20, 0, 1⟩)),
  same (!chPowered (without .drive) 63) (.measWindowEnd 63 1 1) (without .drive),
  wit (flag (ch63 .bias) ⟨chReg 63 8, 1, 1⟩ && getF (ch63 .bias) ⟨chReg 63 0x24, 16, 8⟩ != 0 && !fromSafe (ch63 .bias) 63) (.probeDue 63) (ch63 .bias)
    (fun t => (slice t 63).st == .probe),
  wit true (.probeNow 63) (edit (ch63 .bias) (fun x => { x with latentA := true })) (fun t => (slice t 63).st == .probe),
  wit true (.probeNow 63) (edit (ch63 .bias) (fun x => { x with latentA := true, phaseB := false })) (fun t => (slice t 63).st == .dead && flag t ⟨chReg 63 0x20, 6, 1⟩),
  same true (.probeNow 63) (ch63 .run),
  wit (probeVerdict (vShort (ch63 .probe) 63) (vOpen (ch63 .probe) 63) 20000 1600 == none) (.probeEnd 63 20000 1600)
    (edit (ch63 .probe) (fun x => { x with failRun := true })) (fun t => (slice t 63).st == .bias && !(slice t 63).failRun),
  wit (probeVerdict (vShort (ch63 .probe) 63) (vOpen (ch63 .probe) 63) 65535 0 == some true) (.probeEnd 63 65535 0) (ch63 .probe)
    (fun t => (slice t 63).failRun && t.regs == (ch63 .probe).regs),
  wit true (.probeEnd 63 65535 0) (edit (ch63 .probe) (fun x => { x with failRun := true })) (fun t => !(slice t 63).failRun && flag t ⟨chReg 63 0x20, 2, 1⟩),
  same true (.probeEnd 63 0 0) (ch63 .bias),
  wit (getF (ch63 .stopped) ⟨chReg 63 0x24, 8, 8⟩ != 0 && probeVerdict (vShort (ch63 .stopped) 63) (vOpen (ch63 .stopped) 63) 20000 1600 == none && !j1Ok on)
    (.retryDue 63 20000 1600) (ch63 .stopped) (fun t => (slice t 63).st == .waitJ1),
  wit true (.retryDue 63 65535 0) (ch63 .stopped) (fun t => (slice t 63).st == .stopped),
  same true (.retryDue 63 0 0) (ch63 .run)]).all id = true := by decide +kernel

theorem wit_ChannelFaultsComplete : ([
  wit (!(slice (ch63 .stopped) 63).latentA && (slice (ch63 .stopped) 63).phaseA) (.clear 63) (ch63 .stopped)
    (fun t => (slice t 63).st == (if j1Ok on then .bias else .waitJ1) && (slice t 63).fresh),
  wit true (.clear 63) (edit (ch63 .dead) (fun x => { x with phaseA := false })) (fun t => (slice t 63).st == .waitJ1 && (slice t 63).phaseA),
  wit (chPowered on 63) (.phaseRetry 63) (edit (ch63 .dead) (fun x => { x with phaseB := false })) (fun t => (slice t 63).st == .waitJ1 && (slice t 63).phaseB),
  same true (.clear 63) (ch63 .run),
  wit true (.phaseRetry 63) (edit (ch63 .run) (fun x => { x with phaseB := false })) (fun t => (slice t 63).phaseB && (slice t 63).st == .run),
  same true (.phaseRetry 63) (without .drive),
  wit (!switching (slice (ch63 .waitJ1) 63)) (.phaseFault 63 true) (ch63 .waitJ1) (fun t => (slice t 63).latentB && t.regs == (ch63 .waitJ1).regs),
  same (switching (slice (ch63 .run) 63)) (.phaseFault 63 false) (edit (ch63 .run) (fun x => { x with phaseA := false })),
  wit true (.phaseFault 63 false) (ch63 .run) (fun t => !(slice t 63).phaseA && (slice t 63).st == .run && flag t ⟨chReg 63 0x20, 4, 1⟩),
  wit true (.phaseFault 63 false) (edit (ch63 .run) (fun x => { x with phaseB := false }))
    (fun t => (slice t 63).st == .dead && flag t ⟨chReg 63 0x20, 6, 1⟩ && flag t ⟨chReg 63 0x20, 4, 1⟩),
  (slice (ch63 .run) 63).st == .run && !(slice (ch63 .run) 63).clamp,
  same true (.pwrClamp 63 true) (ch63 .bias),
  wit true (.pwrClamp 63 false) (edit (ch63 .run) (fun x => { x with clamp := true })) (fun t => !(slice t 63).clamp),
  (let s := edit (ch63 .run) (fun x => { x with clamp := true, work := 600, winLoop := 100 })
   wit ((slice s 63).ramp == none && departed (slice s 63) (scaleCode s.sys.k 600) s.sys.k) (.pwrClamp 63 false) s (fun t => (slice t 63).blank)),
  wit (driveOn on && !on.drv.lost.contains 7) (.kyoviLoss 7) (ch63 .run) (fun t => t.drv.lost == [7] && (slice t 63).st == .off),
  same true (.kyoviLoss 7) (without .drive)]).all id = true := by decide +kernel

theorem wit_ChannelFrame :
    Instr.probeNow 63 ∈ channelCommands 63 0 0 0 false ∧
    (match exec (.probeNow 63) (ch63 .bias) with | .next t => slice t 62 == slice (ch63 .bias) 62 | _ => false) = true := by decide +kernel

theorem wit_LinearRampBounds :
    (let s := { ch63 .run with drv := { (ch63 .run).drv with loaded := true } }
     clampCode s 63 0 == 0 && decide (clampCode s 63 65535 ≤ iMax s 63) && !chEnabled s 62 && clampCode s 62 900 == 0 &&
     decide (clampCode (ch63 .run) 63 65535 ≤ safeLimit (ch63 .run) 63) &&
     !ramp0.log && decide (0 < ramp0.us) && rampValue 0 ramp0 0 == 0 && rampValue 0 ramp0 500 == 300 && rampValue 0 ramp0 1000 == 600) = true := by
  decide +kernel

/-- Port 3 enabled with three drivers of two fields, a new word owed. -/
def port3 : State :=
  let s := setB (chnReady 3) true (put [(chnReg 3 0, 0x20301), (chnReg 3 4, 4), (chnReg 3 8, 100)] on)
  setChain 3 { chain s 3 with newWord := true } s

/-- A frame of a word in progress on it, with CHECK set and the preceding frame's word known; a measurement in progress. -/
def shifting3 : State :=
  let s := setB ⟨chnReg 3 0, 1, 1⟩ true (setB (chnActive 3) true port3)
  setChain 3 { chain s 3 with shifting := [1], prev := [2], skipNow := false } s
def measuring3 : State := setB (chnMeasuring 3) true port3

theorem wit_ChainCompletes : ([
  wit (driveOn on && ctrlRun on && atReady on) (.chnDrvSet 3 127 0x15678) on
    (fun t => t.twn.inbox == [.chnReq 3 127 0x567800000000] && getR t (chnReg 3 0xBFC) == 0x5678),
  same true (.chnDrvSet 3 127 1) (without .drive),
  wit (frameDue port3 3 && !chnBad port3 3) (.chainFrameStart 3) port3
    (fun t => flag t (chnActive 3) && !(chain t 3).newWord && (chain t 3).shifting == frameWords port3 3 && (chain t 3).shifting.length == 3),
  same (!frameDue on 3) (.chainFrameStart 3) on,
  wit (chnUp shifting3 3 && flag shifting3 ⟨chnReg 3 0, 1, 1⟩) (.chainLatch 3 (wordBits false 2)) shifting3
    (fun t => t.out == [.chain 3 (wordBits false 1)] && !flag t (chnActive 3) && (chain t 3).prev == [1] && flag t (chnChecked 3) && getR t (chnReg 3 0x18) == 0),
  wit true (.chainLatch 3 (wordBits false 3)) shifting3 (fun t => flag t ⟨chnReg 3 0x18, 0, 1⟩),
  wit true (.chainLatch 3 (List.replicate 48 true)) shifting3 (fun t => flag t ⟨chnReg 3 0x18, 1, 1⟩),
  wit true (.chainLatch 3 []) (setChain 3 { chain shifting3 3 with skipNow := true } shifting3) (fun t => !flag t (chnChecked 3)),
  same true (.chainLatch 3 []) port3,
  wit (chnEnable port3 3 && chnUp port3 3 && getF port3 ⟨chnReg 3 8, 0, 16⟩ != 0) (.chainRefreshDue 3) port3 (fun t => (chain t 3).refresh && t.regs == port3.regs),
  wit true (.chainRefreshDue 3) shifting3 (fun t => flag t ⟨chnReg 3 0x18, 4, 1⟩),
  same true (.chainRefreshDue 3) on,
  wit (chnUp port3 3 && flag port3 (chnReady 3)) (.reshift 3) port3 (fun t => (chain t 3).reshift),
  same true (.reshift 3) on,
  wit (!flag port3 (chnMeasuring 3)) (.measure 3) port3 (fun t => flag t (chnMeasuring 3) && !(chain t 3).measReq),
  wit true (.measure 3) shifting3 (fun t => (chain t 3).measReq),
  same true (.measure 3) measuring3,
  wit (chnDrivers port3 3 == 3) (.measureDone 3 144) measuring3 (fun t => getF t ⟨chnReg 3 0x14, 8, 8⟩ == 3 && !flag t ⟨chnReg 3 0x18, 3, 1⟩ && (chain t 3).reshift),
  wit true (.measureDone 3 145) measuring3 (fun t => flag t ⟨chnReg 3 0x18, 3, 1⟩),
  wit true (.measureNoret 3) measuring3 (fun t => flag t ⟨chnReg 3 0x18, 2, 1⟩ && !flag t (chnMeasuring 3)),
  same true (.measureDone 3 144) port3,
  same true (.measureNoret 3) port3]).all id = true := by decide +kernel

/-! ### The reflex fabric and the mitre -/

/-- FAB OFF; FAB in ARMED-COLD with its clock running. -/
def cold : State := setF Dom.fab.fld 0 on
def armed : State := setB clkRun true (setF Dom.fab.fld 1 on)

theorem wit_FabricCommandsComplete : ([
  wit true (.presenceEdge [(31, true)]) on (fun t => bitOf t.rfx.pins 31),
  wit (!fabOn cold && !bitOf (getR cold 0x24) 31) (.presenceEdge [(31, true)]) cold (fun t => bitOf t.rfx.pins 31 && t.regs == cold.regs),
  wit (fabOn on && inEnabled on 39) (.ainStrobe [0, 0, 0, 0, 0, 0, 0, 704000]) on (fun t => getF t ⟨0x13021C, 0, 16⟩ == 11000 && flag t ⟨0x13021C, 16, 1⟩),
  wit (!inEnabled (put [(0x13019C, 0)] on) 39) (.ainStrobe [0, 0, 0, 0, 0, 0, 0, 64]) (put [(0x13019C, 0), (0x13021C, 7)] on)
    (fun t => getR t 0x13021C == 0),
  wit (loadedCells on == []) (.fabricTimerExpire [63]) { on with rfx := { on.rfx with due := [63] } } (fun t => t.rfx.due == [] && getR t (tmrReg 63) == 0),
  wit true (.rfxModeWrite 0xF0) on (fun t => getR t 0x130004 == 0xF0),
  wit true (.rfxLockClr true 0x80000000) (setB ⟨lockReg 63, 0, 1⟩ true (setB ⟨lockReg 62, 0, 1⟩ true on)) (fun t => getR t (lockReg 63) == 0 && getR t (lockReg 62) == 1),
  wit (fab armed == .cold) .fabricClockStop armed (fun t => !flag t clkRun),
  same (fab on != .cold) .fabricClockStop on,
  same true (.ainStrobe [1, 2]) cold,
  same true (.rfxModeWrite 1) cold]).all id = true := by decide +kernel

/-- Cell 5, loaded and enabled: a rising edge of input 31 sets channel 63 to level 0x0280; FAB is HOT. -/
def reflex : State :=
  put [(0x130500, 0x20), (0x130014, 0x80000000), (cellReg 5 0, 0x1F000000), (cellReg 5 1, 0x00000001), (cellReg 5 2, 0x00010000), (cellReg 5 3, 0x0280),
    (cellReg 5 5, 0x80000000), (cellReg 5 6, 1), (0x130100 + 4 * 31, 1)]
    { ch63 .run with drv := { (ch63 .run).drv with loaded := true } }

theorem wit_ReflexSets : ([
  (let c := cellOf reflex 5
   wit (loadedCells reflex == [5] && c.cls == 0 && c.src == 31 && c.cond == 1 && c.op == 1 && !c.argA.testBit 15 && !c.argB.testBit 15 &&
       cellEnabled reflex 5 && fabOn reflex && inEnabled reflex 31 && !inInverted reflex 31 && !bitOf reflex.rfx.pins 31 &&
       !bitOf reflex.rfx.seen 31 && !bitOf (getR reflex 0x24) 31 && c.targets == [63] && !locked reflex 63 && rfxChEn reflex 63 &&
       clampCode reflex 63 c.level == 100)
     (.presenceEdge [(31, true)]) reflex
     (fun t => tabGet (fun _ => 0) t.drv.mitre 63 == 100 && tabGet (fun _ => 0) t.drv.mitre 62 == 0 && getR t 0x130040 == 1))]).all id = true := by
  decide +kernel

/-- DRIVE in HOLD; the first copy of Twin A's reference, and of its chain word, waits at the mitre. -/
def hold : State := setF Dom.drive.fld 1 on
def word0 : MitreItem := .word 3 127 0xABC
def waiting (x : MitreItem) (s : State) : State := { s with twn := { s.twn with copies := [{ twin := .a, item := x }] } }

theorem wit_MitreCommandsComplete : ([
  wit (driveLive on && bothInStep on && !tstUnlocked on && copiesOf on ⟨.ch 63, 0⟩ == []) (.mitreTwinReference .a ⟨.ref 63 ref0, 0⟩ []) on
    (fun u => copiesOf u ⟨.ch 63, 0⟩ == [{ twin := .a, item := .ref 63 ref0 }] && u.drv == on.drv),
  wit true (.mitreTwinReference .b ⟨.ref 63 later, 0⟩ []) (waiting (.ref 63 ref0) on)
    (fun u => copiesOf u ⟨.ch 63, 0⟩ == [] && u.twn.a == .proving && u.twn.b == .proving && getR u 0x500040 == 1),
  same (!driveLive hold) (.mitreTwinReference .a ⟨.ref 63 ref0, 0⟩ []) hold,
  wit true (.mitreSoloDeadline ⟨.ch 63, 0⟩) (waiting (.ref 63 ref0) hold) (fun u => copiesOf u ⟨.ch 63, 0⟩ == []),
  wit true (.mitreSoloDeadline ⟨.ch 63, 0⟩) (waiting (.ref 63 ref0) on)
    (fun u => copiesOf u ⟨.ch 63, 0⟩ == [] && strikeCount u .b == 1 && getR u 0x500044 == 1),
  same true (.mitreSoloDeadline ⟨.ch 63, 0⟩) on,
  wit (copiesOf (waiting (.ref 63 ref0) on) ⟨.ch 63, 1⟩ == []) (.mitreTwinReference .b ⟨.ref 63 ref0, 1⟩ []) (waiting (.ref 63 ref0) on)
    (fun u => u.twn.copies.length == 2 && u.drv == on.drv),
  (let s := waiting (.ref 63 ref0) (ch63 .run)
   wit (!locked s 63) (.mitreTwinReference .b ⟨.ref 63 ref0, 0⟩ []) s
     (fun u => u.drv.bus == [(63, { ref0 with code := BitVec.ofNat 16 (clampCode s 63 600) })] && copiesOf u ⟨.ch 63, 0⟩ == [] &&
       tabGet (fun _ => 0) u.drv.mitre 63 == BitVec.ofNat 16 (clampCode s 63 600))),
  (let s := setB ⟨lockReg 63, 0, 1⟩ true (waiting (.ref 63 ref0) (ch63 .run))
   wit (locked s 63) (.mitreTwinReference .b ⟨.ref 63 ref0, 0⟩ []) s (fun u => u.drv.bus == [] && copiesOf u ⟨.ch 63, 0⟩ == [])),
  wit (soleTwin lone == some .a && shadowTwin lone == none) (.mitreTwinReference .a ⟨.ref 63 ref0, 0⟩ []) lone (fun u => u.drv.bus.length == 1),
  wit true (.mitreTwinReference .b ⟨word0, 0⟩ []) (waiting word0 on)
    (fun u => copiesOf u ⟨word0.key, 0⟩ == [] && chainWord (chain u 3) 127 == 0xABC && (chain u 3).newWord)]).all id = true := by decide +kernel

/-! ### The calendar and the schedule table -/

theorem wit_CalendarArithmetic :
    (possible (fieldsOf 0 6) && possible (fieldsOf (cycleSecs - 1) 0) && fieldSecs (fieldsOf (cycleSecs - 1) 0) == cycleSecs - 1 &&
      fieldsOf (59 * 86400) 2 == ⟨0, 0, 0, 2, 29, 2, 0⟩) = true := by decide +kernel

/-- 23:59:59 on 31 December of year 399, in the load registers. -/
def lastSec : State := put [(0x30030, 0x173B3B), (0x30034, 0x18F0C1F)] on

/-- The host owns the calendar, which shows SEC 7. -/
def calOwned : State := put [(0x30044, 1), (0x3001C, 7)] on

/-- Firmware's word with equal copies of both twins. -/
def fw : Issuer := .firmware .equal

/-- A calendar that withholds three ticks. -/
def withheld (s : State) : State := setB calBusy true { s with cal := { s.cal with hold := 3 } }

theorem wit_CalendarCommandsComplete : ([
  wit (issued lastSec .host && calOwner lastSec false .host && !flag lastSec calBusy && possible (fieldsFrom (getR lastSec 0x30030) (getR lastSec 0x30034)))
    (.calLoadFields .host 0) lastSec (fun t => flag t ⟨0x30000, 0, 1⟩ && (calFields t).day == 31 && (calFields t).year == 399),
  (let s := put [(0x30034, 0xC00)] lastSec
   !possible (fieldsFrom (getR s 0x30030) (getR s 0x30034)) && calOwner s false .host),
  wit (issued lastSec fw && calOwner lastSec false fw && !lastSec.cal.bad) (.calFieldStep fw (some 0xFFFFFFFF) 0) (put [(0x30014, 0x5000001)] on)
    (fun t => getF t ⟨0x30000, 8, 8⟩ == 0 && fieldPos t == fieldPos (put [(0x30014, 0x5000001)] on) - 1),
  wit true (.calFieldStep .host none 0) (put [(8 + 0x30000, 2)] lastSec) (fun t => getF t ⟨0x30000, 8, 8⟩ == 0),
  wit (issued calOwned .host && calOwner calOwned true .host && decide (signed 16 (0xFFFD : BitVec 16).toNat < 0)) (.calShift .host (some 0xFFFD) 5 0) calOwned
    (fun t => flag t calBusy && t.cal.hold == 3 && getF t ⟨0x30000, 8, 8⟩ == 0),
  wit true (.calShift .host (some 0x8000) 5 0) calOwned (fun t => t.cal.hold == 32767),
  wit true (.calShift .host (some 3) 5 0) calOwned (fun t => calSub t == 9 && calSec t == 7),
  wit (decide (32767 ≤ calSub calOwned + 32767)) (.calShift .host (some 32767) 0 0) calOwned (fun t => calSec t == 8 && calSub t == 0),
  wit true (.calLoadSec .host (some 0xFFFFFFFFFFFF) 5) calOwned (fun t => calSec t == 2 ^ 48 - 1 && flag t ⟨0x30000, 0, 1⟩),
  wit true (.calStep .host (some 0xFFFFFFF8) 5) calOwned (fun t => calSec t == 2 ^ 48 - 1),
  wit (issued on fw && calOwner on true fw) (.calLoadSec fw (some 9) 0) on (fun t => calSec t == 9),
  wit true (.calLoadSec .host none 0) (put [(0x30038, 5), (0x3003C, 1)] calOwned) (fun t => calSec t == 5 + 2 ^ 32),
  wit true (.calStep .host none 0) (put [(0x30008, 4)] calOwned) (fun t => calSec t == 11),
  wit true (.calShift .host none 0 0) calOwned (fun t => getF t ⟨0x30000, 8, 8⟩ == 0),
  (let u := withheld calOwned
   wit (flag u calBusy && issued u .host) (.calStep .host (some 1) 0) u (fun t => getF t ⟨0x30000, 8, 8⟩ == Code.busy.num && calSec t == 7)),
  wit true (.calLoadFields .host 0) (withheld lastSec) (fun t => getF t ⟨0x30000, 8, 8⟩ == Code.busy.num && calFields t == calFields lastSec),
  wit (!calHost on) (.calStep .host (some 1) 0) on (fun t => t == calAnswer .state on),
  same (calHost calOwned) (.calStep fw (some 1) 0) calOwned]).all id = true := by decide +kernel

/-- NET with an anchor; the calendar's owner is firmware, or the host. -/
def anchored (s : State) : State := put [(0x210014, 2)] s

theorem wit_CalendarEventsComplete : ([
  wit true .calShiftDone (withheld on) (fun t => t.cal.hold == 0 && !flag t calBusy),
  same true .calShiftDone on,
  same ((withheld on).cal.hold != 0) (.calSecondBoundary 0 true true none) (withheld on),
  wit true (.calSecondBoundary 0 false false none) { calOwned with cal := { calOwned.cal with pend := some 2 } } (fun t => t.cal.pend == none),
  wit (calOwned.cal.hold == 0 && calOwned.cal.pend == none && calHost calOwned && !calOwned.cal.bad && possible (calFields calOwned))
    (.calSecondBoundary 0 true true none) calOwned (fun t => calSec t == 8 && calSub t == 0 && fieldPos t == fieldPos calOwned + 1),
  wit (bothInStep on && netOn on && ctrlRun on) (.calSecondBoundary 0 false false none) (setDisc true on) (fun t => !flag t ⟨0x30044, 1, 1⟩ && calSec t == 1),
  wit (!calHost (anchored on) && anchorValid (tsuAdvance 0 (anchored on))) (.calSecondBoundary 0 true true (some 0xFFFFF)) (anchored on)
    (fun t => flag t ⟨0x30044, 1, 1⟩ && getR t 0x30040 == 0xFFFFF && t.cal.idle == 0),
  wit (!calHost on) .discHoldoverExpire (setDisc true on)
    (fun t => t == if decide (on.cal.idle < holdS on) then setDisc true on else setDisc false (setDisc true on)),
  same true .discHoldoverExpire (setDisc true calOwned),
  wit (routeOpen calOwned .qspi && !tstUnlocked calOwned) (.calShadowRead .qspi 0 0) calOwned
    (fun t => flag t shadowFld && t.cal.shadow == some (shadowRegs.map (getR calOwned)) && t.hostData == [getR calOwned (shadowRegs.getD 0 0)]),
  wit true (.calShadowRead .qspi 4 0) { calOwned with cal := { calOwned.cal with shadow := some [1, 2, 3, 4, 5] } } (fun t => t.hostData == [5]),
  same (!routeOpen State.reset .pcie) (.calShadowRead .pcie 4 0) State.reset,
  wit true .calShadowExpire { calOwned with cal := { calOwned.cal with shadow := some [1, 2, 3, 4, 5] } } (fun t => t.cal.shadow == none && !flag t shadowFld)]).all id = true := by
  decide +kernel

/-- Entry 31 for the host, in a state at a second. -/
def entry31 (st : Nat) (sec : Word) : State := setSch 31 st (put [(schReg 31 0, sec)] calOwned)

/-- The same handed to the time-stamp unit; the same FINE. -/
def handed : State := { entry31 1 9 with tsu := { on.tsu with fine := [(31, 0)] } }
def fine31 : State := put [(schReg 31 0xC, 0x10), (0x30044, 3), (0x210014, 2)] (entry31 1 9)

theorem wit_ScheduleCompletes : ([
  wit (schHalf 31 .host && issued (entry31 1 9) .host) (.schedArm .host 31 0) (entry31 1 9) (fun t => schState t 31 == 1 && calSec t == 7),
  wit (!schDue (entry31 0 9) 31) (.schedArm .host 31 0) (entry31 0 9) (fun t => schState t 31 == 1),
  wit (schDue (entry31 0 3) 31 && schPeriod (entry31 0 3) 31 == 0) (.schedArm .host 31 0) (entry31 0 3)
    (fun t => schState t 31 == (if schInGrace 31 (entry31 0 3) then 2 else 3)),
  wit (schInGrace 31 (entry31 0 7)) (.schedArm .host 31 0) (entry31 0 7) (fun t => schState t 31 == 2 && getF t ⟨schReg 31 0x18, 8, 8⟩ == 0),
  wit (schHalf 32 fw && issued calOwned fw) (.schedArm fw 32 0) (put [(schReg 32 0, 9)] calOwned) (fun t => schState t 32 == 1),
  same (!schHalf 32 .host) (.schedArm .host 32 0) calOwned,
  wit true (.schedCancel .host 31) handed (fun t => schState t 31 == 0 && t.tsu.fine == []),
  same true (.schedCancel fw 31) (entry31 1 9),
  same (schFallDue (entry31 1 9) == []) (.scheduleRelease 0) (entry31 1 9),
  wit (schFallDue (entry31 1 7) == [31]) (.scheduleRelease 0) (entry31 1 7) (fun t => schState t 31 == 2 && getF t ⟨schReg 31 0x18, 8, 8⟩ == 0),
  (let s := put [(schReg 31 0x10, 10)] (entry31 1 7)
   wit (schPeriod s 31 == 10 && schFallDue s == [31]) (.scheduleRelease 0) s (fun t => schState t 31 == 1 && schSec t 31 == 17)),
  (let s := put [(schReg 31 0xC, 0x502), (schReg 31 0x14, 77)] (entry31 1 7)
   wit (ctrlRun s && atReady s && schFallDue s == [31]) (.scheduleRelease 0) s (fun t => t.twn.inbox == [.sched 31 5 77])),
  wit (netOn handed && rawReached handed 0 && schState handed 31 == 1) (.fineRelease 31 0) handed
    (fun t => schState t 31 == 2 && t.tsu.fine == []),
  same true (.fineRelease 30 0) handed,
  wit (flag fine31 ⟨schReg 31 0xC, 4, 1⟩ && flag fine31 ⟨0x30044, 1, 1⟩ && anchorValid fine31 && decide (nowUnits fine31 + 1000000 * 32768 ≤ schUnits fine31 31) &&
      decide (schUnits fine31 31 < nowUnits fine31 + 2 ^ 31 * 32768)) (.fineHandoff 31) fine31 (fun t => t.tsu.fine == [(31, rawOf fine31 (schNs fine31 31 : Nat))]),
  same true (.fineHandoff 31) (entry31 1 9)]).all id = true := by decide +kernel

/-! ### Energy metering -/

/-- Point 0 of KIND 4 with RATIO 3, which drives pulse output 0 with 10 pulses per kWh and has counted 10 pulses. -/
def pulsed : State :=
  let s := put [(ptReg 0 0, 0x80000004), (ptReg 0 4, 3), (ptReg 0 8, 0xA0000)] on
  setTot 0 (withResidues { ptTot s 0 with s0 := 10 }) s

/-- In step 1 with two pulses of input 0; with a trip; ZERO written in step 0. -/
def counting : State := { pulsed with mtr := { pulsed.mtr with s0 := [(0, 2)] }, twn := { on.twn with step := 1 } }
def tripped : State := { counting with sys := { counting.sys with trip := true } }
def step0 : MeterStep := ⟨[], [], []⟩

/-- Upsets of the twins' results of point 0 that the residues show. -/
def upsetA : MeterUpset := ⟨.a, 0, 1, 0, 0, [], []⟩
def upsetB : MeterUpset := ⟨.b, 0, 0, 1, 0, [], []⟩

theorem wit_MeterStepCompletes : ([
  wit (ctrlOn counting && bothInStep counting && !tstUnlocked counting && !flag counting pwrSave && ptSampled counting 0 && residuesAgree counting) (.meterStep step0) counting
    (fun t => (ptTot t 0).s0 == 12 && ptTot t 1 == ptTot counting 1 && t.mtr.s0 == [] && secondOf t 1 == secondOf counting 1),
  wit true (.meterStep step0) { counting with mtr := { counting.mtr with zero := [(0, 0)] } } (fun t => (ptTot t 0).s0 == 0 && residueOk (ptTot t 0)),
  wit (0 % 8000 == 0) (.meterStep step0) { counting with twn := on.twn } (fun t => t.mtr.second == [] && getR t (ptReg 0 0x38) != 0),
  wit true (.meterStep step0) tripped (fun t => t.mtr.held == [⟨1, step0, [], 0, [(0, 2)], 0, false⟩] && t.mtr.s0 == []),
  same true (.meterStep step0) (setF Dom.ctrl.fld 0 counting)]).all id = true := by decide +kernel

/-- A step of point 0 that both datapaths failed. -/
def failed0 : State := { pulsed with mtr := { pulsed.mtr with retry := [(0, { es := [5] })] } }

theorem wit_MeteringCompletes : ([
  wit (residuesAgree counting && !(datapath counting [upsetA] false .a 0 { es := [], pulses := 2 }).1 &&
      (datapath counting [upsetA] false .b 0 { es := [], pulses := 2 }).1) (.meterStep { step0 with upsets := [upsetA] }) counting
    (fun t => (ptTot t 0).s0 == 12 && (ptTot t 0).imp == 0 && t.mtr.retry == [] && getR t 0x120020 == 1),
  wit (!(datapath counting [upsetA, upsetB] false .a 0 { es := [], pulses := 2 }).1 &&
      !(datapath counting [upsetA, upsetB] false .b 0 { es := [], pulses := 2 }).1) (.meterStep { step0 with upsets := [upsetA, upsetB] }) counting
    (fun t => (ptTot t 0).s0 == 10 && t.mtr.retry == [(0, { es := [], pulses := 2 })]),
  wit (residuesAgree failed0) (.meterRetry 0 []) failed0 (fun t => (ptTot t 0).imp == 5 && t.mtr.retry == []),
  wit (!(datapath failed0 [upsetA, upsetB] false .a 0 { es := [5] }).1 && !(datapath failed0 [upsetA, upsetB] false .b 0 { es := [5] }).1) (.meterRetry 0 [upsetA, upsetB]) failed0
    (fun t => (ptTot t 0).imp == 0 && t.mtr.retry == [] && getR t 0x12002C == 1),
  same true (.meterRetry 0 [upsetA]) on,
  wit (mtrOn on) (.islandFrame true [1, 2] 2 1 (some 44999)) on
    (fun t => t.mtr.island == [1, 0] && flag t ⟨0x120000, 0, 1⟩ && flag t ⟨0x120004, 1, 1⟩ && flag t ⟨0x120004, 2, 1⟩ && flag t ⟨0x120004, 3, 1⟩ && t.mtr.freq == 44999),
  wit true (.islandFrame false [1, 2] 0 0 none) on (fun t => t.mtr.island == [] && flag t ⟨0x120004, 0, 1⟩ && getR t 0x120030 == 1),
  same true (.islandFrame true [1, 2] 0 0 none) (without .mtr),
  wit on.fitS0 (.s0Pulse 31) (put [(0x12017C, 0xFFFFFFFF)] on) (fun t => getR t 0x12017C == 0 && tabGet (fun _ => 0) t.mtr.s0 31 == 1 && t.twn.inbox == [.s0 31]),
  same true (.s0Pulse 31) { on with fitS0 := false }]).all id = true := by decide +kernel

theorem wit_MeterArithmetic :
    (roundU (5, 2) == 3 && roundU (-5, 2) == -3 && decide ((5 : Int).natAbs + 2 < 2 ^ 63 * 2) && (addSample { imp := 2 ^ 96 - 1, rImp := residue (2 ^ 96 - 1) } 2).imp == 1 &&
      residueOk (addSample { imp := 2 ^ 96 - 1, rImp := residue (2 ^ 96 - 1) } 2) && residuesAgree pulsed && residuesAgree failed0 &&
      (addSample {} (-2)).exp == 2 && ptValid pulsed 0 && ptKind pulsed 0 == 4 && ptRatio pulsed 0 == 3 && pulsed.fitS0 &&
      (ptShown pulsed 0).imp / 2 ^ 32 == 3333333333) = true := by decide +kernel

/-- A save in progress. -/
def saving (k : SaveKind) : State :=
  setB savingFld true { on with mtr := { on.mtr with saving := some ⟨k, true, 5, []⟩ }, sys := { on.sys with rstWait := some (.module, false), trip := true } }
def reconf : State := put [(ptReg 127 0x44, 1)] on

theorem wit_MeterSavesComplete : ([
  wit (on.twn.step.toNat % 8000 == 0) (.meterSaveStart .periodic) on
    (fun t => flag t savingFld && t.mtr.saving == some ⟨.periodic, nextBank on, stepNs on, snapTots on⟩ && !bankGood (bankOf t (nextBank on))),
  wit true (.meterSaveStart .host) { on with mtr := { on.mtr with hostDue := true } } (fun t => t.mtr.saving.isSome),
  wit true (.meterSaveStart .reset) (saving .host) (fun t => t == saveWaits .reset (saving .host)),
  wit true (.meterSaveStart .final) (saving .host) (fun t => flag t pwrSave && t.mtr.waiting == none),
  same true (.meterSaveStart .final) (saving .final),
  same true (.meterSaveStart .host) on,
  same true (.meterSaveStart .periodic) { on with twn := { on.twn with step := 1 } },
  wit true .meterSaveDone (saving .host) (fun t => t.mtr.saving == none && !flag t savingFld && getR t 0x120034 == 1),
  wit true .meterSaveDone (saving .reset) (fun t => t.sys.rstSaved),
  wit true .meterSaveDone (setB pwrSave true (saving .final)) (fun t => !flag t pwrSave),
  same true .meterSaveDone on,
  wit (mtrOn on) .saveNow on (fun t => t.mtr.hostDue && getF t ⟨0x120010, 0, 8⟩ == 0),
  wit true .saveNow { on with mtr := { on.mtr with waiting := some .reset } } (fun t => !t.mtr.hostDue && getF t ⟨0x120010, 0, 8⟩ == 1),
  wit (flag reconf ⟨ptReg 127 0x44, 0, 1⟩) (.zero 127) reconf (fun t => t.mtr.zero == [(127, 0)] && getF t ⟨0x120010, 0, 8⟩ == 0),
  wit true (.zero 127) on (fun t => t == mtrAnswer .state on),
  same true (.zero 127) (without .mtr),
  wit (plsConst pulsed 0 != 0 && decide (0 < owed pulsed 0) && decide (owed pulsed 0 ≤ 65535) && !plsBad pulsed 0 && !plsBad pulsed 1 && !plsBad pulsed 2 && !plsBad pulsed 3) .pulseStep pulsed (fun t => pulse t 0 == ⟨1, 1⟩),
  wit (plsConst on 3 == 0) .pulseStep (setPulse 3 ⟨5, 1⟩ on) (fun t => pulse t 3 == ⟨0, 1⟩),
  wit (decide (65535 < owed pulsed 0 - (-70000))) .pulseStep (setPulse 0 ⟨-70000, 1⟩ pulsed) (fun t => pulse t 0 == ⟨owed pulsed 0 - 65535, 1⟩ && getR t (plsReg 0 12) == 1),
  wit true .pulseStep (setPulse 0 ⟨0, 2⟩ pulsed) (fun t => pulse t 0 == ⟨0, 2⟩),
  wit true (.pulseWidthExpire 3) (setPulse 3 ⟨5, 1⟩ on) (fun t => pulse t 3 == ⟨5, 2⟩),
  wit true (.pulseWidthExpire 0) (setPulse 0 ⟨0, 2⟩ pulsed) (fun t => pulse t 0 == ⟨1, 1⟩),
  same true (.pulseWidthExpire 3) on,
  same true .pulseStep (setF Dom.mtr.fld 0 pulsed),
  wit (routeOpen pulsed .qspi && !tstUnlocked pulsed) (.totalsLatchRead .qspi 0) pulsed
    (fun t => t.hostData == [w32 3333333333] && tabGet (fun _ => []) t.mtr.latch 0 == totalWords (ptShown pulsed 0)),
  wit true (.totalsLatchRead .qspi 0) (without .mtr) (fun t => t.hostData == [0]),
  same true (.totalsLatchRead .pcie 0) State.reset]).all id = true := by decide +kernel

/-! ### The wired ports and network time -/

/-- Port 3 up in a role, in a module of MAC address 5. -/
def port (role : Word) : State := fused 0x204024 0 (fused 0x204020 5 (put [(portReg 3 0, role), (portReg 3 0xC, 1)] on))

/-- A tag with its check good; a frame with it, from elsewhere and of the module's own. -/
def tag0 (origin : BitVec 16) : SplineTag := let g : SplineTag := ⟨origin, 1, 3, 9, 2, false, 0⟩; { g with tcrc := tagCrc g }
def tagged : EthFrame := { frame0 with tag := some (tag0 5) }
def ptp0 : EthFrame := { frame0 with etype := 0x88F7 }

theorem wit_ReceiveCompletes : ([
  wit (netOn (port 3) && ctrlRun (port 3) && linkUp (port 3) 3 && portRole (port 3) 3 == 3 && rxFault (port 3) 3 { frame0 with fcsOk := false } == some 1)
    (.edgeFrameReceive 3 { frame0 with fcsOk := false } 8) (port 3) (fun t => t.twn.inbox == [] && getR t (portCnt 3 1) == 1),
  wit (rxFault (port 3) 3 frame0 == none && addressed (port 3) frame0.dst && !frame0.ptp) (.edgeFrameReceive 3 frame0 8) (port 3)
    (fun t => t.twn.inbox.length == 1 && getR t (portCnt 3 0) == 1),
  wit (ptp0.ptp && portPtp (port 0x83) 3) (.edgeFrameReceive 3 ptp0 8) (port 0x83) (fun t => t.twn.inbox.length == 1),
  wit (ptp0.ptp && !portPtp (port 3) 3) (.edgeFrameReceive 3 ptp0 8) (port 3)
    (fun t => t.twn.inbox == [] && getR t (portCnt 3 5) == 1),
  wit (!addressed (port 3) 0x77) (.edgeFrameReceive 3 { frame0 with dst := 0x77 } 8) (port 3) (fun t => t.twn.inbox == [] && getR t (portCnt 3 5) == 1),
  wit (isRing (port 1) 3 && rxFault (port 1) 3 { tagged with fcsOk := false } == some 1) (.ringFrameReceive 3 { tagged with fcsOk := false } 8) (port 1)
    (fun t => t.twn.inbox == [] && getR t (portCnt 3 1) == 1),
  wit (tagGood (tag0 (swOrigin (port 1)))) (.ringFrameReceive 3 { frame0 with tag := some (tag0 (swOrigin (port 1))) } 8) (port 1)
    (fun t => t.twn.inbox == [] && getR t 0x204050 == 1),
  wit (tagGood (tag0 5) && rxFault (port 1) 3 tagged == none && swOrigin (port 1) != 5 && winFind (port 1) 5 1 == none) (.ringFrameReceive 3 tagged 8) (port 1)
    (fun t => t.twn.inbox.length == 1 && t.net.win == [⟨5, 1, 9, 1⟩]),
  wit true (.ringFrameReceive 3 tagged 8) { port 2 with net := { on.net with win := [⟨5, 1, 9, 1⟩] } }
    (fun t => t.twn.inbox == [] && getR t 0x204040 == 1 && t.net.win == [⟨5, 1, 9, 1⟩]),
  wit true (.ringFrameReceive 3 { tagged with dst := 0x77 } 8) (port 2) (fun t => t.twn.inbox == [] && t.net.win == []),
  wit true (.ringFrameReceive 3 frame0 8) (port 1) (fun t => t.twn.inbox == [] && getR t (portCnt 3 6) == 1),
  same (!linkUp on 3) (.edgeFrameReceive 3 frame0 8) on,
  same true (.ringFrameReceive 3 frame0 8) (port 3)]).all id = true := by decide +kernel

/-- A frame of 100 bytes in a queue; the same in service at port 3; a port that is paused. -/
def ent0 : TxEnt := { queue := 5, cells := 1, len := 100, rel := 100, body := .bytes [1, 2] }
def serving (e : TxEnt) (s : State) : State := setPort 3 { portOf s 3 with cur := some e } s
def queued (e : TxEnt) (s : State) : State := setPort 3 { portOf s 3 with queue := [e] } s
def paused : State := setB (pausedFld 3) true (port 0x103)

theorem wit_PauseAndLinkComplete : ([
  wit (pauseObey (port 0x103) 3 && linkUp (port 0x103) 3) (.pauseFrame 3 100 1 true 0) (port 0x103) (fun t => flag t (pausedFld 3)),
  wit true (.pauseFrame 3 100 1 true 0) (serving ent0 (port 0x103)) (fun t => !flag t (pausedFld 3) && (portOf t 3).pend),
  wit true (.pauseFrame 3 0 1 true 40) paused (fun t => !flag t (pausedFld 3)),
  wit (!pauseObey (port 3) 3) (.pauseFrame 3 100 1 true 0) (port 3) (fun t => t.net == (port 3).net && getR t (portCnt 3 8) == 1),
  wit true (.pauseFrame 3 100 2 true 0) (port 3) (fun t => t == bump (portCnt 3 9) (port 3)),
  same true (.pauseFrame 3 100 1 true 0) on,
  wit true (.pauseExpire 3 40) paused (fun t => !flag t (pausedFld 3) && getR t (portCnt 3 14) == 40),
  same true (.pauseExpire 3 40) on,
  wit (pauseLimit (put [(portReg 3 4, 100)] paused) 3 == 100) (.deathwatchBreak 3 40) (put [(portReg 3 4, 100)] paused)
    (fun t => !flag t (pausedFld 3) && flag t (holdoffFld 3) && flag t (evtFld 3 1) && getR t (portCnt 3 13) == 1),
  same true (.deathwatchBreak 3 40) on,
  wit true (.holdoffExpire 3) (setB (holdoffFld 3) true on) (fun t => !flag t (holdoffFld 3)),
  wit true (.linkChange 3 false true true false false) (port 3) (fun t => !linkUp t 3 && flag t (evtFld 3 0) && flag t ⟨portReg 3 0xC, 4, 1⟩),
  same true (.linkChange 3 true true true false false) (without .net),
  wit (portRole (port 3) 3 != 0 && portSpeed (port 3) 3 != 2) (.restartAn 3) (setB ⟨portReg 3 0xC, 1, 1⟩ true (port 3)) (fun t => !flag t ⟨portReg 3 0xC, 1, 1⟩),
  same true (.restartAn 3) (without .net)]).all id = true := by decide +kernel

def head0 : TxHead := ⟨3, 5, 0x123, false, none, none, false, 64⟩

/-- Twin A's first copy of a block waits at the transmit merge. -/
def merging : State := { port 3 with net := { on.net with merge := { on.net.merge with wait := [{ twin := .a, item := ⟨head0, [1, 2], true⟩ }] } } }

theorem wit_MergeCompletes : ([
  wit (mergeSkip on .a == 0 && on.net.merge.only == none && on.twn.late == [] && bothInStep on && !tstUnlocked on) (.mergeBlock .a head0 [1, 2] true) on
    (fun u => u.net.merge.wait == [{ twin := .a, item := ⟨head0, [1, 2], true⟩ }]),
  wit true (.mergeBlock .b head0 [1, 3] true) merging (fun u => u.net.merge.wait == [] && u.twn.a == .proving && u.twn.b == .proving && getR u 0x204058 == 1),
  wit (egress (port 3) head0 == some 3 && !onRing (port 3) head0 [1, 2] && decide ((newEnt head0 false false (ptpBytes [1, 2]) none []).cells ≤ getF (port 3) cellsFree) &&
      decide (getF (port 3) (qDepthFld 3 5) + 1 ≤ qLimit (port 3) 3 5)) (.mergeBlock .b head0 [1, 2] true) merging
    (fun u => u.net.merge.wait == [] && !u.net.merge.busy && u.net.merge.sofar == [] && (portOf u 3).queue.length == 1),
  (let s := setF (qDepthFld 3 5) (qLimit merging 3 5) merging
   wit (decide (qLimit s 3 5 < getF s (qDepthFld 3 5) + (newEnt head0 false false (ptpBytes [1, 2]) none []).cells)) (.mergeBlock .b head0 [1, 2] true) s
    (fun u => (portOf u 3).queue == [] && getR u (portReg 3 (0x240 + 4 * 5)) == 1)),
  wit (soleTwin lone == some .a && shadowTwin lone == none) (.mergeBlock .a head0 [1, 2] false) lone (fun u => u.net.merge.busy && u.net.merge.sofar == [1, 2]),
  same true (.mergeBlock .a { head0 with len := 9217 } [] true) on,
  same true (.mergeBlock .a head0 [] true) dead,
  wit true .mergeSolo merging (fun u => u.net.merge.wait == [] && getR u 0x204054 == 1 && strikeCount u .b == 1),
  wit (!bothInStep lone) .mergeSolo { lone with net := merging.net } (fun u => u.net.merge.wait == []),
  same true .mergeSolo on]).all id = true := by decide +kernel

def win2 : State := { on with net := { on.net with win := [⟨5, 1, 9, 1⟩, ⟨5, 2, 9, 1⟩] } }

theorem wit_TransmitCompletes : ([
  wit (txFree (queued ent0 (port 3)) 3 && nextFrame (queued ent0 (port 3)) 3 == some ent0) (.txFrameStart 3) (queued ent0 (port 3))
    (fun t => (portOf t 3).cur == some ent0 && (portOf t 3).queue == []),
  same true (.txFrameStart 3) (port 3),
  wit (!startBad (serving ent0 (port 3)) 3) (.txFrameEnd 3) (serving ent0 (port 3)) (fun t => t.out.length == 1 && (portOf t 3).cur == none && getR t (portCnt 3 10) == 1),
  wit true (.txUnderrun 3) (serving { ent0 with opn := true } (port 3))
    (fun t => flag t (evtFld 3 2) && (portOf t 3).cur == none && getR t (portCnt 3 11) == 1 && startBytes t 3 == min 9216 (startBytes (port 3) 3 + 512)),
  same true (.txFrameEnd 3) (serving { ent0 with opn := true } (port 3)),
  same true (.txUnderrun 3) (serving ent0 (port 3)),
  same true (.txFrameEnd 3) on,
  wit true (.windowEntryAge 5 1) win2 (fun t => winFind t 5 1 == none && getF t ⟨0x20401C, 0, 12⟩ == 1),
  same true (.windowEntryAge 5 1) { win2 with regs := (without .net).regs }]).all id = true := by decide +kernel

/-- The host owns the time-stamp unit; firmware does. -/
def tsu : State := fused 0x210134 0x100008 (put [(0x210004, 1), (0x210014, 2)] on)
def fwTsu : State := fused 0x210134 0x100008 (put [(0x210014, 2)] on)
def busyTsu : State := { tsu with tsu := { on.tsu with pend := some (1, 5) } }

/-- A frame in service that waits for a stamp; one whose launch time is 1000, at the raw time 1000. -/
def stamping (s : State) : State := serving { ent0 with stamp := some (.host, 9) } s
def launched : State := put [(0x210000, 1000)] (queued { ent0 with launch := some 1000 } (port 3))

theorem wit_TimeStampCompletes : ([
  wit (netOn tsu && tsuIssued tsu .host && tsu.tsu.pend == none) (.tsuStep .host (some 0xFFFFFFFF) 0) tsu (fun t => rawNow t == 0xFFFFFFFF && !anchorValid t),
  wit true (.tsuSlew .host (some 0xFFFFFF9C) 250) tsu (fun t => getR t 0x210018 == 0xFFFFFF9C && getF t ⟨0x210014, 8, 8⟩ == 0),
  wit true (.tsuLoad .host (some 77) 250) tsu (fun t => rawNow t == 77 && !anchorValid t),
  wit (tsuIssued fwTsu fw) (.tsuLoad fw none 0) (put [(0x21000C, 55)] fwTsu) (fun t => rawNow t == 55),
  wit (tsuIssued busyTsu .host) (.tsuStep .host (some 1) 0) busyTsu (fun t => getF t ⟨0x210014, 8, 8⟩ == Code.busy.num && t.tsu == busyTsu.tsu),
  wit (!tsuHost fwTsu) (.tsuStep .host (some 1) 0) fwTsu (fun t => t == tsuAnswer .state fwTsu),
  same (tsuHost tsu) (.tsuStep fw (some 1) 0) tsu,
  wit true (.tsuAnchorCommit .host none 0x12345 250) tsu (fun t => anchorValid t && getF t ⟨0x21002C, 0, 16⟩ == 0x2345),
  wit true (.tsuAnchorCommit fw (some ⟨9, 1, 2, 0x8000000⟩) 3 0) fwTsu
    (fun t => anchorValid t && getR t 0x210020 == 9 && getR t 0x210028 == 2 && getR t 0x210008 == 0x8000000),
  same true (.tsuAnchorCommit fw none 3 0) tsu,
  same true (.tsuAnchorCommit .host none 3 0) (without .net),
  wit (slewRem (put [(0x210018, 0xFFFFFFFF)] tsu) != 0) .tsuSlewDone (put [(0x210018, 0xFFFFFFFF)] tsu) (fun t => getR t 0x210018 == 0 && rawNow t == 0xFFFFFFFF),
  same (slewRem tsu == 0) .tsuSlewDone tsu,
  (let s := put [(0x210000, 1999999999), (0x210020, 0)] tsu
   wit (slewRem s == 0 && decide ((rawNow s - getR s 0x210020).toNat < 2000000000) &&
       decide (2000000000 ≤ (rawNow s - getR s 0x210020).toNat + (s.tsu.frac + tsuIncr s * 1) / 2 ^ 28)) (.anchorExpire 1) s (fun t => !anchorValid t)),
  wit ((List.range 64).find? (fun e => !sqValid (stamping tsu) e) == some 0 && decide (sqHeld tsu .host < sqShare tsu .host)) (.txStamp 3 0) (stamping tsu)
    (fun t => sqValid t 0 && sqOwner t 0 == .host && (portOf t 3).cur == some ent0),
  wit (ctrlRun fwTsu && decide (sqHeld fwTsu .firmware < sqShare fwTsu .firmware)) (.txStamp 3 0) (serving { ent0 with stamp := some (.firmware, 9) } fwTsu)
    (fun t => t.twn.inbox.length == 1 && sqOwner t 0 == .firmware),
  (let s := put ((List.range 64).map (fun e => (sqReg e + 4, 0x40))) (stamping tsu)
   wit (decide (sqShare s .host ≤ sqHeld s .host) || (List.range 64).find? (fun e => !sqValid s e) == none) (.txStamp 3 0) s (fun t => getR t 0x210044 == 1)),
  wit true (.txStamp 3 0) (serving ent0 tsu) (fun t => t.regs == tsu.regs),
  same true (.txStamp 3 0) tsu,
  wit (sqValid (put [(sqReg 63 + 4, 0x40)] tsu) 63 && sqOwner (put [(sqReg 63 + 4, 0x40)] tsu) 63 == .host) (.tsuSqFree .host 63) (put [(sqReg 63 + 4, 0x40)] tsu)
    (fun t => !sqValid t 63),
  same true (.tsuSqFree .host 63) (put [(sqReg 63 + 4, 0x60)] tsu),
  wit (!tsuHost fwTsu && bothInStep fwTsu) (.tsuSqFree fw 63) (put [(sqReg 63 + 4, 0x60)] fwTsu) (fun t => !sqValid t 63 && t.twn.inbox == [.stampFree 63]),
  same true (.tsuSqFree .host 63) (without .net),
  wit (headOf launched 3 5 == some { ent0 with launch := some 1000 } && txFree launched 3 && rawReached launched 1000) (.launch 3 5 0 false) launched
    (fun t => (portOf t 3).cur.isSome && getR t 0x21004C == 1 && getR t 0x210048 == 0),
  wit true (.launch 3 5 0 true) launched (fun t => getR t 0x210048 == 1),
  (let s := put [(0x210000, 0x80000400)] (queued { ent0 with launch := some 1000, late := true } (port 3))
   wit (!rawReached s 1000) (.launch 3 5 0 false) s (fun t => (portOf t 3).cur.isSome && getR t 0x210048 == 1 && getR t 0x21004C == 1)),
  same (!txReady launched 3 { ent0 with store := true, opn := true }) (.launch 3 5 0 false)
    (put [(0x210000, 1000)] (queued { ent0 with launch := some 1000, store := true, opn := true } (port 3))),
  same (!rawReached (put [(0x210000, 999)] launched) 1000) (.launch 3 5 0 false) (put [(0x210000, 999)] launched),
  same true (.launch 3 4 0 false) launched]).all id = true := by decide +kernel

/-! ### The wireless cells -/

/-- Radio 3 follows PAN 0, with one slotframe of 10 ms slots. -/
def following : State :=
  put [(airReg 3 4, 0x80000000), (sfReg 3 0 0, 0x27100065), (sfReg 3 0 2, 0x807F0000), (sfReg 3 0 3, 0x10000)] on
def edRadio (s : State) (f : RadioSt → RadioSt) : State := setRadio 3 (f (radioOf s 3)) s
def near : State := edRadio following (fun x => { x with heard := some 0, misses := 2, rx := true })

def tx0 : RadioTx := ⟨.short 3, [1, 2], 100, 7⟩

/-- A cell of slot offset 0 sends to every node; a frame for all is queued. -/
def sending : State :=
  edRadio { following with air := { following.air with cells := [(0, 0x8003FFFF01000000)] } }
    (fun x => { x with heard := some 0, queue := [{ f := { tx0 with dst := .short 0xFFFF } }] })

theorem wit_RadiosComplete : ([
  wit (!flag (put [(airReg 3 0, 0)] on) ⟨airReg 3 0, 0, 1⟩ && !tstUnlocked on && airOn on) (.timeslotStart 3 0x100000002 false) (put [(airReg 3 0, 0)] on)
    (fun t => (radioOf t 3).asn == 0x100000002 && getR t (airReg 3 0xC) == 2 && t.out == []),
  wit (flag sending ⟨airReg 3 0, 0, 1⟩ && !radioBad sending 3 && timeSrc sending 3 != 3 && chooseCell sending 3 0 == some 0x8003FFFF01000000 &&
      cellOpt 0x8003FFFF01000000 0 && !cellOpt 0x8003FFFF01000000 5 && !cellOpt 0x8003FFFF01000000 2) (.timeslotStart 3 0 false) sending
    (fun t => t.out.length == 1 && t.air.fc == 1 && (radioOf t 3).queue == []),
  same true (.timeslotStart 3 5 false) (without .air),
  wit (followEn following 3 && followPan following 3 == 0 && timeSrc following 3 == 3 && beaconHeard following 3) (.beaconReceive 3 0 77 5) following
    (fun t => (radioOf t 3).asn == 77 && (radioOf t 3).heard == some 0 && (radioOf t 3).misses == 0 && !flag t (lostFld 3)),
  wit (timeSrc near 3 == 1 && hearsBeacon near 3 5 && !radioBad near 3) (.beaconReceive 3 0 77 5) near (fun t => (radioOf t 3).misses == 3),
  (let s := edRadio near (fun x => { x with asn := 76 })
   wit (timeSrc s 3 == 1) (.beaconReceive 3 0 77 5) s (fun t => (radioOf t 3).asn == 77 && (radioOf t 3).corr == 5 && (radioOf t 3).misses == 0)),
  same (!hearsBeacon (edRadio near (fun x => { x with rx := false })) 3 5) (.beaconReceive 3 0 77 5) (edRadio near (fun x => { x with rx := false })),
  same (followPan following 3 != 1) (.beaconReceive 3 1 77 5) following,
  wit (flag near ⟨airReg 3 0, 0, 1⟩) (.beaconMissed 3) near (fun t => (radioOf t 3).misses == 3 && flag t (lostFld 3)),
  same (timeSrc following 3 != 1) (.beaconMissed 3) following,
  (let s := put [(leaseReg 1023 2, 0x43)] on
   wit (leased s 1023 && getF s (leaseMiss 1023) == 2) (.keepaliveMiss 3 1023) s (fun t => getF t (leaseMiss 1023) == 3 && flag t (leaseSearch 1023))),
  same (!leased on 1023) (.keepaliveMiss 3 1023) on,
  wit (slotframes following 3 == [0]) (.searchChannelHop 3) following (fun t => (radioOf t 3).hop == 1 % max 1 (sfHopLen following 3 0) && t.regs == following.regs),
  same true (.searchChannelHop 3) on,
  wit (routeOpen on .qspi) (.airAsnRead .qspi 3) (edRadio on (fun x => { x with asn := 0x1200000034 })) (fun t => t.hostData == [0x34] && getR t (airReg 3 0x10) == 0x12),
  wit true (.airAsnRead .qspi 3) (without .air) (fun t => t.hostData == [0]),
  same true (.airAsnRead .pcie 3) State.reset,
  wit true .frameCounterExhaust { on with air := { on.air with fc := 0xFFFF0000 } } (fun t => t.air.epoch == 1 && t.air.fc == 0 && getR t 0x304008 == 1),
  same true .frameCounterExhaust { on with air := { on.air with fc := 0xFFFEFFFF } },
  wit (bothInStep following && ctrlRun following && following.twn.late == []) (.radioTxCopy 3 .a tx0) following (fun u => (radioOf u 3).copies == [{ twin := .a, item := tx0 }] && (radioOf u 3).queue == []),
  wit (decide (tx0.len ≤ sfMax following 3 0)) (.radioTxCopy 3 .b tx0) (edRadio following (fun x => { x with copies := [{ twin := .a, item := tx0 }] }))
    (fun u => (radioOf u 3).copies == [] && (radioOf u 3).queue == [{ f := tx0 }]),
  wit (soleTwin { following with twn := lone.twn } == some .a) (.radioTxCopy 3 .a tx0)
    (edRadio { following with twn := lone.twn } (fun x => { x with queue := List.replicate 256 { f := tx0 } }))
    (fun u => (radioOf u 3).queue.length == 256 && getR u (airCnt 3 10) == 1),
  wit true (.radioTxCopy 3 .b { tx0 with len := 99 }) (edRadio following (fun x => { x with copies := [{ twin := .a, item := tx0 }] }))
    (fun u => (radioOf u 3).copies == [] && u.twn.a == .proving && u.twn.b == .proving && getR u (airCnt 3 12) == 1),
  same (twinDead lone .b) (.radioTxCopy 3 .b tx0) lone,
  same true (.radioTxCopy 3 .b tx0) (without .air),
  wit true (.radioCopyTimeout 3) (edRadio following (fun x => { x with copies := [{ twin := .a, item := tx0 }] }))
    (fun u => (radioOf u 3).copies == [] && getR u (airCnt 3 11) == 1 && strikeCount u .b == 1 && (radioOf u 3).queue == [{ f := tx0 }]),
  same true (.radioCopyTimeout 3) on]).all id = true := by decide +kernel

def key0 : TileKey := ⟨[1], 3⟩

/-- Lease 1 in a state, with its keys. -/
def leaseIn (st : Nat) (link : Option TileKey) : State :=
  let s := setRadio 0 { radioOf on 0 with rx := true } on
  setLease 1 { eui := 5, join := some key0, link := link, staged := some (key0, 8) } (put [(leaseReg 1 2, w32 st)] s)
def active : State := leaseIn 3 (some key0)

/-- The radio takes in rx0 for lease 1. -/
def takes (s : State) : Bool := @decide (radioAccepts rx0 1 s) (by unfold radioAccepts; infer_instance)

theorem wit_LeasesComplete : ([
  wit (takes (leaseIn 1 none)) (.joinReq rx0 0 4) (leaseIn 1 none) (fun t => leaseState t 1 == 2 && getR t (leaseReg 1 3) == 9),
  wit (takes active && leased active 1) (.joinReq rx0 0 4) active (fun t => flag t (joinPend 1) && leaseState t 1 == 3),
  wit (takes (leaseIn 2 none)) (.joinConf rx0 8) (leaseIn 2 none)
    (fun t => leaseState t 1 == 3 && (leaseOf t 1).link == some key0 && (leaseOf t 1).staged == none && getF t (leaseRemain 1) == leaseS on),
  wit true (.renew rx0) active (fun t => getF t (leaseRemain 1) == leaseS on && leaseState t 1 == 3),
  wit true (.keepalive rx0 7) active (fun t => t.twn.inbox == [.radio rx0 (querad 6 rx0 [7])] && getR t (leaseReg 1 3) == 9),
  wit true (.queradData rx0 (.unknown 0x55 [1])) active (fun t => t.twn.inbox == [.radio rx0 (querad 0x55 rx0 [1])]),
  wit true (.relay rx0 1 2 3 [4]) active (fun t => t.twn.inbox.length == 1),
  wit (takes (leaseIn 4 (some key0))) (.relay rx0 1 2 3 [4]) (leaseIn 4 (some key0)) (fun t => leaseState t 1 == 3 && getR t (leaseReg 1 3) == 9),
  wit (joined active 1) (.leave rx0 0) active (fun t => leaseState t 1 == 1 && (leaseOf t 1).link == none),
  wit (slotOf active rx0.src == some 1 && !radioBad active 0 && (radioOf active 0).rx && inRxWindow active 0 (flag active (leaseSearch 1)) 200) (.renew { rx0 with micOk := false }) active
    (fun t => t == bump (airCnt 0 1) active),
  same (!(radioOf on 0).rx) (.leave rx0 0) (setRadio 0 (radioOf on 0) active),
  same true (.leave rx0 0) (without .air),
  wit (airOn on && leaseState on 1 == 0) (.leaseEuiWrite 1 0x99) on (fun t => leaseState t 1 == 1 && (leaseOf t 1).eui == 0x9900000000),
  wit true (.leaseEuiWrite 1 0) active (fun t => leaseState t 1 == 0 && (leaseOf t 1).join == none && (leaseOf t 1).link == none),
  wit true (.leaseEuiWrite 1 0x99) active (fun t => leaseState t 1 == 1 && (leaseOf t 1).link == none),
  wit true (.leaseEuiWrite 1 0) (put [(leaseReg 1 0, 5)] active) (fun t => leaseState t 1 == 3),
  wit true (.joinWaitExpire 1) (leaseIn 2 none) (fun t => leaseState t 1 == 1 && (leaseOf t 1).staged == none),
  wit (flag (setB (joinPend 1) true active) (joinPend 1)) (.joinWaitExpire 1) (setB (joinPend 1) true active)
    (fun t => leaseState t 1 == 3 && !flag t (joinPend 1) && (leaseOf t 1).staged == none),
  same true (.joinWaitExpire 1) active,
  wit true (.leaseSilent 1) active (fun t => leaseState t 1 == 4 && t.air == active.air),
  same true (.leaseSilent 1) on,
  wit (leased active 1 && getF active (leaseRemain 1) == 0) (.leaseExpire 1) active
    (fun t => leaseState t 1 == 1 && (leaseOf t 1).link == none && (leaseOf t 1).join == some key0),
  same true (.leaseExpire 1) on,
  same true (.leaseSilent 1) { active with regs := (without .air).regs }]).all id = true := by decide +kernel

/-! ### The hierarchy -/

/-- The root, a sealed image, with an area manager present. -/
def root : State :=
  { put [(0x400000, 0), (0x10004, 1)] on with hier := { on.hier with children := [(1, { state := 1 })] } }

/-- Worker 2 of area 1, sealed; the same with a parent; an area manager with a worker present. -/
def worker : State := put [(0x400000, 0x20102), (0x204010, 0x8082), (0x10004, 1)] on
def child : State := { worker with hier := { worker.hier with parentMac := some 0x42 } }
def area : State :=
  let s := put [(0x400000, 0x101), (0x204010, 0x4080), (0x10004, 1)] on
  { s with hier := { s.hier with children := [(2, { state := 1 })], parentMac := some 0x42 } }

/-- A header from area manager 1. -/
def fromArea : HierHdr := { hdr with issuer := 0x4080, sender := 0x4080 }

/-- NET OFF, or CTRL in STANDBY, beside what a state holds. -/
def netOff (s : State) : State := setF Dom.net.fld 0 s
def inStandby (s : State) : State := setF Dom.ctrl.fld 1 s

/-- The hypotheses hierAccepts and hierActs, evaluated. -/
def accepts (h : HierHdr) (s : State) : Bool :=
  hierUp s && (match heldEpoch s h.issuer with | some e => decide ((h.epoch - e).toNat < 128) | none => true) && selected s h
def acts (h : HierHdr) (s : State) : Bool :=
  accepts h s && imgSealed s && (!decide (h.scope = 0) || recAssigned s (epaRecord h.epa)) &&
    (!decide (h.scope = 2) || (assigned s).any (fun r => decide (recGroup s r = getBits h.epa 0 16)))

theorem accepts_spec (h : HierHdr) (s : State) (w : accepts h s = true) : hierAccepts h s := by
  simp only [accepts, Bool.and_eq_true] at w
  refine ⟨w.1.1, fun e he => ?_, w.2⟩
  have := w.1.2
  rw [he] at this
  exact of_decide_eq_true this

theorem acts_spec (h : HierHdr) (s : State) (w : acts h s = true) : hierActs h s := by
  simp only [acts, Bool.and_eq_true, Bool.or_eq_true, Bool.not_eq_true', decide_eq_false_iff_not, List.any_eq_true,
    decide_eq_true_eq] at w
  exact ⟨accepts_spec h s w.1.1.1, w.1.1.2, fun e => w.1.2.resolve_left (fun n => n e), fun e => w.2.resolve_left (fun n => n e)⟩

theorem wit_PresenceCompletes : ([
  wit (hierUp root && isManager root) .helloPeriod root (fun t => t.out.length == 2),
  wit (hierUp worker && isChild worker) .announcePeriod worker (fun t => t.out.length == 1 && !t.hier.first),
  wit true .parentLost (setB ⟨0x400004, 0, 1⟩ true worker) (fun t => !flag t ⟨0x400004, 0, 1⟩),
  same true .helloPeriod worker,
  same true .announcePeriod root,
  same (!hierUp (netOff worker)) .parentLost (netOff worker),
  wit (hierRole worker == 2 && orgRole fromArea.sender == 1 && orgArea fromArea.sender == hierArea worker) (.hello fromArea 0x42 3 5 512 256 100) worker
    (fun t => flag t ⟨0x400004, 0, 1⟩ && t.hier.parentMac == some 0x42 && t.hier.heldParent == some 3 && t.hier.heldRoot == some 5 && upMtu t == 256),
  same true (.hello fromArea 0x42 3 5 512 256 100) root,
  wit (childIndex root 0x4080 == some 1) (.announce fromArea 9 8 true true true) root
    (fun t => (childOf t 1).imgSeq == 9 && (childOf t 1).sent == 8 && (childOf t 1).released == 8 && (childOf t 1).flags == 7),
  wit true (.announce fromArea 9 8 false true true) root (fun t => (childOf t 1).sent == 0),
  same (childIndex worker 0x4080 == none) (.announce fromArea 9 8 true true true) worker,
  wit true (.childLost 1) root (fun t => (childOf t 1).state == 2 && getR t (hierCnt 8) == 1),
  same true (.childLost 2) root,
  wit true (.announce fromArea 9 8 true true true) (inStandby root) (fun t => t.hier.held == [.announce fromArea 9 8 true true true])]).all id = true := by
  decide +kernel

/-- A frame of one cell waits for credit; a telemetry block with its check good. -/
def waitingUp : State := { child with hier := { child.hier with upq := [⟨0x20, 64, [], [], 0⟩] } }
def collecting1 (id : BitVec 16) (s : State) : State := { s with hier := { s.hier with coll := some ⟨id, [1], true⟩ } }

theorem wit_UpwardFramesComplete : ([
  wit (parentOrigin worker == some fromArea.sender && worker.hier.upq == [] && worker.hier.sendNext == none && worker.pln.unsent == [])
    (.credit fromArea [(2, 900)]) worker (fun t => t == { worker with hier := { worker.hier with limit := 900 } }),
  wit true (.credit fromArea [(2, 900)]) waitingUp (fun t => t.hier.limit == 900 && t.hier.upq == [] && t.hier.sent == w32 (upCells 64) && t.out.length == 1),
  wit (decide (2 ^ 31 ≤ (0 - w32 (upCells 64)).toNat)) (.credit fromArea [(2, 0)]) waitingUp (fun t => t.hier.upq.length == 1 && t.out == []),
  same true (.credit fromArea [(3, 900)]) waitingUp,
  wit (childIndex root fromArea.sender == some 1) (.telem fromArea 900 64 (List.replicate 32 0)) root
    (fun t => (childOf t 1).state == 1 && (childOf t 1).sent == 900 && getR t (hierCnt 5) == 900 - w32 (upCells 64)),
  wit (!blockGood (List.replicate 32 0)) (.telem fromArea 1 64 (List.replicate 32 0)) root (fun t => getR t (plnCnt 8) == 1 && (childOf t 1).bseq == []),
  wit true (.snapdata fromArea 3 0 false true 1 64 [5]) (collecting1 3 root)
    (fun t => t.hier.coll == none && flag t collDone && !flag t collRunning && getR t 0x4000B4 == 1 &&
      tabGet (fun _ => 0) t.hier.region3 (regionAt fromArea.own.toNat 0) == 5),
  wit true (.snapdata fromArea 3 0 false false 1 64 []) (collecting1 3 root) (fun t => t.hier.coll == (collecting1 3 root).hier.coll),
  wit true (.snapdata fromArea 4 0 false true 1 64 [5]) (collecting1 3 root) (fun t => t.hier.coll.isSome && t.hier.region3 == []),
  wit true (.snapdata fromArea 4 0 false true 1 64 [5]) root (fun t => t.hier.coll == none && t.hier.region3 == []),
  same (childIndex root 5 == none) (.telem { hdr with sender := 5 } 900 64 []) root,
  wit true (.telem fromArea 1 64 []) (inStandby root) (fun t => t.hier.held.length == 1),
  wit true (.telem fromArea 1 64 []) { inStandby root with hier := { root.hier with held := List.replicate 256 (.barrier hdr) } }
    (fun t => getR t (hierCnt 6) == 1 && t.hier.held.length == 256),
  same true (.telem fromArea 1 64 []) (netOff root)]).all id = true := by decide +kernel

/-- Record 1 is glowworm luminaire 5; chain position 0x82 of port 3; string 5, of channel 5, which is
its own lead. -/
def glow1 (s : State) : State := put [(0x401008, 0x00050082)] s
def chain1 (s : State) : State := put [(0x401008, 0x03020081)] s
def wired1 (s : State) : State :=
  let s := put [(0x401008, 0x00050080), (chReg 5 8, 0x15), (chReg 5 0xC, 0xFFFF0000)] s
  { s with img := { s.img with active := some false, slot0 := [(12, 1), (128, 1), (133, 1), (140, 1), (256, 5), (264, 0x20)] } }

/-- A snapshot of identifier 3 is held. -/
def snapped (s : State) : State := { s with hier := { s.hier with snap := some ⟨3, 0, 0, false, []⟩ } }

/-- POWER 0 is armed at entry 40. -/
def armed40 : State := { setSch 40 1 worker with hier := { worker.hier with armed := [⟨40, hdr, .power 0⟩] } }
def later50 : HierHdr := { hdr with sched := true, tSec := 50 }

theorem wit_HierCommandsComplete : ([
  wit (acts hdr (glow1 worker) && levelRecs (glow1 worker) hdr == [1] && recKind (glow1 worker) 1 == 2) (.level hdr 500 20 false) (glow1 worker)
    (fun t => t.out == [.glow (getF worker (leaseRadio 5)) (.short 6) (0x10 :: worker.air.qseq :: itemBytes (.level 500 20 false))]),
  wit (acts hdr (chain1 worker) && levelRecs (chain1 worker) hdr == [1] && recKind (chain1 worker) 1 == 1) (.level hdr 500 20 false) (chain1 worker)
    (fun t => t.out.length == 1),
  (let s := wired1 worker
   wit (acts hdr s && levelRecs s hdr == [1] && recKind s 1 == 0 && stringLead s (recSource s 1) == some 5 && leadOf s 5 == 5 && chOn s 5) (.level hdr 500 20 false) s
     (fun t => t.out == [.issue (.ref 5 ⟨500, 20, true, false, 1⟩)] && tabGet (fun _ => none) t.drv.held 5 == some ⟨500, 20, true, false, 1⟩)),
  wit (acts hdr worker && levelRecs worker hdr == []) (.level hdr 500 20 false) worker (fun t => t.drv == worker.drv),
  wit (!flag worker pwrBusy && !pwrRefused worker 0) (.power hdr 0) worker
    (fun t => getF t pwrTag == 7 && getF t pwrResult == 0 && getF t ⟨0x20, 0, 16⟩ == 7 && getF t ⟨0x20, 16, 16⟩ == 0),
  wit true (.power hdr 0) (setB pwrBusy true worker) (fun t => t.sys.todo == []),
  wit (resetAnswer worker .module == .ok && resetKind 2 == some .module) (.reset hdr 2) worker (fun t => t.sys.rstWait == some (.module, false)),
  wit (resetKind 77 == none) (.reset hdr 77) worker (fun t => t.sys == worker.sys),
  (let s := snapped root
   wit (acts hdr s && hierRole s == 0 && !collecting s 3 && childrenFor s hdr == [1]) (.collect hdr 3) s
     (fun t => t.hier.coll == some ⟨3, [1], true⟩ && flag t collRunning && getF t ⟨0x4000B0, 0, 16⟩ == 3)),
  (let s := snapped (put [(0x400010, 0x03E80000)] (glow1 child))
   wit (acts hdr s && hierRole s == 2 && snapCount s != 0 && upRoom s (84 + 8 * min (snapCount s) 2048)) (.collect hdr 3) s
     (fun t => t.hier.coll == none && t.hier.upq.length != 0)),
  wit (childrenFor root hdr == [1]) (.collect hdr 4) (snapped root) (fun t => t.hier.coll == some ⟨4, [1], false⟩ && flag t collRunning),
  wit (collecting (collecting1 3 (snapped root)) 3) (.collect hdr 3) (collecting1 3 (snapped root)) (fun t => t.hier.coll == (collecting1 3 root).hier.coll),
  wit (childrenFor worker hdr == []) (.collect hdr 4) (snapped worker) (fun t => t.hier.coll == none && t.hier.upq == []),
  wit true (.snapshot hdr 9) worker (fun t => t.hier.snap == none),
  wit (acts hdr armed40) (.cancel hdr 7) armed40 (fun t => t.hier.armed == [] && schState t 40 == 0),
  wit true (.cancel hdr 8) armed40 (fun t => t.hier.armed.length == 1 && schState t 40 == 1),
  wit (acts later50 worker && liveArmed worker == [] && freeEntry worker == some 32 &&
      decide (nowUnits worker < (later50.tSec.toNat * 1000000000 + later50.tNs.toNat % 2 ^ 30) * 32768)) (.power later50 0) worker
    (fun t => t.hier.armed == [⟨32, later50, .power 0⟩] && schState t 32 == 1 && getF t ⟨schReg 32 0xC, 0, 4⟩ == 3),
  !(liveArmed worker).any (fun a => match a.op with | .snapshot _ => true | _ => false),
  acts later50 (glow1 worker) && levelRecs (glow1 worker) later50 != [] && liveArmed (glow1 worker) == [] && freeEntry (glow1 worker) == some 32,
  wit (accepts hdr worker) (.cancel hdr 8) worker (fun t => getR t (hierCnt 1) == 1),
  (let s := { worker with hier := { worker.hier with heldParent := some 5 } }
   wit (heldEpoch s 0x4080 == some 5 && decide (128 ≤ (fromArea.epoch - (5 : BitVec 8)).toNat)) (.cancel fromArea 8) s
     (fun t => t == raise 150 (bump (hierCnt 2) s))),
  wit (!selected worker { hdr with scope := 0, epa := 0xFFFF }) (.power { hdr with scope := 0, epa := 0xFFFF } 0xFFF) worker (fun t => t.sys == worker.sys),
  wit (hierUp worker) (.wake hdr) worker (fun t => t == (judgeEpoch hdr worker).2),
  wit (isManager area && ownOrigin area == 0x4080) (.wake fromArea) area
    (fun t => t == emit (.hier 6 wakeAddr (hierBytes 0x50 { fromArea with down := true } [])) area),
  wit true (.power hdr 0) (inStandby worker) (fun t => t.hier.held == [.power hdr 0]),
  same true (.power hdr 0) (netOff worker)]).all id = true := by decide +kernel

/-- The mailbox holds CANCEL of command 0 for the children. -/
def mailbox : State := put [(0x400084, 0x806)] root
def ack0 : AckEnt := ⟨0, 0, 7, some 0, [1, 2], [1, 0], 2, 0, 0⟩
def bar0 : BarEnt := ⟨0, 0, 7, 1, [2], 0, 0⟩
def acked (xs : List Nat) : State := { root with hier := { root.hier with acks := [{ ack0 with waiting := xs }] } }
def barred : State := { area with hier := { area.hier with bars := [bar0] } }
def ackHdr : HierHdr := { hdr with ackReq := true }

theorem wit_HierGatherCompletes : ([
  wit (ctrlRun root && atReady root) .hierMbGo root (fun t => t.twn.inbox == [.hostReg 0x40009C 1 0]),
  wit true (.hierResFree 63) (inStandby root) (fun t => t.twn.heldReq == [.hostReg 0x4000A4 63 0]),
  same true .hierMbGo dead,
  slotState (takeInput (.hostReg 0x4000A4 63 0) (setF ⟨slotReg 63 0, 0, 2⟩ 2 root)) 63 == 0,
  (let t := takeInput (.hostReg 0x40009C 1 0) mailbox
   mailOp mailbox == some (.cancel 0) && inOwnSubtree mailbox (mailHdr mailbox) && !selected mailbox (mailHdr mailbox) &&
     childrenFor mailbox (mailHdr mailbox) == [1] && !(mailHdr mailbox).ackReq && t.out.length == 1 && slotState t 0 == 2 && getF t ⟨0x4000A0, 8, 8⟩ == 0),
  (let t := takeInput (.hostReg 0x40009C 1 0) (put [(0x400084, 0x80F)] root)
   mailOp (put [(0x400084, 0x80F)] root) == none && slotState t 0 == 2 && getF t ⟨slotReg 0 0, 8, 8⟩ == 2),
  (let s := put ((List.range 64).map (fun i => (slotReg i 0, 2))) mailbox
   let t := takeInput (.hostReg 0x40009C 1 0) s
   (List.range 64).all (fun i => slotState s i != 0) && getF t ⟨0x4000A0, 8, 8⟩ == 1 && t.out == []),
  (let s := glow1 child
   wit (acts ackHdr s && levelRecs s ackHdr == [1] && recKind s 1 == 2 && hierRole s == 2) (.level ackHdr 500 20 false) s
     (fun t => t.out.length == 2 && t.hier.acks == [])),
  wit (ackIs 0 0 7 ack0 && root.hier.epoch == 0 && childIndex root 0x4080 == some 1) (.ack { hdr with sender := 0x4080 } ⟨[3, 4], 5, 0, 0⟩) (acked [1, 2])
    (fun t => t.hier.acks.map (·.waiting) == [[2]] && t.hier.acks.map (·.expected) == [7] && t.hier.acks.map (·.counts.take 2) == [[4, 4]] && t.out == []),
  wit true (.ack { hdr with sender := 0x4080 } ⟨[3, 4], 5, 0, 0⟩) (acked [1]) (fun t => t.hier.acks == []),
  wit true (.ack { hdr with sender := 0x4080 } ⟨[3, 4], 5, 0, 0⟩) root (fun t => t.hier.acks == [] && getR t (hierCnt 3) == 1),
  wit true (.ackWaitExpire 0 0 7) (acked [1]) (fun t => t.hier.acks == [] && slotState t 0 == 2),
  wit true (.barrierWaitExpire 0 0 7) barred (fun t => t.hier.bars == [] && getR t (hierCnt 9) == 1),
  same true (.ackWaitExpire 0 0 8) (acked [1]),
  same true (.barrierWaitExpire 0 0 8) barred,
  wit (hierUp area && selected area hdr && heldEpoch area 0 == none && childrenFor area hdr == [2]) (.barrier hdr) area (fun t => t.hier.bars == [bar0]),
  wit (childrenFor child hdr == [] && selected child hdr && hdr.issuer != ownOrigin child) (.barrier hdr) child (fun t => t.hier.bars == [] && t.out.length == 1),
  wit (childIndex barred 0x8082 == some 2 && barIs 0 0 7 bar0) (.arrive { hdr with sender := 0x8082 } 1 0) barred (fun t => t.hier.bars == []),
  wit true (.arrive { hdr with sender := 0x8082 } 1 0) area (fun t => t.hier.bars == [] && t.out == []),
  wit true .collectWaitExpire (collecting1 3 root) (fun t => t.hier.coll == none && flag t collDone && !flag t collRunning),
  same true .collectWaitExpire root]).all id = true := by decide +kernel

/-- A transfer is at byte 8 of the image. -/
def transfer : State := { worker with img := { worker.img with stg := ⟨.opened, .hier, false, []⟩ }, hier := { worker.hier with xferImage := 8 } }
def elsewhere : HierHdr := { hdr with scope := 0, epa := 0xFFFF }

theorem wit_TransfersComplete : ([
  wit (hierUp worker && selected worker hdr && stgJudge .image .hier false worker == .ok) (.xferBegin hdr .image 64) worker
    (fun t => t.img.stg == ⟨.opened, .hier, true, []⟩ && xferNext t .image == 0),
  wit (stgJudge .image .hier false (imgIn .opened) != .ok) (.xferBegin hdr .image 64) { worker with img := (imgIn .opened).img, hier := transfer.hier }
    (fun t => t.img.stg == (imgIn .opened).img.stg && xferNext t .image == 8),
  wit (decide (8 < stgLimit .image)) (.xferData hdr .image 8 [1, 2, 3]) transfer (fun t => xferNext t .image == 11),
  wit true (.xferData hdr .image 9 [1]) transfer (fun t => xferNext t .image == 8 && getR t (hierCnt 7) == 1),
  wit (stgJudge .image .hier true transfer == .ok) (.xferCommit hdr .image 8) transfer (fun t => t.img.stg.st == .pending),
  wit true (.xferCommit hdr .image 9) transfer (fun t => t.img.stg.st == .opened && getF t (stgResult .image) == 2),
  wit true (.xferAbort hdr .image) transfer (fun t => t.img.stg.st == .empty),
  wit (stgJudge .firmware .hier true transfer != .ok) (.xferCommit hdr .firmware 0) transfer (fun t => t.upd.stg.st == .empty),
  same (!selected transfer elsewhere && hierRole transfer != 1) (.xferData elsewhere .image 8 [1]) transfer,
  wit true (.xferBegin hdr .image 64) (inStandby worker) (fun t => t.hier.held == [.xferBegin hdr .image 64]),
  same true (.xferBegin hdr .image 64) (netOff worker),
  wit (hierRole area == 1 && childrenFor area hdr != []) (.xferBegin hdr .firmware 64) area (fun t => (t.out.head?).isSome)]).all id = true := by decide +kernel

/-! ### The telemetry plane and the twins -/

/-- The plane runs, with record 0 assigned; with one Class L entry of quantity 3, sampled in every step, and no summaries; the
same in Class B. -/
def planeOn : State := put [(0x410010, 1), (0x401000, 0x80)] on
def lPlane : State := put [(0x410000, 0x640001), (0x411000, 0x80000300)] planeOn
def bPlane : State := put [(telReg 0 0, 0x80010300), (telReg 0 1, 1)] lPlane
def edPln (s : State) (f : PlnSt → PlnSt) : State := { s with pln := f s.pln }

/-- A Class L block of one item. -/
def lBlock : LBlk := ⟨[⟨0, 0, 3, 7, 0, false, false, false⟩], false⟩
def open0 : State := setB ⟨0x410008, 16, 1⟩ true (edPln planeOn (fun x => { x with blkL := some lBlock }))

theorem wit_PlaneCompletes : ([
  wit (plnEn on && ctrlRun on) .planeStart on (fun t => t == setB plnRunning true { on with pln := {} }),
  same true .planeStart standby,
  wit (plnUp planeOn && sampled planeOn == [] && sPeriod planeOn == 1 && assigned planeOn == [0]) .planeSample planeOn
    (fun t => (sAcc t 0).n == 1 && t.twn == planeOn.twn),
  wit (sampled lPlane == [(0, 0)] && sPeriod lPlane == 0 && telDue lPlane 0 && !codedB lPlane 0 0 && telQty lPlane 0 == 3 && pendItems lPlane == [] &&
      (lEnt lPlane (entKey 0 0)).last == none) .planeSample lPlane
    (fun t => (lEnt t (entKey 0 0)).last == some 0 && (t.pln.blkL.map (·.items.length)) == some 1 && t.pln.accs == lPlane.pln.accs),
  wit (lRefresh (setF ⟨0x410004, 16, 16⟩ 0 lPlane) == 0) .planeSample
    (setF ⟨0x410004, 16, 16⟩ 0 (edPln lPlane (fun x => { x with lents := [(entKey 0 0, { last := some 0 })] })))
    (fun t => t.pln.blkL == none && (lEnt t (entKey 0 0)).last == some 0),
  wit (sampled bPlane == [(0, 0)] && telDue bPlane 0 && codedB bPlane 0 0 && (qtyOf bPlane 0 3).isSome && decide (1 < bSamples bPlane)) .planeSample bPlane
    (fun t => t.pln.blkB == some ⟨0, notrace bPlane, [], 0, false⟩ && (seriesOf t (entKey 0 0)).isSome),
  wit (pendItems open0 == [] && !plnBad open0 && !goesUp open0 0 && bitOf (getR open0 0x410008) 16) (.blockClose 0) open0
    (fun t => t.pln.blkL == none && getR t (plnCnt 0) == 1 && t.out.length == 1 && t.pln.bseqL == 1 && !t.pln.firstL),
  wit true (.blockClose 1) (edPln planeOn (fun x => { x with blkB := some ⟨0, false, [], 0, false⟩ })) (fun t => t.pln.blkB == none && getR t (plnCnt 1) == 1),
  wit true (.blockClose 2) (edPln planeOn (fun x => { x with blkS := some ⟨0, 1, []⟩ })) (fun t => t.pln.blkS == none && getR t (plnCnt 2) == 1),
  same true (.blockClose 0) planeOn,
  wit true .summaryRound planeOn (fun t => t.pln.blkS == none && (sAcc t 0).n == 0),
  same true .summaryRound lPlane,
  same (!plnUp on) .planeSample on]).all id = true := by decide +kernel

theorem wit_SplitterOrder :
    (canonical [.irq .h0 1, .edge 0 true, .irq .h1 2, .edge 1 false] == [.irq .h0 1, .irq .h1 2, .edge 0 true, .edge 1 false] &&
      [SplitIn.net 0 frame0 0].all (fun x => decide (8 ≤ x.cls)) && (fitAll 262144 [.net 0 frame0 0, .irq .h0 1]) == ([.irq .h0 1], [.net 0 frame0 0])) =
        true := by decide +kernel

/-- What two steps put out. -/
def out0 : StepOut := ⟨[1, 2], 5⟩
def out1 : StepOut := ⟨[1, 3], 5⟩

/-- A digest of Twin B's waits; Twin B in SHADOW, with equal digests counted; both in proof. -/
def digested (s : State) : State := { s with twn := { s.twn with digests := [(.b, 5, digestOf out0)] } }
def shadowB (n : Nat) : State := { on with twn := { on.twn with b := .shadow, equal := n } }
def proving : State := { on with twn := { on.twn with a := .proving, b := .proving } }
def failedA : State := setB ⟨0x10004, 0, 1⟩ true { on with twn := { on.twn with a := .failed } }
def rejoiningA : State := { on with twn := { on.twn with a := .rejoining } }

theorem wit_routes_idle : routesIdle on := by
  refine ⟨rfl, rfl, rfl, fun r => ?_, rfl⟩
  match r with
  | 0 => rfl
  | 1 => rfl
  | 2 => rfl
  | _ + 3 => rfl

theorem wit_TwinsComplete : ([
  (let s := setF stageFld 4 { on with twn := { on.twn with inbox := [.edge 0 true] } }
   wit (ctrlRun s && bothInStep s && !atReady s && s.twn.strikesA == []) (.splitterStep 0 0) s
     (fun t => t.twn.step == 1 && t.twn.shown == [.edge 0 true] && t.twn.inbox == [])),
  wit (atReady on && on.upd.setAsk == none && !on.sys.snapOwed && !tstUnlocked on) (.splitterStep 0 0) { on with twn := { on.twn with heldReq := [.stampFree 5] } }
    (fun t => t.twn.step == 1 && t.twn.shown == [.stampFree 5] && t.hier.held == []),
  wit (twinDead dead .a && twinDead dead .b) (.splitterStep 0 0) dead (fun t => t.twn.step == 1 && t.twn.shown == []),
  wit true (.splitterStep 0 0) standby (fun t => t.twn.step == 1 && t.twn.inbox == []),
  wit true (.splitterStep 0 0) ctrlOff (fun t => t == tsuAdvance 0 ctrlOff),
  wit true (.stepDigest .a 5 out0) on (fun u => u.twn.digests == [(.a, 5, digestOf out0)]),
  wit true (.stepDigest .a 5 out0) (digested on) (fun u => u.twn.digests == [] && bothInStep u),
  wit true (.stepDigest .a 5 out1) (digested on) (fun u => u.twn.a == .proving && u.twn.b == .proving && u.twn.mismatch == 1),
  wit (shadowTwin (shadowB 0) == some .b) (.stepDigest .a 5 out0) (digested (shadowB 0)) (fun u => u.twn.equal == 1 && u.twn.b == .shadow),
  wit true (.stepDigest .a 5 out0) (digested (shadowB 7999)) (fun u => u.twn.b == .inStep && u.twn.a == .inStep),
  wit (!(shadowB 0).upd.trial) (.stepDigest .a 5 out1) (digested (shadowB 0)) (fun u => u.twn.b == .failed && u.twn.a == .inStep && getF u ⟨failReg .b, 0, 4⟩ == 9),
  wit true (.stepDigest .a 5 out0) (digested lone) (fun u => u.twn.digests == []),
  same true (.stepDigest .a 5 out0) standby,
  wit true (.digestLate .a false) on (fun u => u.twn.strikesA == [0] && bothInStep u && getR u 0x50004C == 1),
  wit true (.digestLate .a true) on (fun u => u.twn.a == .failed && u.twn.readSrc == .b && getF u ⟨failReg .a, 0, 4⟩ == 3),
  wit true (.digestLate .b false) (shadowB 0) (fun u => u.twn.b == .failed && getF u ⟨failReg .b, 0, 4⟩ == 9),
  same true (.digestLate .b true) lone,
  wit true (.twinFault .a .die) on (fun u => u.twn.a == .failed && u.twn.b == .inStep && u.twn.readSrc == .b && getF u ⟨failReg .a, 0, 4⟩ == 4),
  wit true (.twinFault .b .ecc) standby (fun u => u.twn.b == .failed && getF u ⟨failReg .b, 0, 4⟩ == 1),
  same true (.twinFault .b .die) lone,
  wit true (.forceFail .a) on (fun u => u.twn.a == .failed && u.twn.b == .inStep && getF u ⟨failReg .a, 0, 4⟩ == 7 && getF u ⟨0x500000, 16, 8⟩ == 0),
  wit true (.forceFail .a) lone (fun u => u == twnAnswer .state lone),
  same true (.forceFail .a) ctrlOff,
  wit true .proofEnd proving (fun u => u.twn.b == .failed && u.twn.a == .inStep && getF u ⟨failReg .b, 0, 4⟩ == 6),
  same (twinDead lone .b) (.stepDigest .b 5 out0) lone,
  same true .proofEnd on,
  wit true (.borerFinding (.sramCorr .a 0)) { on with twn := { on.twn with corrA := [(0, 0)] } }
    (fun u => u.twn.sramA == 1 && u.twn.sramB == 0 && u.twn.strikesA == [0] && getR u 0x500064 == 1),
  wit true (.borerFinding (.dramCorr .b 3)) on (fun u => u.twn.dramB == 1 && u.twn.strikesA == []),
  wit true (.borerFinding .framCorr) on (fun u => u.twn == { on.twn with framCorr := 1 }),
  wit true (.borerFinding (.sramSweep .b)) on (fun u => u.twn.sweepB == 1),
  wit true (.borerFinding (.hard .b)) on (fun u => u.twn.b == .failed && getF u ⟨failReg .b, 0, 4⟩ == 2),
  wit true (.borerFinding .carrier) on (fun u => u.twn.carrier && bothInStep u),
  wit true .clearHist { on with twn := { on.twn with histA := 5 } } (fun u => u.twn.histA == 0),
  same true .clearHist ctrlOff,
  ctrlRun failedA && imgSealed failedA && twinDead failedA .a && twinState failedA .b == .inStep && !failedA.upd.trial,
  wit true (.rejoin .a) on (fun u => u == twnAnswer .state on),
  wit true .rejoinConverge rejoiningA (fun u => u.twn.a == .shadow && u.twn.equal == 0 && u.twn.b == .inStep),
  same true .rejoinConverge on,
  wit (routeOpen on .qspi) (.healthRead .qspi) { on with twn := { on.twn with report := [9, 8] } } (fun t => t.hostData == [9] && t.twn.latch == [9, 8]),
  wit true (.twnStepRead .qspi) { on with twn := { on.twn with step := 0x500000007 } } (fun t => t.hostData == [7] && t.twn.stepHi == 5),
  wit true (.healthRead .qspi) ctrlOff (fun t => t.hostData == [0]),
  same true (.twnStepRead .pcie) State.reset]).all id = true := by decide +kernel

/-! ### Keys, tamper and perturbation -/

/-- The root VALID, a seed of every usage; slot 63 a VALID signing key besides; an operation in progress. -/
def rooted : State := put [(keyW0 0, 0x1F1)] on
def keyed : State := put [(keyW0 63, 0x1FD), (keyW0 0, 0x1F1)] on
/-- Slot 63 VALID for the CCM engines. -/
def ccmKeyed : State := put [(keyW0 63, 0x1F5), (keyW0 0, 0x1F1)] on
def running (k : KeyRun) : State := setB keyBusy true { on with key := { on.key with run := some k } }
def hostKey : KeyIssuer := .host .equal
def fwKey : KeyIssuer := .firmware .equal
def args63 : KeyArgs := ⟨63, 0, 3, 8⟩

theorem wit_KeyOperationsStart : ([
  wit (ctrlRun rooted && (soleTwin rooted).isSome && keyIssued rooted hostKey && fillLegal hostKey args63 rooted == none) (.importKey hostKey args63) rooted
    (fun t => flag t keyBusy && t.key.run.isSome),
  keyType rooted 0 == 0 && keyUsage rooted 0 0,
  (fillLegal hostKey args63 on).isSome && ends (.derive hostKey args63) on (fun t => t.key.run == none),
  wit (!notHosts hostKey 63 && keyJudge keyed 63 == none && keyUsage keyed 63 3 && keyType keyed 63 == 3) (.pubkey hostKey args63) keyed (fun t => flag t keyBusy && t.key.run.isSome),
  wit (notHosts hostKey 64) (.sign hostKey ⟨64, 0, 0, 0⟩) keyed (fun t => t.key.run == none && getF t ⟨0x40000, 8, 8⟩ == 2),
  wit (keyJudge on 63 == some .nokey) (.sign hostKey args63) on (fun t => t.key.run == none && getF t ⟨0x40000, 8, 8⟩ == Code.nokey.num),
  wit true (.destroy hostKey args63) keyed (fun t => keyState t 63 == 2 && material t 63 == List.replicate 32 0 && getF t ⟨0x40000, 8, 8⟩ == 0),
  wit true (.destroy hostKey args63) on (fun t => t.key == on.key && getF t ⟨0x40000, 8, 8⟩ == 4),
  wit true (.destroy hostKey ⟨64, 0, 0, 0⟩) keyed (fun t => t.key == keyed.key && getF t ⟨0x40000, 8, 8⟩ == 2),
  wit (keyIssued ccmKeyed fwKey && keyJudge ccmKeyed 63 == none && loadUsage ccmKeyed 63 (.engine .ccm 2)) (.load fwKey args63 (.engine .ccm 2)) ccmKeyed
    (fun t => flag t keyBusy && t.key.run.isSome),
  wit (keyJudge keyed 63 == none && !loadUsage keyed 63 (.engine .ccm 2)) (.load fwKey args63 (.engine .ccm 2)) keyed
    (fun t => t.key.run == none && getF t ⟨0x40000, 8, 8⟩ == 2),
  wit true (.load fwKey args63 (.engine .ccm 2)) on (fun t => t.key.run == none && getF t ⟨0x40000, 8, 8⟩ == Code.nokey.num),
  wit (keyState on 0 != 1 && !flag on keyTest && !flag on keyOpen) (.genRoot hostKey ⟨0, 0, 0, 31⟩ 5) on (fun t => flag t keyBusy),
  wit true (.genRoot hostKey ⟨0, 0, 0, 31⟩ 5) rooted (fun t => t.key.run == none && getF t ⟨0x40000, 8, 8⟩ == 2),
  wit true (.load hostKey args63 (.engine .ccm 2)) keyed (fun t => t.key.run == none && getF t ⟨0x40000, 8, 8⟩ == 2),
  wit true (.disarm hostKey) on (fun t => t.key.run == some ⟨.disarm, 128⟩ && flag t keyBusy),
  wit true (.disarm hostKey) rooted (fun t => t.key.run == none && getF t ⟨0x40000, 8, 8⟩ == 2),
  ({ on with key := { on.key with chal := some [1] } } : State).key.chal.isSome,
  wit true (.debugOpen hostKey) on (fun t => t.key.run == none && getF t ⟨0x40000, 8, 8⟩ == 2),
  wit true (.disarm hostKey) (running ⟨.disarm, 128⟩) (fun t => t.key == (running ⟨.disarm, 128⟩).key && getF t ⟨0x40000, 8, 8⟩ == 1),
  wit true (.disarm fwKey) on (fun t => t.key == on.key && getF t ⟨0x40000, 8, 8⟩ == 2),
  (let s := setF stageFld 4 keyed
   wit (ctrlRun s && !atReady s) (.sign hostKey args63) s (fun t => t == captureReq (.keyCmd (keyWord 5 args63) (keyWords s) .equal 0) s)),
  keyIssued rooted (.host (.alone .a)) == false && keyIssued { rooted with twn := lone.twn } (.host (.alone .a)),
  wit true (.destroy hostKey args63) standby (fun t => t.key == on.key && getF t ⟨0x40000, 8, 8⟩ == 2),
  same true (.destroy fwKey args63) standby]).all id = true := by decide +kernel

/-- The mesh alone is not outside; no source is. -/
def looped : State := { on with key := { on.key with outside := [.loop1] } }

theorem wit_KeyStoreCompletes : ([
  wit true (.keyOpDone .equal) (running ⟨.fill 127 3 31 127 7 5 true [1, 2], 0⟩)
    (fun t => keyState t 127 == 1 && keyType t 127 == 3 && keyDepth t 127 == 7 && keyGen t 127 == 1 && material t 127 == [1, 2] && t.key.run == none && !flag t keyBusy),
  same true (.keyOpDone .equal) on,
  wit true (.keyOpDone .equal) (running ⟨.out (some [1, 2, 3, 4, 5]), 3⟩) (fun t => getR t 0x40080 == 0x04030201 && getR t 0x40084 == 5 && !flag t keyBusy),
  wit (bothInStep on) (.keyOpDone .equal) (running ⟨.sign (some [1, 2, 3, 4, 5]), 3⟩) (fun t => getR t 0x40080 == 0x04030201),
  wit (signs (.sign (some [1]))) (.keyOpDone .differ) (running ⟨.sign (some [1, 2, 3, 4, 5]), 3⟩)
    (fun t => tabGet (fun _ => 0) t.unpred 0x400BC != 0 && t.key.run == none),
  wit true (.keyOpDone .equal) (running ⟨.out none, 3⟩) (fun t => tabGet (fun _ => 0) t.unpred 0x400BC != 0 && t.key.run == none),
  wit true (.keyOpDone .equal) (running ⟨.disarm, 128⟩) (fun t => getF t ⟨0x40100, 0, 2⟩ == 0 && getF t ⟨0x40000, 8, 8⟩ == 0),
  (running ⟨.debug true, 128⟩).key.run == some ⟨.debug true, 128⟩,
  wit true (.keyOpDone .equal) (running ⟨.debug false, 128⟩) (fun t => t.key.run == none && getF t ⟨0x40000, 8, 8⟩ == 7),
  wit ((running ⟨.disarm, 128⟩).key.purge == []) (.keyOpDone .equal) (running ⟨.load (.engine .gcm 1023) [1], 3⟩) (fun t => tabGet (fun _ => none) t.key.engines 1023 == some ⟨[1], 3⟩),
  wit (airOn on) (.keyOpDone .equal) (running ⟨.load (.join 1023) [1], 3⟩) (fun t => (leaseOf t 1023).join == some ⟨[1], 3⟩),
  wit true (.keyOpDone .equal) (running ⟨.load (.link 1023 4 8) [1], 3⟩) (fun t => (leaseOf t 1023).staged == some (⟨[1], 3⟩, 8)),
  !rooted.key.outside.contains .mesh && tamperArmed rooted .mesh && rooted.sys.start == none && getF rooted stageFld != 14,
  wit (!tamperArmed (put [(0x40100, 0)] on) .loop1) (.tamperTrip .loop1) (put [(0x40100, 0)] on) (fun t => t.key.outside == [.loop1] && t.key.mats == []),
  same true (.tamperTrip .loop1) looped,
  wit true (.tamperSourceClose .loop1) looped (fun t => t.key.outside == [] && flag t ⟨0x40104, tamperIdx .loop1, 1⟩)]).all id = true := by decide +kernel

/-- The perturbation block unlocked, with slots 0 and 15 enabled. -/
def unlocked : State := put [(0xF00004, 1), (0xF00100, 1), (0xF001F0, 1)] on

theorem wit_PerturbationLockCompletes : ([
  wit true (.tstUnlock 0x54535431) on (fun t => t.tstHalf),
  wit true (.tstUnlock 5) { on with tstHalf := true } (fun t => !t.tstHalf && !tstUnlocked t),
  wit true (.tstUnlock 0xABACABCE) { on with tstHalf := true } (fun t => tstUnlocked t && getF t tstRem == tstLease on),
  same true (.tstUnlock 0x54535431) standby,
  wit true .tstUnlockTimeout { on with tstHalf := true } (fun t => !t.tstHalf),
  wit (tstUnlocked unlocked && !bitOf (0xFFF : Word) 31) (.tstLeaseWrite 0xFFF) unlocked (fun t => getF t tstRem == 3600 && tstUnlocked t),
  wit true .tstLock unlocked (fun t => !tstUnlocked t && !flag t ⟨tstCfg 15, 0, 1⟩),
  wit true .tstLeaseExpire unlocked (fun t => !tstUnlocked t && !flag t ⟨tstCfg 0, 0, 1⟩),
  wit true (.tstLeaseWrite 0x80000000) unlocked (fun t => !tstUnlocked t && getF t tstRem == 0),
  same true .tstLock on]).all id = true := by decide +kernel
end Sys2Proof.Tests
end

section
/-! SUPPORT. O7, the host's accesses that no other row describes: where the registers with RC fields lie and what a read of
one leaves alone; what a write that is not one aligned word can change; and that nothing it leads to answers the host. -/

namespace Sys2Proof.Machine

/-! ### Words -/

/-- Two words agree outside a mask. -/
def SameOutside (m x y : Word) : Prop := y &&& ~~~m = x &&& ~~~m

/-- Bits merged in under a mask do not show outside it. -/
theorem merge_sameOutside (x y m : Word) : SameOutside m x ((x &&& ~~~m) ||| (y &&& m)) := by
  unfold SameOutside
  ext i hi
  cases hm : m[i] <;> simp [hm]

/-- Bits taken from elsewhere under part of a mask do not show outside the mask. -/
theorem blur_and_not (v f u k : Word) : ((v &&& ~~~(u &&& k)) ||| (f &&& (u &&& k))) &&& ~~~u = v &&& ~~~u := by
  ext i hi
  cases hu : u[i] <;> simp [hu]

/-! ### The register map -/

/-- The page of BAR0, of 64 KiB, that holds a block's window (R31). -/
def Block.page : Block → Nat
  | .sys => 0x00 | .img => 0x01 | .intc => 0x02 | .cal => 0x03 | .key => 0x04 | .upd => 0x05 | .drv => 0x10 | .chn => 0x11
  | .mtr => 0x12 | .rfx => 0x13 | .net => 0x20 | .tsu => 0x21 | .dma => 0x22 | .air => 0x30 | .hier => 0x40 | .pln => 0x41
  | .twn => 0x50 | .tst => 0xF0

theorem page_of_blockOf {off : Nat} {b : Block} (h : blockOf off = some b) : off / 0x10000 = b.page := by
  unfold blockOf at h
  split at h <;> cases h <;> assumption

theorem blockOf_eq_of_page {off : Nat} {b : Block} (h : off / 0x10000 = b.page) : blockOf off = some b := by
  unfold blockOf
  rw [h]
  cases b <;> rfl

/-- A register's row is one of its block's. -/
theorem mem_blockRegs_of_regRow? {off : Nat} {b : Block} {r : RegRow} (hb : blockOf off = some b) (hr : regRow? off = some r) :
    r ∈ blockRegs b ∧ r.covers off = true := by
  simp only [regRow?, hb] at hr
  exact ⟨List.mem_of_find?_eq_some hr, List.find?_some (p := fun r : RegRow => r.covers off) hr⟩

theorem blockOf_isSome_of_regRow? {off : Nat} (h : (regRow? off).isSome = true) : ∃ b, blockOf off = some b := by
  cases hb : blockOf off with
  | none => simp [regRow?, hb] at h
  | some b => exact ⟨b, rfl⟩

/-- Fields none of which is selected add no bit. -/
theorem foldl_bitMask_of_not_any {p : Acc → Bool} {fs : List RegField} (h : fs.any (fun f => p f.acc) = false) (m : Nat) :
    fs.foldl (fun m f => if p f.acc then m ||| bitMask f.hi f.lo else m) m = m := by
  induction fs with
  | nil => rfl
  | cons f fs ih =>
    obtain ⟨h1, h2⟩ := Bool.or_eq_false_iff.1 (List.any_cons ▸ h)
    simp [h1, ih h2]

/-- A register with a bit of a selected code has a field of it. -/
theorem exists_field_of_accMask_ne_zero {p : Acc → Bool} {off : Nat} (h : accMask p off ≠ 0) :
    ∃ r, regRow? off = some r ∧ r.fields.any (fun f => p f.acc) = true := by
  cases hr : regRow? off with
  | none => simp [accMask, hr] at h
  | some r =>
    cases hany : r.fields.any (fun f => p f.acc) with
    | true => exact ⟨r, rfl, hany⟩
    | false => exact absurd (by simp [accMask, hr, foldl_bitMask_of_not_any hany]) h

/-- Every field of the map lies within a word. -/
theorem field_hi_lt {b : Block} {r : RegRow} {f : RegField} (hr : r ∈ blockRegs b) (hf : f ∈ r.fields) : f.hi < 32 := by
  have h : ∀ b, ((blockRegs b).all fun r => r.fields.all fun f => decide (f.hi < 32)) = true := by
    intro b; cases b <;> decide
  have := List.all_eq_true.1 (h b) r hr
  simpa using List.all_eq_true.1 this f hf

theorem bitMask_lt {hi : Nat} (h : hi < 32) (lo : Nat) : bitMask hi lo < 2 ^ 32 := by
  have hle : 2 ^ (hi + 1) ≤ 2 ^ 32 := Nat.pow_le_pow_right (by decide) h
  have hpos := Nat.two_pow_pos lo
  unfold bitMask
  omega

theorem foldl_bitMask_lt {p : Acc → Bool} {fs : List RegField} (h : ∀ f ∈ fs, f.hi < 32) {m : Nat} (hm : m < 2 ^ 32) :
    fs.foldl (fun m f => if p f.acc then m ||| bitMask f.hi f.lo else m) m < 2 ^ 32 := by
  induction fs generalizing m with
  | nil => exact hm
  | cons f fs ih =>
    refine ih (fun g hg => h g (List.mem_cons_of_mem _ hg)) (ite_keeps (· < 2 ^ 32) (fun _ => ?_) fun _ => hm)
    exact Nat.or_lt_two_pow hm (bitMask_lt (h f List.mem_cons_self) f.lo)

theorem accMask_lt (p : Acc → Bool) (off : Nat) : accMask p off < 2 ^ 32 := by
  unfold accMask
  split
  · decide
  · next r hr =>
    obtain ⟨b, hb⟩ := blockOf_isSome_of_regRow? (by rw [hr]; rfl)
    have hmem := (mem_blockRegs_of_regRow? hb hr).1
    have hm := foldl_bitMask_lt (p := p) (fun f hf => field_hi_lt hmem hf) (m := 0) (by decide)
    exact ite_keeps (· < 2 ^ 32) (fun _ => Nat.lt_of_le_of_lt Nat.and_le_left hm) fun _ =>
      ite_keeps (· < 2 ^ 32) (fun _ => by decide) fun _ => hm

theorem rcMask_eq_zero_iff (off : Nat) : rcMask off = 0 ↔ accMask (fun a => decide (a = .rc)) off = 0 := by
  have h := accMask_lt (fun a => decide (a = .rc)) off
  constructor
  · intro h0
    have := congrArg BitVec.toNat h0
    rwa [rcMask, w32, BitVec.toNat_ofNat, Nat.mod_eq_of_lt h] at this
  · intro h0
    simp [rcMask, w32, h0]

/-! ### The registers with RC fields -/

/-- The rows with RC fields, by block (R9). -/
def rcRows : Block → List RegRow
  | .sys => [reg1 0x40C cnt]
  | .intc => [regN 0x20208 2 0x40 [rc 7 0, rc 11 8, rc 16 12, rc 31 31], regN 0x20214 2 0x40 cnt]
  | .cal => [reg1 0x30050 cnt, reg1 0x30054 cnt, regN 0x30110 2 0x20 cnt]
  | .drv => [regN 0x100030 64 0x100 [rc 7 0, rc 15 8, rc 23 16, rc 31 24]]
  | .chn => [regN 0x110024 4 0x1000 cnt, regN 0x110028 4 0x1000 [rc 7 0, rc 15 8, rc 23 16]]
  | .mtr => [regN 0x120020 6 4 cnt, regN 0x12020C 4 0x10 cnt]
  | .rfx => [regN 0x130040 6 4 cnt]
  | .net => [regNN 0x200100 4 0x1000 15 4 cnt, regNN 0x200240 4 0x1000 8 4 cnt, regN 0x204040 8 4 cnt, reg1 0x204080 cnt]
  | .tsu => [regN 0x210040 4 4 cnt]
  | .dma => [reg1 0x220008 cnt, regNN 0x220118 4 0x40 4 4 cnt]
  | .air => [regNN 0x300200 4 0x1000 14 4 cnt, regN 0x304040 5 4 cnt]
  | .hier => [regN 0x400100 10 4 cnt]
  | .pln => [regN 0x410040 11 4 cnt]
  | .twn => [regN 0x500040 11 4 cnt]
  | .tst => [regN 0xF0010C 16 0x10 [rc 15 0, ro 16 16]]
  | .img | .key | .upd => []

theorem rcRows_eq_filter (b : Block) :
    (blockRegs b).filter (fun r => r.fields.any (fun f => decide (f.acc = .rc))) = rcRows b := by
  cases b <;> rfl

theorem covers_iff (r : RegRow) (off : Nat) : r.covers off = true ↔ r.base ≤ off ∧ (off - r.base) / r.s1 < r.n1 ∧
    (off - r.base) % r.s1 / r.s2 < r.n2 ∧ (off - r.base) % r.s1 % r.s2 = 0 := by
  simp [RegRow.covers, and_assoc]

/-- Where the registers with RC fields lie in their block: apart from every register that a block's configuration is read from, and
from every register whose value follows from other state. -/
def rcPlace (off : Nat) : Block → Prop
  | .sys => off = 0x40C
  | .intc => off = 0x20208 ∨ off = 0x20248 ∨ off = 0x20214 ∨ off = 0x20254
  | .drv => off % 0x100 = 0x30
  | .chn => off % 0x1000 = 0x24 ∨ off % 0x1000 = 0x28
  | .mtr => off < 0x121000
  | .rfx => 0x130040 ≤ off
  | .net => 0x204000 ≤ off ∨ 0x100 ≤ off % 0x1000
  | .dma => 0x220008 ≤ off
  | .air => off < 0x304000 ∧ 0x200 ≤ off % 0x1000 ∨ 0x304040 ≤ off ∧ off < 0x304054
  | .hier => 0x400100 ≤ off
  | .pln => 0x410040 ≤ off
  | .twn => 0x500040 ≤ off ∧ off < 0x50006C
  | .tst => 0xF0010C ≤ off
  | .cal | .tsu => True
  | .img | .key | .upd => False

/-- Row by row, from the bounds on the offset that the row covers it. -/
theorem rcPlace_of_covers {off : Nat} {b : Block} {r : RegRow} (hb : blockOf off = some b) (hr : r ∈ rcRows b)
    (hc : r.covers off = true) : rcPlace off b := by
  have hp := page_of_blockOf hb
  obtain ⟨h1, h2, h3, h4⟩ := (covers_iff r off).1 hc
  cases b <;>
    simp only [rcRows, List.mem_cons, List.not_mem_nil, or_false] at hr <;>
    dsimp only [rcPlace, Block.page] at hp ⊢ <;>
    (rcases hr with rfl | rfl | rfl | rfl) <;>
    dsimp only [reg1, regN, regNN] at h1 h2 h3 h4 <;> omega

theorem rcPlace_of_rcMask {off : Nat} {b : Block} (hb : blockOf off = some b) (h : rcMask off ≠ 0) : rcPlace off b := by
  obtain ⟨r, hr, hf⟩ := exists_field_of_accMask_ne_zero (fun h0 => h ((rcMask_eq_zero_iff off).2 h0))
  obtain ⟨hmem, hc⟩ := mem_blockRegs_of_regRow? hb hr
  exact rcPlace_of_covers hb (rcRows_eq_filter b ▸ List.mem_filter.2 ⟨hmem, hf⟩) hc

theorem regRow?_isSome_of_rcMask {off : Nat} (h : rcMask off ≠ 0) : (regRow? off).isSome = true := by
  obtain ⟨r, hr, -⟩ := exists_field_of_accMask_ne_zero (fun h0 => h ((rcMask_eq_zero_iff off).2 h0))
  rw [hr]; rfl

/-! ### Routes and accesses that reach no register -/

/-- R592: while TST is locked no slot applies. -/
theorem tstApply_of_locked {s : State} (h : tstUnlocked s = false) (kind target : Nat) : tstApply kind target s = (none, s) := by
  have hn : tstSlot s kind target = none := List.find?_eq_none.2 (by simp [tstMatch, h])
  simp [tstApply, hn]

theorem readBy_of_open {r : Route} {s : State} (h : routeOpen s r = true) (f : State → State) :
    readBy r f s = f (tstApply 1 (routeNum r) s).2 := by
  simp [readBy, h]

theorem readBy_of_locked {r : Route} {s : State} (h : routeOpen s r = true) (hl : tstUnlocked s = false) (f : State → State) :
    readBy r f s = f s := by
  rw [readBy_of_open h, tstApply_of_locked hl]

theorem hostRead_of_unmapped {off : Nat} (h4 : off % 4 = 0) (h : regRow? off = none) (s : State) :
    hostRead off s = answer 0 s := by
  cases hb : blockOf off <;> simp [hostRead, h4, h, hb]

theorem hostRead_of_off {off : Nat} {b : Block} {s : State} (h4 : off % 4 = 0) (hb : blockOf off = some b)
    (hd : blockUp s b = false) : hostRead off s = answer 0 s := by
  cases hr : regRow? off <;> simp [hostRead, h4, hr, hb, hd]

theorem hostRead_of_up {off : Nat} {b : Block} {s : State} (h4 : off % 4 = 0) (hb : blockOf off = some b)
    (hr : (regRow? off).isSome = true) (hu : blockUp s b = true) : hostRead off s = readReg off s := by
  obtain ⟨r, hr⟩ := Option.isSome_iff_exists.1 hr
  simp [hostRead, h4, hr, hb, hu]

theorem hostWrite_of_unmapped {off : Nat} (h4 : off % 4 = 0) (h : regRow? off = none) (v now : Word) (s : State) :
    hostWrite off v now s = s := by
  cases hb : blockOf off <;> simp [hostWrite, h4, h, hb]

theorem hostWrite_of_off {off : Nat} {b : Block} {s : State} (h4 : off % 4 = 0) (hb : blockOf off = some b)
    (hd : blockUp s b = false) (v now : Word) : hostWrite off v now s = s := by
  cases hr : regRow? off <;> simp [hostWrite, h4, hr, hb, hd]

theorem exec_registerWrite_host {r : Route} {s : State} (h : routeOpen s r = true) (off : Nat) (v now : Word) :
    exec (.registerWrite (.host r) off v now) s = .next (hostWrite off v now s) := by
  show execRegisterWrite (.host r) off v now s = _
  simp [execRegisterWrite, h]

theorem exec_unmappedAccess_read {r : Route} {s : State} (h : routeOpen s r = true) (off : Nat) (v : Word) :
    exec (.unmappedAccess r off false v) s = .next (hostRead off (tstApply 1 (routeNum r) s).2) := by
  show execUnmappedAccess r off false v s = _
  simp [execUnmappedAccess, readBy_of_open h]

theorem exec_unmappedAccess_write {r : Route} {s : State} (h : routeOpen s r = true) (off : Nat) (v : Word) :
    exec (.unmappedAccess r off true v) s = .next (hostWrite off v 0 s) := by
  show execUnmappedAccess r off true v s = _
  simp [execUnmappedAccess, h]

/-! ### RC_READ -/

/-- No line pulses in the word of a register that has RC fields, nor where the module sets nothing. -/
theorem pulses_eq_nil {off : Nat} {now : Option Word} (h : now = none ∨ rcMask off ≠ 0) : pulses off now = [] := by
  unfold pulses
  split
  · next hw =>
    rcases h with rfl | h
    · simp [sourcesIn, srcWritten, bitOf]
    · have hb : blockOf off = some .intc := blockOf_eq_of_page (by dsimp only [Block.page]; omega)
      have hp : rcPlace off .intc := rcPlace_of_rcMask hb h
      unfold rcPlace at hp
      omega
  · rfl

/-- With TST locked and no pulse, RC_READ reads the register after what the module sets in the cycle. -/
theorem exec_rcRead_of_locked {r : Route} {off : Nat} {now : Option Word} {s : State} (h : routeOpen s r = true)
    (hl : tstUnlocked s = false) (hn : now = none ∨ rcMask off ≠ 0) :
    exec (.rcRead r off now) s = .next (hostRead off (setInCycle off now s)) := by
  show execRcRead r off now s = _
  simp [execRcRead, readBy_of_locked h hl, pulses_eq_nil hn, each, showPulses]

/-- Reads without an effect of their own: no latch, no claim. -/
theorem readReg_of_readActs_false {off : Nat} (h : readActs off = false) (s : State) :
    readReg off s = clearRc off (readPlain off (wakesFabric off s)) := by
  simp only [readActs, Bool.or_eq_false_iff, Bool.and_eq_false_iff, decide_eq_false_iff_not] at h
  obtain ⟨⟨⟨⟨⟨⟨h1, h2⟩, h3⟩, h4⟩, h5⟩, h6⟩, h7⟩ := h
  have h3 : off ∉ shadowRegs := by simpa using h3
  unfold readReg
  rw [if_neg h1, if_neg h2, if_neg h3, if_neg (by omega), if_neg (by omega), if_neg h6, if_neg h7]

/-- R19: a word that is answered shows the register's value but in its unpredictable bits. -/
theorem blurRead_answer (off : Nat) (v : Word) (s : State) : (blurRead off (answer v s)).regs = s.regs ∧
    ∃ x, (blurRead off (answer v s)).hostData = [x] ∧ x &&& ~~~(hostUnpred s off) = v &&& ~~~(hostUnpred s off) := by
  have hu : hostUnpred (answer v s) off = hostUnpred s off := rfl
  unfold blurRead
  extract_lets m
  split
  · exact ⟨rfl, v, rfl, rfl⟩
  · refine ⟨rfl, _, rfl, ?_⟩
    rw [← hu]
    exact blur_and_not v _ _ _

/-- What a plain read of a register answers, and that it changes no register. -/
theorem readPlain_spec (off : Nat) (s : State) : (readPlain off s).regs = s.regs ∧
    ∃ x, (readPlain off s).hostData = [x] ∧
      x &&& ~~~(hostUnpred s off) = viewReg s off &&& w32 (readMask off) &&& ~~~(hostUnpred s off) := by
  have hd : ∀ t, hostUnpred (drawn t) off = hostUnpred t off := fun _ => rfl
  unfold readPlain
  extract_lets rm v s'
  have hs : s'.regs = s.regs ∧ hostUnpred s' off = hostUnpred s off := by
    unfold s' workDrawn
    split
    · split
      · exact ⟨rfl, (hd (drawn s)).trans (hd s)⟩
      · split
        · exact ⟨rfl, hd s⟩
        · exact ⟨rfl, rfl⟩
    · exact ⟨rfl, rfl⟩
  have h := blurRead_answer off v s'
  rwa [hs.1, hs.2] at h

/-! ### What a read of an RC register leaves alone -/

theorem getF_setR_ne {f : Fld} {o : Nat} (v : Word) (s : State) (h : f.off ≠ o) : getF (setR o v s) f = getF s f := by
  simp [getF, getR_setR_ne v s h]

theorem flag_setR_ne {f : Fld} {o : Nat} (v : Word) (s : State) (h : f.off ≠ o) : flag (setR o v s) f = flag s f := by
  simp [flag, getF_setR_ne v s h]

theorem hierBad_setR {o : Nat} (v : Word) (s : State) (h : 0x400014 ≤ o) : hierBad (setR o v s) = hierBad s := by
  unfold hierBad ringWin downMtu
  repeat rw [getF_setR_ne v s (by dsimp only; omega)]

theorem startBad_setR {o : Nat} (v : Word) (s : State) (p : Nat) (h : o % 0x1000 ≠ 0x14) :
    startBad (setR o v s) p = startBad s p := by
  unfold startBad startBytes
  rw [getF_setR_ne v s (by dsimp only [portReg]; omega)]

theorem radioBad_setR {o : Nat} (v : Word) (s : State) (r : Nat) (h : 0x200 ≤ o % 0x1000) :
    radioBad (setR o v s) r = radioBad s r := by
  have hv : ∀ k ∈ List.range 8, sfValid (setR o v s) r k = sfValid s r k := fun k hk =>
    flag_setR_ne v s (by have := List.mem_range.1 hk; dsimp only [sfReg, airReg]; omega)
  have hs : slotframes (setR o v s) r = slotframes s r := List.filter_congr hv
  have hu : ∀ k ∈ slotframes s r, sfSlotUs (setR o v s) r k = sfSlotUs s r k := fun k hk =>
    getF_setR_ne v s (by have := List.mem_range.1 (List.mem_filter.1 hk).1; dsimp only [sfReg, airReg]; omega)
  unfold radioBad
  rw [hs, Bool.eq_iff_iff]
  simp only [List.any_eq_true, decide_eq_true_eq]
  constructor <;> rintro ⟨k, hk, j, hj, hkj⟩ <;> exact ⟨k, hk, j, hj, by simpa [hu k hk, hu j hj] using hkj⟩

theorem plsBad_setR {o : Nat} (v : Word) (s : State) (k : Nat) (h : o < 0x121000) : plsBad (setR o v s) k = plsBad s k := by
  have hv : ∀ p, ptValid (setR o v s) p = ptValid s p := fun p => flag_setR_ne v s (by dsimp only [ptReg]; omega)
  have hp : ∀ p, ptPulse (setR o v s) p = ptPulse s p := fun p => getF_setR_ne v s (by dsimp only [ptReg]; omega)
  simp only [plsBad, hv, hp]

theorem chnBad_setR {o : Nat} (v : Word) (s : State) (k : Nat) (h : 8 ≤ o % 0x1000) : chnBad (setR o v s) k = chnBad s k := by
  have h0 : chnReg k 0 ≠ o := by unfold chnReg; omega
  have h4 : chnReg k 4 ≠ o := by unfold chnReg; omega
  unfold chnBad chnFields chnDrivers
  simp only [getR_setR_ne v s h0, getR_setR_ne v s h4, getF_setR_ne (f := ⟨chnReg k 0, _, _⟩) v s h0,
    getF_setR_ne (f := ⟨chnReg k 4, _, _⟩) v s h4]

theorem regHome_of_rcPlace {off : Nat} {b : Block} (hb : blockOf off = some b) (h : rcPlace off b) : regHome off = off := by
  have hp := page_of_blockOf hb
  unfold regHome
  cases b <;> dsimp only [rcPlace, Block.page] at h hp <;> rw [if_neg (by omega), if_neg (by omega)]

/-- Neither SYS_PWR_STAT nor RFX_STAT has RC fields. -/
theorem ne_of_rcPlace {off : Nat} {b : Block} (hb : blockOf off = some b) (h : rcPlace off b) : off ≠ 4 ∧ off ≠ 0x130000 := by
  have hp := page_of_blockOf hb
  cases b <;> dsimp only [rcPlace, Block.page] at h hp <;> omega

/-- What the unpredictable bits of a register follow from: its block's configuration, where that can be bad, and its own entry. -/
theorem hostUnpred_congr {s t : State} {off : Nat}
    (hhier : blockOf off = some .hier → hierBad t = hierBad s)
    (hnet : blockOf off = some .net → off < 0x204000 →
      startBad t ((off - 0x200000) / 0x1000) = startBad s ((off - 0x200000) / 0x1000))
    (hair : 0x300000 ≤ off → off < 0x304000 → radioBad t ((off - 0x300000) / 0x1000) = radioBad s ((off - 0x300000) / 0x1000))
    (hcell : ¬(0x30C000 ≤ off ∧ off < 0x310000))
    (hmtr : blockOf off = some .mtr → off < 0x121000)
    (hpls : 0x120200 ≤ off → off < 0x120240 → plsBad t ((off - 0x120200) / 0x10) = plsBad s ((off - 0x120200) / 0x10))
    (hchn : blockOf off = some .chn → chnBad t ((off - 0x110000) / 0x1000) = chnBad s ((off - 0x110000) / 0x1000))
    (hun : t.unpred = s.unpred) : hostUnpred t off = hostUnpred s off := by
  have hkey : unpredAt t (spoilKey t off) = unpredAt s (spoilKey s off) := by
    simp only [spoilKey, hcell, if_false, unpredAt, hun]
  unfold hostUnpred
  have hite : ∀ {p q : Prop} [Decidable p] [Decidable q] {x y z : Word}, (p ↔ q) → y = z → (if p then x else y) = if q then x else z :=
    fun hpq hyz => ite_congr (propext hpq) (fun _ => rfl) fun _ => hyz
  refine hite ?_ (hite ?_ (hite ?_ (hite ?_ (hite ?_ (hite ?_ (hite ?_ hkey))))))
  · exact and_congr_right fun h => by rw [hhier h]
  · exact and_congr_right fun h => and_congr_right fun h4 => by rw [hnet h h4]
  · exact and_congr_right fun h => and_congr_right fun h4 => by rw [hair h h4]
  · exact iff_of_false (fun h => hcell ⟨h.1, h.2.1⟩) (fun h => hcell ⟨h.1, h.2.1⟩)
  · exact and_congr_right fun h => and_congr_right fun h1 => absurd h1 (Nat.not_le.2 (hmtr h))
  · exact and_congr_right fun h => and_congr_right fun h4 => by rw [hpls h h4]
  · exact and_congr_right fun h => by rw [hchn h]

/-- R9, R19: what is unpredictable in a register with RC fields does not follow from its own value. -/
theorem hostUnpred_setR_of_rcPlace {off : Nat} {b : Block} (hb : blockOf off = some b) (h : rcPlace off b) (v : Word) (s : State) :
    hostUnpred (setR off v s) off = hostUnpred s off := by
  have hp := page_of_blockOf hb
  have hplace : ∀ c, blockOf off = some c → rcPlace off c := fun c hc => Option.some.inj (hb.symm.trans hc) ▸ h
  have hwin : ∀ c : Block, off / 0x10000 = c.page → rcPlace off c := fun c hc => hplace c (blockOf_eq_of_page hc)
  have hair : 0x300000 ≤ off → off < 0x310000 → rcPlace off .air := fun h1 h2 => hwin .air (by dsimp only [Block.page]; omega)
  have hmtr : 0x120200 ≤ off → off < 0x120240 → rcPlace off .mtr := fun h1 h2 => hwin .mtr (by dsimp only [Block.page]; omega)
  have hnet := hplace .net
  have hchn := hplace .chn
  have hhier := hplace .hier
  dsimp only [rcPlace] at hair hmtr hnet hchn hhier
  refine hostUnpred_congr (fun hc => hierBad_setR v s ?_) (fun hc h4 => startBad_setR v s _ ?_) (fun h1 h4 => radioBad_setR v s _ ?_)
    (fun hc => ?_) (hplace .mtr) (fun h1 h2 => plsBad_setR v s _ (hmtr h1 h2)) (fun hc => chnBad_setR v s _ ?_) rfl
  · have := hhier hc; omega
  · have := hnet hc; omega
  · have := hair h1 (by omega); omega
  · have := hair (by omega) hc.2; omega
  · have := hchn hc; omega

/-- R300: what is unpredictable in a register of the fabric does not follow from any register. -/
theorem hostUnpred_setR_of_rfx {off : Nat} (hb : blockOf off = some .rfx) (o : Nat) (v : Word) (s : State) :
    hostUnpred (setR o v s) off = hostUnpred s off := by
  have hp := page_of_blockOf hb
  dsimp only [Block.page] at hp
  have hne : ∀ {c : Block} {q : Prop}, blockOf off = some c → c ≠ .rfx → q := fun hc hn =>
    absurd (Option.some.inj (hc.symm.trans hb)) hn
  exact hostUnpred_congr (fun hc => hne hc (by decide)) (fun hc => hne hc (by decide)) (by omega) (by omega)
    (fun hc => hne hc (by decide)) (by omega) (fun hc => hne hc (by decide)) rfl

/-- R9: a register with RC fields shows its stored value. -/
theorem viewReg_of_rcPlace {off : Nat} {b : Block} (hb : blockOf off = some b) (h : rcPlace off b) (s : State) :
    viewReg s off = getR s off := by
  have hp := page_of_blockOf hb
  have hh := regHome_of_rcPlace hb h
  unfold viewReg
  cases b <;> simp only [hb] <;> dsimp only [rcPlace, Block.page] at h hp
  case intc => rw [intcView, if_neg (by omega), if_neg (by omega), if_neg (by omega), if_neg (by omega), if_neg (by omega), hh]
  case drv => unfold drvView; simp [h]
  case mtr => exact if_neg (by omega)
  case rfx => exact if_neg (by omega)
  case dma => exact if_neg (by omega)
  case air => rw [airView, if_neg (by omega), if_neg (by omega)]
  case pln => exact if_neg (by omega)
  case twn =>
    rw [twnView, if_neg (by omega), if_neg (by omega), if_neg (by omega), if_neg (by omega), if_neg (by omega), if_neg (by omega)]
  case tst => exact if_neg (by omega)

/-- R33: whether a block is powered follows from SYS_PWR_STAT. -/
theorem blockUp_congr {s t : State} (h : getR t 4 = getR s 4) (b : Block) : blockUp t b = blockUp s b := by
  have hd : ∀ d : Dom, domState t d = domState s d := by
    intro d
    cases d <;> simp [domState, getF, Dom.fld, h]
  unfold blockUp
  cases b.dom with
  | none => rfl
  | some d => simp only [hd]

/-- R9: what the module sets in the cycle of a read goes into the register that is read. -/
theorem setInCycle_cases (off : Nat) (now : Option Word) (s : State) :
    setInCycle off now s = s ∨ ∃ v, setInCycle off now s = setR off v s := by
  unfold setInCycle
  split
  · split
    · exact .inr ⟨_, rfl⟩
    · exact .inl rfl
  · exact .inl rfl

/-- R9: the RC bits take what the module sets; the others stay. -/
theorem getR_setInCycle_same {off : Nat} {b : Block} {s : State} (hb : blockOf off = some b) (hu : blockUp s b = true)
    (now : Option Word) : getR (setInCycle off now s) off =
      (getR s off &&& ~~~(rcMask off)) ||| (now.getD (getR s off) &&& rcMask off) := by
  cases now with
  | none =>
    show getR s off = _
    rw [Option.getD_none, ← BitVec.and_or_distrib_left, BitVec.or_comm, BitVec.or_not_self, BitVec.and_allOnes]
  | some x => simp [setInCycle, hb, hu, rcMask]

theorem getR_setInCycle_ne {off o : Nat} (now : Option Word) (s : State) (h : o ≠ off) :
    getR (setInCycle off now s) o = getR s o := by
  rcases setInCycle_cases off now s with e | ⟨v, e⟩ <;> rw [e]
  exact getR_setR_ne v s h

theorem getR_wakesFabric {off o : Nat} (s : State) (h : o ≠ 0x130000) : getR (wakesFabric off s) o = getR s o := by
  unfold wakesFabric
  split
  · exact getR_setF_ne _ s h
  · rfl

theorem hostUnpred_wakesFabric (off : Nat) (s : State) : hostUnpred (wakesFabric off s) off = hostUnpred s off := by
  unfold wakesFabric
  split
  · next hb => exact hostUnpred_setR_of_rfx hb _ _ s
  · rfl

@[simp] theorem clearRc_hostData (off : Nat) (s : State) : (clearRc off s).hostData = s.hostData := by
  unfold clearRc
  extract_lets c
  split <;> rfl

theorem clearRc_of_rcMask {off : Nat} (h : rcMask off ≠ 0) (s : State) :
    clearRc off s = setR off (getR s off &&& ~~~(rcMask off)) s :=
  if_neg (fun h0 => h ((rcMask_eq_zero_iff off).2 h0))

theorem clearRc_of_rcMask_eq_zero {off : Nat} (h : rcMask off = 0) (s : State) : clearRc off s = s :=
  if_pos ((rcMask_eq_zero_iff off).1 h)

theorem getR_eq_of_regs {s t : State} (h : t.regs = s.regs) (o : Nat) : getR t o = getR s o := by
  simp [getR, h]

/-- R9: a read of a register with RC fields answers its value and clears those fields. -/
theorem readReg_of_rcMask {off : Nat} {b : Block} (hb : blockOf off = some b) (h : rcMask off ≠ 0) (ha : readActs off = false)
    (s : State) :
    (∃ x, (readReg off s).hostData = [x] ∧
      x &&& ~~~(hostUnpred s off) = getR s off &&& w32 (readMask off) &&& ~~~(hostUnpred s off)) ∧
    getR (readReg off s) off = getR s off &&& ~~~(rcMask off) ∧
    ∀ o, o ≠ off → o ≠ 0x130000 → getR (readReg off s) o = getR s o := by
  have hpl := rcPlace_of_rcMask hb h
  have hoff := (ne_of_rcPlace hb hpl).2
  obtain ⟨hregs, x, hx, hxv⟩ := readPlain_spec off (wakesFabric off s)
  rw [hostUnpred_wakesFabric, viewReg_of_rcPlace hb hpl, getR_wakesFabric s hoff] at hxv
  rw [readReg_of_readActs_false ha]
  refine ⟨⟨x, by rw [clearRc_hostData, hx], hxv⟩, ?_, fun o ho hf => ?_⟩
  · rw [clearRc_of_rcMask h, getR_setR_same, getR_eq_of_regs hregs, getR_wakesFabric s hoff]
  · rw [clearRc_of_rcMask h, getR_setR_ne _ _ ho, getR_eq_of_regs hregs, getR_wakesFabric s hf]

/-- R4: a read of any other register, outside the fabric, answers what it shows and changes none. -/
theorem readReg_of_rcMask_eq_zero {off : Nat} (hb : blockOf off ≠ some .rfx) (h : rcMask off = 0) (ha : readActs off = false)
    (s : State) : (readReg off s).regs = s.regs ∧ ∃ x, (readReg off s).hostData = [x] ∧
      x &&& ~~~(hostUnpred s off) = viewReg s off &&& w32 (readMask off) &&& ~~~(hostUnpred s off) := by
  rw [readReg_of_readActs_false ha, clearRc_of_rcMask_eq_zero h, wakesFabric, if_neg hb]
  exact readPlain_spec off s

/-- R9: with what the module sets in the cycle. -/
theorem hostRead_setInCycle {off : Nat} {b : Block} {s : State} (h4 : off % 4 = 0) (hb : blockOf off = some b)
    (hu : blockUp s b = true) (h : rcMask off ≠ 0) (ha : readActs off = false) (now : Option Word) :
    (∃ x, (hostRead off (setInCycle off now s)).hostData = [x] ∧ x &&& ~~~(hostUnpred s off) =
      ((getR s off &&& ~~~(rcMask off)) ||| (now.getD (getR s off) &&& rcMask off)) &&& w32 (readMask off) &&&
        ~~~(hostUnpred s off)) ∧
    getR (hostRead off (setInCycle off now s)) off = getR s off &&& ~~~(rcMask off) ∧
    ∀ o, o ≠ off → o ≠ 0x130000 → getR (hostRead off (setInCycle off now s)) o = getR s o := by
  have hpl := rcPlace_of_rcMask hb h
  have hne := ne_of_rcPlace hb hpl
  have hup : blockUp (setInCycle off now s) b = true := by
    rcases setInCycle_cases off now s with e | ⟨v, e⟩ <;> rw [e]
    · exact hu
    · rwa [blockUp_congr (getR_setR_ne v s hne.1.symm)]
  have hun : hostUnpred (setInCycle off now s) off = hostUnpred s off := by
    rcases setInCycle_cases off now s with e | ⟨v, e⟩ <;> rw [e]
    exact hostUnpred_setR_of_rcPlace hb hpl v s
  obtain ⟨hx, hsame, hother⟩ := readReg_of_rcMask hb h ha (setInCycle off now s)
  rw [hun, getR_setInCycle_same hb hu] at hx
  rw [getR_setInCycle_same hb hu] at hsame
  rw [hostRead_of_up h4 hb (regRow?_isSome_of_rcMask h) hup]
  refine ⟨hx, ?_, fun o ho hf => (hother o ho hf).trans (getR_setInCycle_ne now s ho)⟩
  exact hsame.trans (merge_sameOutside _ _ _)

/-! ### Writes that are not one aligned word -/

theorem rwMask_congr {s t : State} (h : t.sealed = s.sealed) (off : Nat) : rwMask t off = rwMask s off := by
  unfold rwMask sealedAt isSealed
  rw [h]

/-- The writable bits of one register, sealed or not. -/
theorem rwMask_eq_of {off m : Nat} (h : ∀ x : Bool, accMask (fun a => decide (a = .rw) || (decide (a = .rwl) && !x)) off = m)
    (s : State) : rwMask s off = m := h (sealedAt s off)

/-- SYS_PWR_STAT takes no write. -/
theorem rwMask_pwrStat (s : State) : rwMask s 4 = 0 := rwMask_eq_of (by decide) s

/-- The bits that R20 guards in SYS_WAKE_MASK, SYS_WAKE_CMD, a schedule entry's control word and HIER's are writable ones. -/
theorem rwMask_wakeMask (s : State) : rwMask s 8 = 0xFF := rwMask_eq_of (by decide) s

theorem rwMask_wakeCmd (s : State) : rwMask s 0xC = 0xFF0FFF := rwMask_eq_of (by decide) s

theorem rwMask_schCtl (s : State) (e : Fin 64) : rwMask s (0x3100C + 0x20 * e.val) = 0xFF3F :=
  rwMask_eq_of (by revert e; decide +kernel) s

theorem rwMask_hierCtl (s : State) : rwMask s 0x400084 = 0xFFFFFDFF := rwMask_eq_of (by decide) s

/-- A field put under a mask that holds it does not show outside the mask. -/
theorem putBits_sameOutside {m x y : Word} {lo w : Nat} (v : Nat) (h : lo + w ≤ 32)
    (hm : ∀ i < 32, lo ≤ i → i < lo + w → m.getLsbD i = true) (hy : SameOutside m x y) : SameOutside m x (putBits y lo w v) := by
  refine Eq.trans (BitVec.eq_of_getLsbD_eq fun i hlt => ?_) hy
  have hbit := testBit_putBits y v i h
  simp only [BitVec.testBit_toNat] at hbit
  rw [BitVec.getLsbD_and, BitVec.getLsbD_and, BitVec.getLsbD_not, hbit]
  split
  · next hi => simp [hm i hlt hi.1 hi.2]
  · rfl

/-- R20: what a guarded schedule word becomes differs from the old one in the bits that a host could write alone. -/
theorem guardSch_sameOutside {off : Nat} (h : 0x31000 ≤ off ∧ off < 0x31800) (s : State) {old new : Word}
    (hn : SameOutside (w32 (rwMask s off)) old new) : SameOutside (w32 (rwMask s off)) old (guardSch s off old new) := by
  unfold guardSch
  refine ite_keeps (SameOutside _ old) (fun _ => rfl) fun _ => ite_keeps (SameOutside _ old) (fun hc => ?_) fun _ => hn
  obtain ⟨e, rfl⟩ : ∃ e : Fin 64, off = 0x3100C + 0x20 * e.val :=
    ⟨⟨(off - 0x31000) / 0x20, by omega⟩, by have := hc.1; dsimp only; omega⟩
  rw [rwMask_schCtl] at hn ⊢
  refine putBits_sameOutside _ (by decide) ?_ (putBits_sameOutside _ (by decide) ?_ hn) <;> decide

/-- R20: so does what any guarded word of a block whose writes have nothing that follows them becomes. -/
theorem guardWord_sameOutside {off : Nat} (hq : quietBlock off = true) (s : State) {old new : Word}
    (hn : SameOutside (w32 (rwMask s off)) old new) : SameOutside (w32 (rwMask s off)) old (guardWord s off old new) := by
  have hdrv : ¬(0x100000 ≤ off ∧ off < 0x104000 ∧ off % 0x100 = 0xC) := by
    intro h
    have hb : blockOf off = some .drv := blockOf_eq_of_page (by dsimp only [Block.page]; omega)
    simp [quietBlock, hb] at hq
  have hold : SameOutside (w32 (rwMask s off)) old old := rfl
  have hite : ∀ {c : Prop} [Decidable c] {x y : Word}, (c → SameOutside (w32 (rwMask s off)) old x) →
      (¬c → SameOutside (w32 (rwMask s off)) old y) → SameOutside (w32 (rwMask s off)) old (if c then x else y) :=
    fun hx hy => ite_keeps _ hx hy
  unfold guardWord
  refine hite (fun h => ?wake) fun _ => hite (fun h => ?cmd) fun _ => hite (fun _ => hold) fun _ => hite (fun h => ?core) fun _ =>
    hite (fun _ => hite (fun _ => hold) fun _ => hn) fun _ => hite (fun h => guardSch_sameOutside h s hn) fun _ =>
    hite (fun h => absurd h hdrv) fun _ => hite (fun _ => hold) fun _ => hite (fun h => ?hier) fun _ =>
    hite (fun _ => hite (fun _ => hold) fun _ => hn) fun _ => hite (fun _ => hite (fun _ => hold) fun _ => hn) fun _ => hn
  case wake =>
    subst h
    rw [rwMask_wakeMask, SameOutside, BitVec.and_assoc]
    rfl
  case cmd =>
    subst h
    rw [rwMask_wakeCmd] at hn ⊢
    exact putBits_sameOutside _ (by decide) (by decide) hn
  case core =>
    rw [SameOutside, BitVec.and_assoc, hn, ← BitVec.and_assoc, BitVec.and_self]
  case hier =>
    subst h
    rw [rwMask_hierCtl] at hn hite ⊢
    exact hite (fun _ => putBits_sameOutside _ (by decide) (by decide) hn) fun _ => hn

theorem afterBlock_of_quiet {off : Nat} {b : Block} (hb : blockOf off = some b) (hq : quietBlock off = true) (was : Bool)
    (lead o : Nat) (s : State) : afterBlock b was lead o s = s := by
  cases b <;> simp [quietBlock, hb] at hq <;> rfl

theorem regHome_of_quiet {off : Nat} (hq : quietBlock off = true) : regHome off = off := by
  have hn : off / 0x10000 ≠ 2 := by
    intro h
    have hb : blockOf off = some .intc := blockOf_eq_of_page h
    simp [quietBlock, hb] at hq
  unfold regHome
  rw [if_neg (by omega), if_neg (by omega)]

/-- R5: where such a write reaches a register, it spoils it, and of the registers changes only that one, in the bits that a host
could write. -/
theorem writeFree_of_reached {off : Nat} {b : Block} {s : State} (hq : quietBlock off = true) (hb : blockOf off = some b)
    (hr : (regRow? off).isSome = true) (hu : blockUp s b = true) (ht : b = .tst → tstUnlocked s = true) :
    ∃ t, writeFree off s = spoil (spoilKey s off) (readMask off) t ∧ t.unpred = s.unpred ∧ t.sealed = s.sealed ∧
      (∀ o, o ≠ off → getR t o = getR s o) ∧ SameOutside (w32 (rwMask s off)) (getR s off) (getR t off) := by
  obtain ⟨r, hr⟩ := Option.isSome_iff_exists.1 hr
  have hl : (!blockUp s b || (decide (b = .tst) && !tstUnlocked s)) = false := by
    rw [hu]
    by_cases h : b = .tst <;> simp [h, ht]
  simp only [writeFree, hb, hr, hl, Bool.false_eq_true, if_false]
  refine ⟨_, rfl, ?_⟩
  rw [afterBlock_of_quiet hb hq, regHome_of_quiet hq]
  split
  · unfold setCellWord
    split <;> exact ⟨rfl, rfl, fun _ _ => rfl, rfl⟩
  · refine ⟨rfl, rfl, fun o ho => getR_setR_ne _ _ ho, ?_⟩
    rw [getR_setR_same]
    exact guardWord_sameOutside hq s (merge_sameOutside _ _ _)

/-- Where it reaches no register it changes nothing. -/
theorem writeFree_cases (off : Nat) (s : State) : writeFree off s = s ∨
    ∃ b, blockOf off = some b ∧ (regRow? off).isSome = true ∧ blockUp s b = true ∧ (b = .tst → tstUnlocked s = true) := by
  unfold writeFree
  split
  · next b r hb hr =>
    by_cases hl : (!blockUp s b || (decide (b = .tst) && !tstUnlocked s)) = true
    · exact .inl (if_pos hl)
    · simp only [Bool.or_eq_true, Bool.and_eq_true, Bool.not_eq_true', decide_eq_true_eq, not_or, not_and,
        Bool.not_eq_false] at hl
      exact .inr ⟨b, hb, by rw [hr]; rfl, hl⟩
  · exact .inl rfl

/-- What accesses of R5 may have done to a state: registers differ only in the bits that a host could write, and what read back
unpredictably still does. -/
structure Loosened (s t : State) : Prop where
  sealed : t.sealed = s.sealed
  regs   : ∀ o, SameOutside (w32 (rwMask s o)) (getR s o) (getR t o)
  unpred : ∀ k i, (tabGet (fun _ => 0) s.unpred k : Word).getLsbD i = true → (tabGet (fun _ => 0) t.unpred k : Word).getLsbD i = true

theorem Loosened.refl (s : State) : Loosened s s := ⟨rfl, fun _ => rfl, fun _ _ h => h⟩

theorem Loosened.trans {s t u : State} (h : Loosened s t) (g : Loosened t u) : Loosened s u where
  sealed := g.sealed.trans h.sealed
  regs o := by
    have := g.regs o
    rw [rwMask_congr h.sealed] at this
    exact this.trans (h.regs o)
  unpred k i hi := g.unpred k i (h.unpred k i hi)

theorem Loosened.blockUp {s t : State} (h : Loosened s t) (b : Block) : blockUp t b = blockUp s b := by
  have h4 := h.regs 4
  rw [rwMask_pwrStat] at h4
  have hall : getR t 4 &&& BitVec.allOnes 32 = getR s 4 &&& BitVec.allOnes 32 := h4
  rw [BitVec.and_allOnes, BitVec.and_allOnes] at hall
  exact blockUp_congr hall b

theorem loosened_spoil {s t : State} (key mask : Nat) (h : Loosened s t) : Loosened s (spoil key mask t) where
  sealed := h.sealed
  regs := h.regs
  unpred k i hi := by
    have := h.unpred k i hi
    rw [spoil_unpred]
    by_cases hk : k = key
    · subst hk
      rw [tabGet_set_same, BitVec.getLsbD_or, this, Bool.true_or]
    · rwa [tabGet_set_ne _ _ _ hk]

theorem loosened_writeFree {off : Nat} (hq : quietBlock off = true) (s : State) : Loosened s (writeFree off s) := by
  rcases writeFree_cases off s with h | ⟨b, hb, hr, hu, ht⟩
  · rw [h]; exact .refl s
  · obtain ⟨t, h, hun, hse, hne, hself⟩ := writeFree_of_reached hq hb hr hu ht
    rw [h]
    refine loosened_spoil _ _ ⟨hse, fun o => ?_, fun k i hi => by rwa [hun]⟩
    by_cases ho : o = off
    · subst ho; exact hself
    · rw [hne o ho]; rfl

theorem getR_writeFree_ne {off o : Nat} (hq : quietBlock off = true) (s : State) (ho : o ≠ off) :
    getR (writeFree off s) o = getR s o := by
  rcases writeFree_cases off s with h | ⟨b, hb, hr, hu, ht⟩
  · rw [h]
  · obtain ⟨t, h, -, -, hne, -⟩ := writeFree_of_reached hq hb hr hu ht
    rw [h]
    exact hne o ho

/-- The readable bits of the register that is reached read back unpredictably. -/
theorem spoiled_writeFree {off : Nat} {b : Block} {s : State} (hq : quietBlock off = true) (hb : blockOf off = some b)
    (hr : (regRow? off).isSome = true) (hu : blockUp s b = true) (ht : b ≠ .tst) (ha : b ≠ .air) (i : Nat)
    (hi : (w32 (readMask off)).getLsbD i = true) :
    (tabGet (fun _ => 0) (writeFree off s).unpred off : Word).getLsbD i = true := by
  have hkey : spoilKey s off = off := by
    have hp : off / 0x10000 ≠ 0x30 := fun h =>
      ha (Option.some.inj (hb.symm.trans (blockOf_eq_of_page (b := .air) h)))
    rw [spoilKey, if_neg (by omega), regHome_of_quiet hq]
  obtain ⟨t, h, -⟩ := writeFree_of_reached hq hb hr hu (fun h => absurd h ht)
  rw [h, hkey, spoil_unpred, tabGet_set_same, BitVec.getLsbD_or, hi, Bool.or_true]

theorem loosened_each {ws : List Nat} (hq : ∀ w ∈ ws, quietBlock w = true) (s : State) : Loosened s (each ws writeFree s) := by
  induction ws generalizing s with
  | nil => exact .refl s
  | cons w ws ih =>
    exact (loosened_writeFree (hq w List.mem_cons_self) s).trans (ih (fun x hx => hq x (List.mem_cons_of_mem _ hx)) _)

theorem getR_each_writeFree {ws : List Nat} (hq : ∀ w ∈ ws, quietBlock w = true) {o : Nat} (ho : o ∉ ws) (s : State) :
    getR (each ws writeFree s) o = getR s o := by
  induction ws generalizing s with
  | nil => rfl
  | cons w ws ih =>
    obtain ⟨h1, h2⟩ := not_or.1 (mt List.mem_cons.2 ho)
    exact (ih (fun x hx => hq x (List.mem_cons_of_mem _ hx)) h2 _).trans (getR_writeFree_ne (hq w List.mem_cons_self) s h1)

theorem spoiled_each {ws : List Nat} (hq : ∀ w ∈ ws, quietBlock w = true) {o : Nat} {b : Block} {s : State} (ho : o ∈ ws)
    (hb : blockOf o = some b) (hr : (regRow? o).isSome = true) (hu : blockUp s b = true) (ht : b ≠ .tst) (ha : b ≠ .air) (i : Nat)
    (hi : (w32 (readMask o)).getLsbD i = true) :
    (tabGet (fun _ => 0) (each ws writeFree s).unpred o : Word).getLsbD i = true := by
  induction ws generalizing s with
  | nil => cases ho
  | cons w ws ih =>
    have hws : ∀ x ∈ ws, quietBlock x = true := fun x hx => hq x (List.mem_cons_of_mem _ hx)
    have hw := hq w List.mem_cons_self
    rcases List.mem_cons.1 ho with rfl | ho
    · exact (loosened_each hws _).unpred o i (spoiled_writeFree hw hb hr hu ht ha i hi)
    · exact ih hws ho (((loosened_writeFree hw s).blockUp b).trans hu)

theorem unpredAt_each {ws : List Nat} (hq : ∀ w ∈ ws, quietBlock w = true) {o : Nat} {b : Block} {s : State} (ho : o ∈ ws)
    (hb : blockOf o = some b) (hr : (regRow? o).isSome = true) (hu : blockUp s b = true) (ht : b ≠ .tst) (ha : b ≠ .air) :
    unpredAt (each ws writeFree s) o &&& w32 (readMask o) = w32 (readMask o) := by
  refine BitVec.eq_of_getLsbD_eq fun i _ => ?_
  rw [BitVec.getLsbD_and]
  cases hi : (w32 (readMask o)).getLsbD i with
  | false => rw [Bool.and_false]
  | true =>
    rw [unpredAt, BitVec.getLsbD_or, BitVec.getLsbD_or, spoiled_each hq ho hb hr hu ht ha i hi]
    rfl

/-! ### What follows a write leaves the host's answer alone -/

section HostData
variable (s : State)

@[simp] theorem ite_hostData (c : Prop) [Decidable c] (a b : State) :
    (if c then a else b).hostData = if c then a.hostData else b.hostData := apply_ite State.hostData c a b

/-- Both ways of a condition leave the answer alone. -/
theorem hostData_of_ite {c : Prop} [Decidable c] {a b : State} (ha : a.hostData = s.hostData) (hb : b.hostData = s.hostData) :
    (if c then a else b).hostData = s.hostData := by
  split
  · exact ha
  · exact hb

@[simp] theorem raise_hostData (n : Nat) : (raise n s).hostData = s.hostData := by rw [raise_regs_only]

@[simp] theorem setRing_hostData (r : Nat) (x : DmaRing) : (setRing r x s).hostData = s.hostData := by
  unfold setRing; split <;> rfl

theorem each_hostData {α : Type} {xs : List α} {f : α → State → State} (h : ∀ x t, (f x t).hostData = t.hostData) :
    (each xs f s).hostData = s.hostData :=
  each_frame State.hostData h

@[simp] theorem tstApply_hostData (kind target : Nat) : (tstApply kind target s).2.hostData = s.hostData := by
  have hkeep : ∀ {c : Prop} [Decidable c] {a b : Option Int × State}, a.2.hostData = s.hostData → b.2.hostData = s.hostData →
      (if c then a else b).2.hostData = s.hostData := fun ha hb =>
    ite_keeps (fun p : Option Int × State => p.2.hostData = s.hostData) (fun _ => ha) fun _ => hb
  unfold tstApply
  split
  · rfl
  · extract_lets +onlyGivenNames c st
    clear_value c st
    refine hkeep rfl ?_
    extract_lets +onlyGivenNames seen
    refine hkeep rfl ?_
    extract_lets +onlyGivenNames amt n s1 s2 s3
    have h2 : s2.hostData = s.hostData := addF_hostData (drawn s1) _ _
    clear_value amt n s2
    exact hostData_of_ite s ((setF_hostData s2 _ _).trans h2) h2

/-! #### The bus master (R158, R191) -/

@[simp] theorem writeBackDesc_hostData (r idx : Nat) (ctrl doneLen status : BitVec 16) (m0 m1 : Option (BitVec 64)) :
    (writeBackDesc r idx ctrl doneLen status m0 m1 s).hostData = s.hostData := by
  simp [writeBackDesc]

@[simp] theorem raiseCmpl_hostData (r : Nat) (ds : List Desc) : (raiseCmpl r ds s).hostData = s.hostData := by
  simp [raiseCmpl]

@[simp] theorem advanceHead_hostData (r n : Nat) : (advanceHead r n s).hostData = s.hostData := rfl

@[simp] theorem fwdDone_hostData (r : Nat) (x : HostItem) : (fwdDone r x s).hostData = s.hostData := by
  simp [fwdDone]

@[simp] theorem finishRx_hostData (r : Nat) (x : HostItem) (filled : List (Desc × Nat)) (dropped : Nat) :
    (finishRx r x filled dropped s).hostData = s.hostData := by
  unfold finishRx
  simp only [ite_hostData, bump_hostData, bumpBy_hostData, raiseCmpl_hostData, advanceHead_hostData, ite_self]
  exact (each_hostData _ fun _ _ => writeBackDesc_hostData ..).trans (fwdDone_hostData s r x)

@[simp] theorem openBuffer_hostData (r : Nat) : (openBuffer r s).2.hostData = s.hostData := by
  unfold openBuffer
  split
  · split <;> simp
  · dsimp only
    split
    · split <;> simp
    · simp

@[simp] theorem openBuffers_hostData (r n : Nat) : (openBuffers r n s).2.hostData = s.hostData := by
  induction n generalizing s with
  | zero => rfl
  | succ n ih =>
    dsimp only [openBuffers]
    split <;> simp [ih]

@[simp] theorem deliver_hostData (r : Nat) : (deliver r s).hostData = s.hostData := by
  have h : ∀ (fill : List (Desc × List Byte)) t, (each fill (fun e => emit (.hostMem e.1.addr e.2)) t).hostData = t.hostData :=
    fun fill t => each_hostData t fun _ _ => rfl
  unfold deliver
  split <;> simp [h]

@[simp] theorem writeBackFtx_hostData (d : FtxDone) : (writeBackFtx d s).hostData = s.hostData := by
  unfold writeBackFtx
  simp only [raiseCmpl_hostData, advanceHead_hostData]
  exact each_hostData _ fun _ _ => writeBackDesc_hostData ..

@[simp] theorem flushFtx_hostData (n : Nat) : (flushFtx n s).hostData = s.hostData := by
  induction n generalizing s with
  | zero => rfl
  | succ n ih =>
    unfold flushFtx
    split <;> simp [ih]

@[simp] theorem flushFtxAll_hostData : (flushFtxAll s).hostData = s.hostData := by
  simp [flushFtxAll]

@[simp] theorem dropGather_hostData : (dropGather s).hostData = s.hostData := by
  simp [dropGather]

@[simp] theorem exhaustRx_hostData (r : Nat) : (exhaustRx r s).hostData = s.hostData := by
  unfold exhaustRx
  split <;> simp

@[simp] theorem resumeRx_hostData (r : Nat) : (resumeRx r s).hostData = s.hostData := by
  simp [resumeRx]

@[simp] theorem resumeDma_hostData : (resumeDma s).hostData = s.hostData := by
  simp [resumeDma]

@[simp] theorem judgeRing_hostData (r : Nat) : (judgeRing r s).hostData = s.hostData := by
  have h : (spoilRing r s).hostData = s.hostData := (setRing_hostData _ r _).trans (each_hostData s fun _ _ => rfl)
  simp [judgeRing, h]

/-! #### The drive (R237, R239) -/

@[simp] theorem setFault_hostData (n i : Nat) : (setFault n i s).hostData = s.hostData := by
  simp [setFault, drvFaultIrq]

@[simp] theorem openPhase_hostData (n : Nat) (phaseB : Bool) : (openPhase n phaseB s).hostData = s.hostData := by
  unfold openPhase
  extract_lets +onlyGivenNames x
  refine hostData_of_ite s ?_ rfl
  extract_lets +onlyGivenNames y s1 s2
  have h2 : s2.hostData = s.hostData := (addF_hostData _ _ _).trans (setFault_hostData s1 n _)
  clear_value s2
  exact hostData_of_ite s ((setFault_hostData _ n 6).trans ((setSlice_hostData s2 n _).trans h2)) h2

@[simp] theorem detectLatent_hostData (n : Nat) : (detectLatent n s).hostData = s.hostData := by
  simp [detectLatent]

@[simp] theorem toBias_hostData (n : Nat) (fresh retest : Bool) : (toBias n fresh retest s).hostData = s.hostData := by
  simp [toBias]

@[simp] theorem followEnable_hostData (n : Nat) : (followEnable n s).hostData = s.hostData := by
  simp [followEnable]

@[simp] theorem noteBlankAt_hostData (n w : Nat) : (noteBlankAt n w s).hostData = s.hostData := by
  simp [noteBlankAt]

@[simp] theorem takeRef_hostData (n w left : Nat) (r : Ref) : (takeRef n w left r s).hostData = s.hostData := by
  simp [takeRef]

@[simp] theorem ownDrawn_hostData (m : Nat) : (ownDrawn m s).hostData = s.hostData := by
  simp [ownDrawn]

@[simp] theorem joinLead_hostData (was n : Nat) : (joinLead was n s).hostData = s.hostData := by
  simp [joinLead]

/-! #### The effects by block -/

@[simp] theorem hostRouteScope_hostData (n : Nat) (bad : Bool) : (hostRouteScope n bad s).hostData = s.hostData := rfl

@[simp] theorem chnEnableRise_hostData (k : Nat) : (chnEnableRise k s).hostData = s.hostData := rfl

@[simp] theorem setLink_hostData (p : Nat) (up : Bool) : (setLink p up s).hostData = s.hostData := by
  simp [setLink]

@[simp] theorem setCellWord_hostData (off : Nat) (v : Word) : (setCellWord off v s).hostData = s.hostData := by
  simp [setCellWord]

@[simp] theorem afterIntc_hostData (off : Nat) : (afterIntc off s).hostData = s.hostData := by
  unfold afterIntc
  exact hostData_of_ite s (hostData_of_ite s rfl rfl) rfl

@[simp] theorem afterDrv_hostData (was off : Nat) : (afterDrv was off s).hostData = s.hostData := by
  unfold afterDrv
  exact hostData_of_ite s ((joinLead_hostData _ _ _).trans (followEnable_hostData s _)) rfl

@[simp] theorem afterChn_hostData (was : Bool) (off : Nat) : (afterChn was off s).hostData = s.hostData := by
  unfold afterChn
  exact hostData_of_ite s (chnEnableRise_hostData s _) rfl

@[simp] theorem afterRfx_hostData (off : Nat) : (afterRfx off s).hostData = s.hostData := by
  unfold afterRfx
  extract_lets i
  clear_value i
  exact hostData_of_ite s rfl (hostData_of_ite s (setR_hostData s _ _) rfl)

@[simp] theorem afterNet_hostData (off : Nat) : (afterNet off s).hostData = s.hostData := by
  unfold afterNet
  exact hostData_of_ite s (setLink_hostData s _ _) rfl

@[simp] theorem afterDma_hostData (off : Nat) : (afterDma off s).hostData = s.hostData := by
  unfold afterDma
  exact hostData_of_ite s (judgeRing_hostData s _) (hostData_of_ite s (resumeDma_hostData s) rfl)

/-- No change that a write of R5 leads to answers the host. -/
@[simp] theorem afterBlock_hostData (b : Block) (was : Bool) (lead off : Nat) : (afterBlock b was lead off s).hostData = s.hostData := by
  cases b <;> simp [afterBlock]

theorem writeFree_hostData (off : Nat) : (writeFree off s).hostData = s.hostData := by
  unfold writeFree
  split <;> simp

end HostData

/-! ### UNALIGNED_ACCESS -/

theorem exec_unalignedAccess_read {r : Route} {s : State} (h : routeOpen s r = true) (off len : Nat) :
    exec (.unalignedAccess (.regs r) off len false) s =
      .next (readFree (wordsTouched off len).length (tstApply 1 (routeNum r) s).2) := by
  show execUnalignedAccess (.regs r) off len false s = _
  simp [execUnalignedAccess, readBy_of_open h]

theorem exec_unalignedAccess_write {r : Route} {s : State} (h : routeOpen s r = true) (off len : Nat) :
    exec (.unalignedAccess (.regs r) off len true) s = .next (each (wordsTouched off len) writeFree s) := by
  show execUnalignedAccess (.regs r) off len true s = _
  simp [execUnalignedAccess, h]

theorem exec_barRead_of_locked {s : State} (h : routeOpen s .pcie = true) (hl : tstUnlocked s = false) (off len : Nat) :
    exec (.unalignedAccess .bar2 off len false) s = .next (barRead off len s) := by
  show execUnalignedAccess .bar2 off len false s = _
  simp [execUnalignedAccess, readBy_of_locked h hl]

theorem barRead_spec (off len : Nat) (s : State) :
    (barRead off len s).hostData = packWords (regionBytes s 0 off len) ∧ (barRead off len s).regs = s.regs := by
  unfold barRead
  extract_lets t
  split <;> exact ⟨rfl, rfl⟩

/-! ### The statement -/

/-- R32: an access outside every register. -/
theorem unmapped_completes {r : Route} {off : Nat} {s : State} (v now : Word) (h : routeOpen s r = true) (h4 : off % 4 = 0)
    (hr : regRow? off = none) :
    (Completes (.unmappedAccess r off false v) s fun t => t = { (tstApply 1 (routeNum r) s).2 with hostData := [0] }) ∧
    (Completes (.unmappedAccess r off true v) s fun t => t = s) ∧
    (Completes (.registerWrite (.host r) off v now) s fun t => t = s) :=
  ⟨⟨_, exec_unmappedAccess_read h off v, hostRead_of_unmapped h4 hr _⟩,
   ⟨_, exec_unmappedAccess_write h off v, hostWrite_of_unmapped h4 hr v 0 s⟩,
   ⟨_, exec_registerWrite_host h off v now, hostWrite_of_unmapped h4 hr v now s⟩⟩

/-- R33: an access of a block whose domain is OFF. -/
theorem blockOff_completes {r : Route} {off : Nat} {b : Block} {s : State} (v now : Word) (h : routeOpen s r = true)
    (h4 : off % 4 = 0) (hl : tstUnlocked s = false) (hb : blockOf off = some b) (hd : blockUp s b = false) :
    (Completes (.rcRead r off none) s fun t => t = { s with hostData := [0] }) ∧
    (Completes (.unmappedAccess r off false v) s fun t => t = { s with hostData := [0] }) ∧
    (Completes (.registerWrite (.host r) off v now) s fun t => t = s) := by
  refine ⟨⟨_, exec_rcRead_of_locked h hl (.inl rfl), hostRead_of_off h4 hb hd⟩, ⟨_, exec_unmappedAccess_read h off v, ?_⟩,
    ⟨_, exec_registerWrite_host h off v now, hostWrite_of_off h4 hb hd v now⟩⟩
  rw [tstApply_of_locked hl]
  exact hostRead_of_off h4 hb hd

/-- R5: a write that is not one aligned word, to registers that no rule makes do more. -/
theorem writeFree_words_spec {ws : List Nat} (hq : ∀ w ∈ ws, quietBlock w = true) (s : State) (o : Nat) :
    (o ∉ ws → getR (each ws writeFree s) o = getR s o) ∧
    (getR (each ws writeFree s) o &&& ~~~(w32 (rwMask s o)) = getR s o &&& ~~~(w32 (rwMask s o))) ∧
    (∀ b, o ∈ ws → blockOf o = some b → blockUp s b = true → b ≠ .tst → b ≠ .air → (regRow? o).isSome = true →
      unpredAt (each ws writeFree s) o &&& w32 (readMask o) = w32 (readMask o)) :=
  ⟨fun ho => getR_each_writeFree hq ho s, (loosened_each hq s).regs o,
   fun _ ho hb hu ht ha hr => unpredAt_each hq ho hb hr hu ht ha⟩

/-- Settles O7, each clause by what the route, the register's row and the domain make of the access. -/
theorem otherAccessesComplete : Obligations.OtherAccessesComplete := by
  unfold Obligations.OtherAccessesComplete
  refine ⟨?unmapped, ?blockOff, ?rc, ?plain, ?unaligned, ?bar2⟩
  case unmapped => exact fun r off v now s h h4 hr => unmapped_completes v now h h4 hr
  case blockOff => exact fun r off v now s h h4 hl b hb hd => blockOff_completes v now h h4 hl hb hd
  case rc =>
    intro r off now s h hl h4 b hb hu hrc ha
    exact ⟨_, exec_rcRead_of_locked h hl (.inr hrc), hostRead_setInCycle h4 hb hu hrc ha now⟩
  case plain =>
    intro r off s h hl h4 b hb hrfx hu hr hrc ha
    have hread := readReg_of_rcMask_eq_zero (fun hf => hrfx (Option.some.inj (hb.symm.trans hf))) hrc ha s
    rw [← hostRead_of_up h4 hb hr hu] at hread
    exact ⟨_, exec_rcRead_of_locked h hl (.inl rfl), hread⟩
  case unaligned =>
    intro r off len s h
    refine ⟨⟨_, exec_unalignedAccess_read h off len, by simp [readFree], fun hl => ?_⟩,
      ⟨_, exec_unalignedAccess_write h off len, each_hostData s fun w t => writeFree_hostData t w,
        fun hq o => writeFree_words_spec hq s o⟩⟩
    rw [tstApply_of_locked hl]
    rfl
  case bar2 =>
    intro off len s h
    exact ⟨fun hl => ⟨_, exec_barRead_of_locked h hl off len, barRead_spec off len s⟩, ⟨s, rfl, rfl⟩⟩

end Sys2Proof.Machine
end

section
/-! SUPPORT. O9, the brown-out reset: what it makes of the channels' slices (R56, R237, R249), and of the slice table's other keys. -/

namespace Sys2Proof.Machine

/-! ### What leaves the drive alone -/

section DriveFrame
variable (s : State)

theorem each_drv {α : Type} {xs : List α} {f : α → State → State} (h : ∀ x t, (f x t).drv = t.drv) :
    (each xs f s).drv = s.drv :=
  each_frame State.drv h

theorem when_drv {c : Bool} {f : State → State} (h : (f s).drv = s.drv) : (when c f s).drv = s.drv := by
  unfold when
  split
  · exact h
  · rfl

@[simp] theorem raise_drv (n : Nat) : (raise n s).drv = s.drv := by rw [raise_regs_only]

@[simp] theorem setDisc_drv (b : Bool) : (setDisc b s).drv = s.drv := rfl

/-! #### The wired ports (R376, R393) -/

@[simp] theorem setPort_drv (p : Nat) (x : NetPort) : (setPort p x s).drv = s.drv := by
  unfold setPort
  split <;> rfl

@[simp] theorem sent_drv (p : Nat) (e : TxEnt) (ok : Bool) : (sent p e ok s).drv = s.drv := by
  unfold sent
  dsimp only
  split <;> rfl

@[simp] theorem pauseAtEnd_drv (p : Nat) : (pauseAtEnd p s).drv = s.drv := by
  unfold pauseAtEnd
  dsimp only
  split <;> simp

@[simp] theorem freeCells_drv (p : Nat) (e : TxEnt) : (freeCells p e s).drv = s.drv := by
  rw [freeCells, setF_drv, setF_drv]

@[simp] theorem endTx_drv (p : Nat) (ok : Bool) : (endTx p ok s).drv = s.drv := by
  unfold endTx
  dsimp only
  split <;> simp

@[simp] theorem unqueue_drv (drop : TxEnt → Bool) (p : Nat) : (unqueue drop p s).drv = s.drv := by
  unfold unqueue
  exact (each_drv _ fun e t => freeCells_drv t p e).trans (setPort_drv s p _)

@[simp] theorem dropOpen_drv (p : Nat) : (dropOpen p s).drv = s.drv := by
  have hUnderrun : ∀ t, (underrun p t).drv = t.drv := fun t => by simp [underrun]
  unfold dropOpen
  dsimp only
  split
  · split <;> simp [hUnderrun]
  · simp

@[simp] theorem netClear_drv : (netClear s).drv = s.drv := by
  unfold netClear
  rw [setB_drv, setB_drv, setF_drv, setF_drv, each_drv]
  intro p t
  rw [setB_drv, setB_drv, setB_drv, each_drv]
  exact fun q t => setF_drv t _ _

@[simp] theorem netFall_drv : (netFall s).drv = s.drv :=
  (netClear_drv _).trans (when_drv s rfl)

/-! #### The radios (R440) and the key store (R559, R564) -/

@[simp] theorem setRadio_drv (r : Nat) (x : RadioSt) : (setRadio r x s).drv = s.drv := by
  unfold setRadio
  split <;> rfl

@[simp] theorem airFall_drv : (airFall s).drv = s.drv := rfl

@[simp] theorem keyOut_drv (b : Option (List Byte)) : (keyOut b s).drv = s.drv := by
  cases b <;> exact each_drv s fun _ _ => rfl

@[simp] theorem keyAnswer_drv (c : Code) : (keyAnswer c s).drv = s.drv := raise_drv _ _

@[simp] theorem clearLoaded_drv (p : Nat → Bool) : (clearLoaded p s).drv = s.drv := rfl

@[simp] theorem zeroStore_drv : (zeroStore s).drv = s.drv := by
  have hWiped : ∀ t, (clearLoaded (fun _ => true) (each keySlots (fun n => setR (keyW0 n) 0) t)).drv = t.drv :=
    fun t => (clearLoaded_drv _ _).trans (each_drv t fun n u => setR_drv u _ _)
  have h := hWiped { s with key := { s.key with mats := [], purge := [] } }
  unfold zeroStore
  dsimp only at h ⊢
  generalize clearLoaded _ _ = u at h
  split <;> simp [h]

@[simp] theorem endTest_drv : (endTest s).drv = s.drv := by
  unfold endTest
  split
  · exact zeroStore_drv s
  · rfl

@[simp] theorem fullScale_drv : (fullScale s).drv = s.drv := by
  rw [fullScale, setB_drv, setB_drv]

@[simp] theorem clearPower_drv : (clearPower s).drv = s.drv := by
  rw [clearPower, setB_drv, setB_drv, clearRegs_drv]

end DriveFrame

/-! ### What a reset leaves of the slices -/

/-- A slice reads the slice table alone. -/
theorem slice_congr {s t : State} (h : t.drv.slices = s.drv.slices) (n : Nat) : slice t n = slice s n := by
  rw [slice, h, slice]

@[simp] theorem clearCtrl_slices (s : State) : (clearCtrl s).drv.slices = s.drv.slices := by
  have hPorts : (each ports dropOpen s).drv = s.drv := each_drv s fun p t => dropOpen_drv t p
  unfold clearCtrl
  dsimp only
  generalize each ports dropOpen s = u at hPorts
  rw [setB_drv, setB_drv, each_drv _ fun k t => setChain_drv t k _, each_drv _ fun r t => setRadio_drv t r _]
  have hSlices : u.drv.slices = s.drv.slices := congrArg DrvSt.slices hPorts
  exact hSlices

@[simp] theorem clearRest_slices (s : State) : (clearRest s).drv.slices = s.drv.slices := by
  have hFalls : (airFall (netFall s)).drv = s.drv := (airFall_drv _).trans (netFall_drv s)
  unfold clearRest
  extract_lets +onlyGivenNames u v
  have hv : v.drv = s.drv := (clearRegs_drv u _).trans hFalls
  clear_value v
  rw [setB_drv, ← hv]

/-! ### The slices after a brown-out -/

theorem slice_setSlice (n m : Nat) (x : Slice) (s : State) : slice (setSlice n x s) m = if m = n then x else slice s m := by
  split
  · next h => rw [h]; exact tabGet_set_same _ _ _ _
  · next h => exact tabGet_set_ne _ _ _ h

/-- An update of the slice of each channel of a list changes those and no other. -/
theorem slice_each_setSlice (f : Slice → Slice) {xs : List Nat} (h : xs.Nodup) (s : State) (m : Nat) :
    slice (each xs (fun n t => setSlice n (f (slice t n)) t) s) m = if m ∈ xs then f (slice s m) else slice s m := by
  induction xs generalizing s with
  | nil => rfl
  | cons n xs ih =>
    obtain ⟨hn, hxs⟩ := List.nodup_cons.1 h
    refine (ih hxs (setSlice n (f (slice s n)) s)).trans ?_
    rw [slice_setSlice]
    by_cases hm : m = n
    · simp [hm, hn]
    · simp [hm]

theorem driveFall_slices (s : State) : (driveFall s).drv.slices =
    (each channels (fun n t => setSlice n (slept (slice t n)) t) { s with drv := { s.drv with bus := [], mitre := [] } }).drv.slices := by
  rw [driveFall, fullScale_drv]

/-- R237: DRIVE at OFF leaves each of the 64 channels what it keeps, and no other key of the slice table is touched. -/
theorem slice_driveFall (s : State) (n : Nat) :
    slice (driveFall s) n = if n < 64 then slept (slice s n) else slice s n := by
  have h := slice_each_setSlice slept (List.nodup_range (n := 64)) { s with drv := { s.drv with bus := [], mitre := [] } } n
  simp only [List.mem_range] at h
  exact (slice_congr (driveFall_slices s) n).trans h

theorem brownOutEffect_slices (s : State) :
    (brownOutEffect s).drv.slices = (driveFall { s with mtr := { s.mtr with saving := none } }).drv.slices := by
  have hHeld : ∀ v : State, (setDom .ctrl 0 { v with
      sealed := []
      port := { v.port with link := false }
      drv := { v.drv with lost := [] }
      free := v.free + 1
      sys := { held := true, storeMv := freeBelow 6999 v, vbatMv := v.sys.vbatMv } }).drv.slices = v.drv.slices :=
    fun v => by rw [setDom_drv]
  rw [brownOutEffect, hHeld, clearPower_drv, clearRegs_drv, endTest_drv, clearRest_slices, clearCtrl_slices]

/-- R56: a brown-out reset does the same to the slices. -/
theorem slice_brownOutEffect (s : State) (n : Nat) :
    slice (brownOutEffect s) n = if n < 64 then slept (slice s n) else slice s n :=
  (slice_congr (brownOutEffect_slices s) n).trans (slice_driveFall _ n)

/-! ### The statement -/

/-- A running module whose slice table has an entry beside the channels', whose stage works. -/
def sliceBesideChannels : State := { sys := { held := false }, drv := { slices := [(64, { st := .run })] } }

/-- Refutes O9 in its clause on the brown-out reset, which says of every key of the slice table what R56 and R237 say of the 64
channels: an entry at 64 stays as it is. -/
theorem not_powerFailCompletes : ¬ Obligations.PowerFailCompletes := by
  unfold Obligations.PowerFailCompletes
  rintro ⟨-, -, hBrownOut, -, -, -⟩
  obtain ⟨t, ht, -, -, -, -, -, hSlept⟩ := hBrownOut sliceBesideChannels rfl
  obtain rfl : brownOutEffect sliceBesideChannels = t := Host.Outcome.next.inj ht
  have hKept := slice_brownOutEffect sliceBesideChannels 64
  rw [hSlept 64] at hKept
  exact absurd hKept (by decide)

end Sys2Proof.Machine
end

section
/-! SUPPORT. O10, power commands: what an answer shows in SYS_PWR_STAT (R90, R91), what it leaves there, and what the begin of a
change adds to it (R87, R105). -/

namespace Sys2Proof.Machine

/-! ### The report of a command -/

theorem getR_congr {s t : State} (h : t.regs = s.regs) (o : Nat) : getR t o = getR s o := by rw [getR, h, getR]

theorem getF_congr {s t : State} (h : t.regs = s.regs) (f : Fld) : getF t f = getF s f := by
  rw [getF, getR_congr h, getF]

section PowerReport
variable (c : Code) (tag : Nat) (wake : Bool) (cmdId issuer : Nat) (s : State)

/-- The answer leaves the domains' states, BUSY, SAVE and FAULT as they are. -/
theorem getF_pwrAnswer_low {g : Fld} (hOff : g.off = 4) (hLow : g.lo + g.w ≤ 15) :
    getF (pwrAnswer c tag wake cmdId issuer s) g = getF s g := by
  have hSrc : ∀ t, getF (setB pwrSrc wake t) g = getF t g := fun t =>
    getF_setF_other _ t (by decide) (.inr (.inl hLow))
  rw [pwrAnswer, getF_setF_other _ _ (by decide) (.inr (.inl (by dsimp only [pwrResult]; omega))),
    getF_setF_other _ _ (by decide) (.inr (.inl (by dsimp only [pwrTag]; omega))), hSrc,
    getF_setF_other _ _ (by decide) (.inl (by rw [hOff]; decide)),
    getF_setF_other _ _ (by decide) (.inl (by rw [hOff]; decide))]
  rfl

theorem domState_pwrAnswer (d : Dom) : domState (pwrAnswer c tag wake cmdId issuer s) d = domState s d :=
  getF_pwrAnswer_low c tag wake cmdId issuer s (by cases d <;> rfl) (by cases d <;> decide)

theorem flag_pwrBusy_pwrAnswer : flag (pwrAnswer c tag wake cmdId issuer s) pwrBusy = flag s pwrBusy := by
  unfold flag
  rw [getF_pwrAnswer_low c tag wake cmdId issuer s rfl (by decide)]

theorem getF_pwrResult_pwrAnswer : getF (pwrAnswer c tag wake cmdId issuer s) pwrResult = c.num := by
  rw [pwrAnswer, getF_setF_same _ _ (by decide)]
  cases c <;> rfl

theorem getF_pwrTag_pwrAnswer : getF (pwrAnswer c tag wake cmdId issuer s) pwrTag = tag % 256 := by
  rw [pwrAnswer, getF_setF_other _ _ (by decide) (by decide), getF_setF_same _ _ (by decide)]
  rfl

theorem flag_pwrSrc_pwrAnswer : flag (pwrAnswer c tag wake cmdId issuer s) pwrSrc = wake := by
  have h := flag_setB_same (f := pwrSrc) wake
    (setF ⟨0x20, 0, 16⟩ cmdId (setF ⟨0x20, 16, 16⟩ issuer (unspoilLong 4 s))) (by decide) (by decide)
  unfold flag at h ⊢
  rwa [pwrAnswer, getF_setF_other _ _ (by decide) (by decide), getF_setF_other _ _ (by decide) (by decide)]

/-- A command that no hierarchy command carries shows no command id and no issuer. -/
theorem getR_pwrId_pwrAnswer : getR (pwrAnswer c tag wake 0 0 s) 0x20 = 0 := by
  have hCleared : ∀ x : Word, putBits (putBits x 16 16 0) 0 16 0 = 0 := fun x => by
    apply BitVec.eq_of_toNat_eq
    rw [putBits_toNat _ _ (by decide), putBits_toNat _ _ (by decide)]
    have := x.isLt
    show _ = 0
    omega
  have hSrc : ∀ t, getR (setB pwrSrc wake t) 0x20 = getR t 0x20 := fun t => getR_setF_ne _ t (by decide)
  rw [pwrAnswer, getR_setF_ne _ _ (by decide), getR_setF_ne _ _ (by decide), hSrc, setF, getR_setR_same, setF, getR_setR_same]
  exact hCleared _

theorem pwrAnswer_sys : (pwrAnswer c tag wake cmdId issuer s).sys = s.sys := by
  rw [pwrAnswer, setF_sys, setF_sys, setB_sys, setF_sys, setF_sys, unspoilLong_sys]

theorem pwrAnswer_port : (pwrAnswer c tag wake cmdId issuer s).port = s.port := by
  rw [pwrAnswer, setF_port, setF_port, setB_port, setF_port, setF_port, unspoilLong_port]

/-- R84: the answer, with RESULT unpredictable where a field of the command holds the reserved value. -/
def pwrReport (w : Word) : State :=
  when (riseOrder.any (pwrReserved w)) (spoilLong 4 0x00FF0000) (pwrAnswer c tag wake cmdId issuer s)

theorem pwrReport_regs (w : Word) :
    (pwrReport c tag wake cmdId issuer s w).regs = (pwrAnswer c tag wake cmdId issuer s).regs := by
  unfold pwrReport when
  split
  · exact spoilLong_regs ..
  · rfl

theorem pwrReport_sys (w : Word) : (pwrReport c tag wake cmdId issuer s w).sys = s.sys := by
  unfold pwrReport when
  split
  · rw [spoilLong_sys, pwrAnswer_sys]
  · exact pwrAnswer_sys ..

theorem pwrReport_port (w : Word) : (pwrReport c tag wake cmdId issuer s w).port = s.port := by
  unfold pwrReport when
  split
  · rw [spoilLong_port, pwrAnswer_port]
  · exact pwrAnswer_port ..

end PowerReport

/-! ### A change begins -/

/-- R87: with a change left BUSY is 1, with none it is 0; only SYS_BOOT_STAT can change besides (R105). -/
theorem getR_pwrBegin (s : State) {o : Nat} (h : o ≠ 0x1C) :
    getR (pwrBegin s) o = getR (setB pwrBusy (decide (s.sys.todo ≠ [])) s) o := by
  unfold pwrBegin
  split
  · next hNil => rw [decide_eq_false (not_not_intro hNil)]
  · next c rest hCons =>
    extract_lets t
    rw [decide_eq_true (hCons ▸ List.cons_ne_nil c rest)]
    split
    · have hBoot : ∀ k, getR (setF stageFld k (setB ⟨0x1C, 6, 1⟩ false t)) o = getR t o := fun k =>
        (getR_setF_ne k _ h).trans (getR_setF_ne _ t h)
      refine (getR_congr ?_ o).trans (hBoot (stageNum .rom))
      rfl
    · rfl

theorem getF_pwrBegin (s : State) {g : Fld} (h : g.off ≠ 0x1C) (hd : g.off ≠ 4 ∨ g.lo + g.w ≤ 12 ∨ 13 ≤ g.lo) :
    getF (pwrBegin s) g = getF s g := by
  rw [getF, getR_pwrBegin s h]
  exact getF_setF_other _ s (by decide) hd

theorem domState_pwrBegin (s : State) (d : Dom) : domState (pwrBegin s) d = domState s d :=
  getF_pwrBegin s (by cases d <;> decide) (by cases d <;> decide)

theorem flag_pwrBusy_pwrBegin (s : State) : flag (pwrBegin s) pwrBusy = decide (s.sys.todo ≠ []) := by
  rw [flag, getF, getR_pwrBegin s (by decide)]
  exact flag_setB_same (f := pwrBusy) _ s (by decide) (by decide)

theorem pwrBegin_todo (s : State) : (pwrBegin s).sys.todo = s.sys.todo := by
  unfold pwrBegin
  split
  · rfl
  · dsimp only
    split <;> rfl

/-- With CTRL powered no start begins. -/
theorem pwrBegin_of_ctrl_powered {s : State} (h : domState s .ctrl ≠ 0) :
    pwrBegin s = setB pwrBusy (decide (s.sys.todo ≠ [])) s := by
  have hStill : domState (setB pwrBusy true s) .ctrl = domState s .ctrl := getF_setF_other _ s (by decide) (by decide)
  unfold pwrBegin
  split
  · next hNil => rw [decide_eq_false (not_not_intro hNil)]
  · next c rest hCons =>
    rw [decide_eq_true (hCons ▸ List.cons_ne_nil c rest)]
    exact if_neg fun hOff => h (hStill.symm.trans hOff.2)

theorem pwrBegin_port (s : State) : (pwrBegin s).port = s.port := by
  unfold pwrBegin
  split
  · rfl
  · dsimp only
    split <;> simp only [setF_port, setB_port]

/-! ### The outcomes of a command -/

section PowerIssue
variable {w : Word} {tag : Nat} {wake : Bool} {cmdId issuer : Nat} {s : State} (hHeld : s.sys.held = false)
include hHeld

theorem pwrIssue_of_busy (hBusy : flag s pwrBusy = true) :
    pwrIssue w tag wake cmdId issuer s = pwrAnswer .busy tag wake cmdId issuer s := by
  rw [pwrIssue, if_neg (Bool.eq_false_iff.1 hHeld), if_pos hBusy]

theorem pwrIssue_of_refused (hBusy : flag s pwrBusy = false) (hRef : pwrRefused s w = true) :
    pwrIssue w tag wake cmdId issuer s = pwrReport .state tag wake cmdId issuer s w := by
  rw [pwrIssue, if_neg (Bool.eq_false_iff.1 hHeld), if_neg (Bool.eq_false_iff.1 hBusy), if_pos hRef, if_pos hRef]
  rfl

theorem pwrIssue_of_accepted (hBusy : flag s pwrBusy = false) (hRef : pwrRefused s w = false) :
    ∃ t, t.regs = (pwrReport .ok tag wake cmdId issuer s w).regs ∧ t.sys.todo = pwrChanges s w ∧
      t.port = (pwrReport .ok tag wake cmdId issuer s w).port ∧ pwrIssue w tag wake cmdId issuer s = pwrBegin t := by
  rw [pwrIssue, if_neg (Bool.eq_false_iff.1 hHeld), if_neg (Bool.eq_false_iff.1 hBusy), if_neg (Bool.eq_false_iff.1 hRef),
    if_neg (Bool.eq_false_iff.1 hRef)]
  refine ⟨_, ?_, ?_, ?_, rfl⟩ <;> rfl

end PowerIssue

/-! ### The statement -/

theorem exec_powerCommand {r : Route} {s : State} (h : routeOpen s r = true) (v : Word) :
    exec (.powerCommand r v) s = .next (pwrIssue v (getBits v 16 8) false 0 0 s) := by
  show execPowerCommand r v s = _
  simp [execPowerCommand, h, hostPower]

/-- What the answer of a host command shows (R86, R90, R91); nothing of it is about a domain or about BUSY. -/
structure AnswerShown (c : Code) (v : Word) (s t : State) : Prop where
  tag : getF t pwrTag = getBits v 16 8
  src : flag t pwrSrc = false
  id : getR t 0x20 = 0
  result : getF t pwrResult = c.num
  dom : ∀ d : Dom, domState t d = domState s d

theorem pwrAnswer_shown (c : Code) (v : Word) (s : State) : AnswerShown c v s (pwrAnswer c (getBits v 16 8) false 0 0 s) where
  tag := (getF_pwrTag_pwrAnswer ..).trans (Nat.mod_eq_of_lt (getBits_lt v 16 8))
  src := flag_pwrSrc_pwrAnswer ..
  id := getR_pwrId_pwrAnswer ..
  result := getF_pwrResult_pwrAnswer ..
  dom := domState_pwrAnswer c _ _ _ _ s

theorem AnswerShown.of_regs {c : Code} {v : Word} {s t u : State} (h : AnswerShown c v s t) (hRegs : u.regs = t.regs) :
    AnswerShown c v s u := by
  have hF := getF_congr hRegs
  obtain ⟨hTag, hSrc, hId, hResult, hDom⟩ := h
  exact ⟨(hF _).trans hTag, by rwa [flag, hF], (getR_congr hRegs _).trans hId, (hF _).trans hResult, fun d => (hF _).trans (hDom d)⟩

theorem pwrReport_shown (c : Code) (v : Word) (s : State) : AnswerShown c v s (pwrReport c (getBits v 16 8) false 0 0 s v) :=
  (pwrAnswer_shown c v s).of_regs (pwrReport_regs ..)

theorem AnswerShown.pwrBegin {c : Code} {v : Word} {s t : State} (h : AnswerShown c v s t) : AnswerShown c v s (pwrBegin t) where
  tag := (getF_pwrBegin t (by decide) (by decide)).trans h.tag
  src := by rw [flag, getF_pwrBegin t (by decide) (by decide)]; exact h.src
  id := by rw [getR_pwrBegin t (by decide)]; exact (getR_setF_ne _ _ (by decide)).trans h.id
  result := (getF_pwrBegin t (by decide) (by decide)).trans h.result
  dom d := (domState_pwrBegin t d).trans (h.dom d)

/-- Settles O10, by the three outcomes of a command: BUSY, STATE, and OK with its changes. -/
theorem powerCommandCompletes : Obligations.PowerCommandCompletes := by
  unfold Obligations.PowerCommandCompletes
  intro r v s hOpen hHeld
  refine ⟨_, exec_powerCommand hOpen v, ?_⟩
  cases hBusy : flag s pwrBusy
  case true =>
    rw [pwrIssue_of_busy hHeld hBusy]
    obtain ⟨hTag, hSrc, hId, hResult, hDom⟩ := pwrAnswer_shown .busy v s
    exact ⟨hTag, hSrc, hId, hResult, hDom, rfl, (flag_pwrBusy_pwrAnswer ..).trans hBusy⟩
  case false =>
    cases hRef : pwrRefused s v
    case true =>
      rw [pwrIssue_of_refused hHeld hBusy hRef]
      obtain ⟨hTag, hSrc, hId, hResult, hDom⟩ := pwrReport_shown .state v s
      refine ⟨hTag, hSrc, hId, hResult, hDom, by rw [pwrReport_sys]; rfl, ?_⟩
      rw [flag, getF_congr (pwrReport_regs ..), ← flag, flag_pwrBusy_pwrAnswer, hBusy]
      rfl
    case false =>
      obtain ⟨t, hRegs, hTodo, -, ht⟩ := pwrIssue_of_accepted (w := v) (tag := getBits v 16 8) (wake := false) (cmdId := 0) (issuer := 0)
        hHeld hBusy hRef
      rw [ht]
      obtain ⟨hTag, hSrc, hId, hResult, hDom⟩ := ((pwrReport_shown .ok v s).of_regs hRegs).pwrBegin
      refine ⟨hTag, hSrc, hId, hResult, hDom, (pwrBegin_todo t).trans hTodo, ?_⟩
      rw [flag_pwrBusy_pwrBegin, hTodo]
      rfl

end Sys2Proof.Machine
end

section
/-! SUPPORT. What the operations that a change of a domain runs leave alone: SYS_PWR_STAT, the changes that wait, and the host's
link. One lemma per operation, in the order of the model's files. -/

namespace Sys2Proof.Machine

/-- SYS_PWR_STAT, the changes that wait, and the host's link. -/
def powerView (s : State) : Word × List DomChange × Bool := (getR s 4, s.sys.todo, s.port.link)

/-! ### The registers' addresses, none of which is that of SYS_PWR_STAT -/

@[simp] theorem portReg_ne_four (p o : Nat) : portReg p o ≠ 4 := by unfold portReg; omega
@[simp] theorem chReg_ne_four (n o : Nat) : chReg n o ≠ 4 := by unfold chReg; omega
@[simp] theorem chnReg_ne_four (k o : Nat) : chnReg k o ≠ 4 := by unfold chnReg; omega
@[simp] theorem cellReg_ne_four (c w : Nat) : cellReg c w ≠ 4 := by unfold cellReg; omega
@[simp] theorem lockReg_ne_four (n : Nat) : lockReg n ≠ 4 := by unfold lockReg; omega
@[simp] theorem ptReg_ne_four (p o : Nat) : ptReg p o ≠ 4 := by unfold ptReg; omega
@[simp] theorem plsReg_ne_four (k o : Nat) : plsReg k o ≠ 4 := by unfold plsReg; omega
@[simp] theorem airReg_ne_four (r o : Nat) : airReg r o ≠ 4 := by unfold airReg; omega
@[simp] theorem leaseReg_ne_four (e w : Nat) : leaseReg e w ≠ 4 := by unfold leaseReg; omega
@[simp] theorem recReg_ne_four (r w : Nat) : recReg r w ≠ 4 := by unfold recReg; omega
@[simp] theorem telReg_ne_four (e w : Nat) : telReg e w ≠ 4 := by unfold telReg; omega

@[simp] theorem add_ne_four {a : Nat} (h : 4 < a) (i : Nat) : a + i ≠ 4 := by omega

section PowerView
variable (s : State)

/-! ### Registers and repetition -/

/-- An update of other fields of the state. Given to `simp` to apply before it enters the record. -/
theorem powerView_record {unpred : Tab Word} {hostData : List Word} {free : Nat} {sealed' : List Block} {fitS0 : Bool} {sys : SysSt}
    {img : ImgSt} {port : PortSt} {dma0 dma1 dma2 dma3 : DmaRing} {intc : IntcSt} {drv : DrvSt} {chain : Tab ChainSt} {rfx : RfxSt}
    {cal : CalSt} {mtr : MtrSt} {net : NetSt} {tsu : TsuSt} {air : AirSt} {key : KeySt} {upd : UpdSt} {hier : HierSt} {pln : PlnSt}
    {twn : TwnSt} {tstHalf : Bool} {tstSeen tstDone : Tab Nat} {out : List Output} {pending : List Instr}
    (hTodo : sys.todo = s.sys.todo) (hLink : port.link = s.port.link) :
    powerView ⟨s.regs, unpred, hostData, free, sealed', fitS0, sys, img, port, dma0, dma1, dma2, dma3, intc, drv, chain, rfx, cal, mtr,
      net, tsu, air, key, upd, hier, pln, twn, tstHalf, tstSeen, tstDone, out, pending⟩ = powerView s := by
  rw [powerView, hTodo, hLink]
  rfl

@[simp] theorem powerView_setR {off : Nat} (h : off ≠ 4) (v : Word) : powerView (setR off v s) = powerView s := by
  rw [powerView, getR_setR_ne v s h.symm]
  rfl

@[simp] theorem powerView_setF {f : Fld} (h : f.off ≠ 4) (v : Nat) : powerView (setF f v s) = powerView s :=
  powerView_setR s h _

@[simp] theorem powerView_setB {f : Fld} (h : f.off ≠ 4) (b : Bool) : powerView (setB f b s) = powerView s :=
  powerView_setF s h _

@[simp] theorem powerView_addF {f : Fld} (h : f.off ≠ 4) (k : Nat) : powerView (addF f k s) = powerView s :=
  powerView_setF s h _

@[simp] theorem powerView_clearRegs {p : Nat → Bool} (h : p 4 = false) : powerView (clearRegs p s) = powerView s := by
  rw [powerView, getR, clearRegs_regs, tabGet_clear, h]
  rfl

@[simp] theorem powerView_each {α : Type} {xs : List α} {f : α → State → State}
    (h : ∀ x t, powerView (f x t) = powerView t) : powerView (each xs f s) = powerView s :=
  each_frame powerView h

@[simp] theorem powerView_ite {c : Prop} [Decidable c] (a b : State) :
    powerView (if c then a else b) = if c then powerView a else powerView b :=
  apply_ite powerView c a b

@[simp] theorem powerView_when {c : Bool} {f : State → State} (h : powerView (f s) = powerView s) :
    powerView (when c f s) = powerView s := by
  simp [when, h]

@[simp] theorem powerView_raise (n : Nat) : powerView (raise n s) = powerView s := by
  have hBit : ∀ b t, powerView (setSrcBit (0x20120 + b) n true t) = powerView t := fun b t =>
    powerView_setB t (by dsimp only [srcOff]; omega) true
  unfold raise
  extract_lets +onlyGivenNames u
  have hCore : powerView u = powerView s := by
    unfold u
    split
    · exact hBit 0x80 s
    · rfl
  split
  · split
    · exact (hBit 0 u).trans hCore
    · exact hCore
  · rfl

@[simp] theorem powerView_loadReg (bad : Bool) {off : Nat} (h : off ≠ 4) (v : Word) :
    powerView (loadReg bad off v s) = powerView s := by
  unfold loadReg
  split
  · exact powerView_setR s h _
  · exact powerView_setR s h v

@[simp] theorem powerView_drawn : powerView (drawn s) = powerView s := rfl

@[simp] theorem powerView_capture (x : SplitIn) : powerView (capture x s) = powerView s := by
  unfold capture
  split <;> rfl

/-! ### The radios (R440) -/

@[simp] theorem powerView_setRadio (r : Nat) (x : RadioSt) : powerView (setRadio r x s) = powerView s := by
  unfold setRadio
  split <;> rfl

@[simp] theorem powerView_airDrain : powerView (airDrain s) = powerView s := by
  simp [airDrain]

@[simp] theorem powerView_airEvt (r i : Nat) : powerView (airEvt r i s) = powerView s := by
  simp [airEvt]

@[simp] theorem powerView_setLeaseState (e n : Nat) : powerView (setLeaseState e n s) = powerView s := by
  simp [setLeaseState, airReport]

@[simp] theorem powerView_dropLease (e : Nat) : powerView (dropLease e s) = powerView s := by
  simp [↓powerView_record, dropLease, endLease, eraseLink, joinPend, leaseSearch, leaseMiss, setLease]

@[simp] theorem powerView_newEpoch : powerView (newEpoch s) = powerView s := by
  dsimp only [newEpoch]
  simp [↓powerView_record]

@[simp] theorem powerView_airRise : powerView (airRise s) = powerView s := by
  unfold airRise
  extract_lets +onlyGivenNames u _ v
  have hu : powerView u = powerView s := powerView_clearRegs s rfl
  have hv : powerView v = powerView u := rfl
  clear_value v
  simp [lostFld, hv, hu]

@[simp] theorem powerView_dropCells : powerView (dropCells s) = powerView s :=
  powerView_clearRegs (p := fun k => decide (0x1000000 ≤ k)) _ rfl

@[simp] theorem powerView_loadSlotframe (t : Tab Byte) (base i : Nat) : powerView (loadSlotframe t base i s) = powerView s := by
  have hDrawn : ∀ c u, powerView (when c (fun s => drawn (drawn s)) u) = powerView u := fun c u => powerView_when u rfl
  dsimp only [loadSlotframe]
  simp [↓powerView_record, sfReg, hDrawn]

@[simp] theorem powerView_loadAir : powerView (loadAir s) = powerView s := by
  dsimp only [loadAir]
  split <;> simp

@[simp] theorem powerView_airFall : powerView (airFall s) = powerView s := powerView_dropCells _

/-! ### The wired ports and the time-stamp unit (R376, R393, R399) -/

@[simp] theorem powerView_setPort (p : Nat) (x : NetPort) : powerView (setPort p x s) = powerView s := by
  unfold setPort
  split <;> rfl

@[simp] theorem powerView_freeCells (p : Nat) (e : TxEnt) : powerView (freeCells p e s) = powerView s := by
  simp [freeCells, cellsFree, qDepthFld]

@[simp] theorem powerView_unqueue (drop : TxEnt → Bool) (p : Nat) : powerView (unqueue drop p s) = powerView s := by
  simp [unqueue]

@[simp] theorem powerView_sent (p : Nat) (e : TxEnt) (ok : Bool) : powerView (sent p e ok s) = powerView s := by
  dsimp only [sent]
  split <;> rfl

@[simp] theorem powerView_pauseAtEnd (p : Nat) : powerView (pauseAtEnd p s) = powerView s := by
  simp [pauseAtEnd, pausedFld]

@[simp] theorem powerView_endTx (p : Nat) (ok : Bool) : powerView (endTx p ok s) = powerView s := by
  dsimp only [endTx]
  split <;> simp

@[simp] theorem powerView_dropOpen (p : Nat) : powerView (dropOpen p s) = powerView s := by
  have hUnderrun : ∀ t, powerView (underrun p t) = powerView t := fun t => by
    simp [underrun, bump, portCnt, evtFld]
  dsimp only [dropOpen]
  split <;> simp [hUnderrun]

@[simp] theorem powerView_netClear : powerView (netClear s) = powerView s := by
  have hDepth : ∀ p u, powerView (each (List.range 8) (fun q t => setF (qDepthFld p q) 0 t) u) = powerView u := fun p u => by
    simp [qDepthFld]
  unfold netClear
  extract_lets +onlyGivenNames u v
  have hu : powerView u = powerView s := rfl
  have hv : powerView v = powerView u := powerView_each u fun p t => by simp [linkFld, pausedFld, holdoffFld, hDepth]
  clear_value v
  simp [tsuBusy, anchorFld, cellsFree, hv, hu]

@[simp] theorem powerView_netFall : powerView (netFall s) = powerView s := by
  simp [netFall, setDisc]

@[simp] theorem powerView_loadNet : powerView (loadNet s) = powerView s := by
  have hPort : ∀ t base p u, powerView (loadPort t base p u) = powerView u := fun t base p u => by simp [loadPort]
  dsimp only [loadNet]
  split <;> simp [hPort]

/-! ### The meters (R359, R368) -/

@[simp] theorem powerView_startPulses : powerView (startPulses s) = powerView s := by
  have hShow : ∀ k t, powerView (showPulse k t) = powerView t := fun k t => by simp [showPulse]
  have hSet : ∀ k x t, powerView (setPulse k x t) = powerView t := fun k x t => by
    unfold setPulse
    split <;> rfl
  simp [startPulses, startPulse, hShow, hSet]

@[simp] theorem powerView_loadMtr : powerView (loadMtr s) = powerView s := by
  have hPoint : ∀ t p u, powerView (loadPoint t p u) = powerView u := fun t p u => by
    dsimp only [loadPoint]
    split <;> simp
  simp [loadMtr, hPoint]

@[simp] theorem powerView_mtrRestore : powerView (mtrRestore s) = powerView s := by
  unfold mtrRestore
  extract_lets +onlyGivenNames a b first second rs pts _ u
  have hu : powerView u = powerView s := rfl
  clear_value u
  simp [hu]

@[simp] theorem powerView_sealTag (t : Tab Byte) (p : Nat) : powerView (sealTag t p s) = powerView s := by
  have hTot : ∀ x u, powerView (setTot p x u) = powerView u := fun _ _ => rfl
  dsimp only [sealTag]
  split <;> simp [hTot]

/-! ### The drive and the chains (R227 to R240, R260, R266) -/

@[simp] theorem powerView_setSlice (n : Nat) (x : Slice) : powerView (setSlice n x s) = powerView s := rfl

@[simp] theorem powerView_setFault (n i : Nat) : powerView (setFault n i s) = powerView s := by
  simp [setFault, drvFaultIrq]

@[simp] theorem powerView_openPhase (n : Nat) (phaseB : Bool) : powerView (openPhase n phaseB s) = powerView s := by
  simp [openPhase]

@[simp] theorem powerView_toBias (n : Nat) (fresh retest : Bool) : powerView (toBias n fresh retest s) = powerView s := by
  simp [toBias, detectLatent]

@[simp] theorem powerView_followEnable (n : Nat) : powerView (followEnable n s) = powerView s := by
  simp [followEnable]

@[simp] theorem powerView_takeRef (n w left : Nat) (r : Ref) : powerView (takeRef n w left r s) = powerView s := by
  have hNote : ∀ w u, powerView (noteBlankAt n w u) = powerView u := fun w u => by
    dsimp only [noteBlankAt]
    split <;> split <;> rfl
  exact (hNote _ _).trans (hNote w s)

@[simp] theorem powerView_ownDrawn (m : Nat) : powerView (ownDrawn m s) = powerView s := by
  unfold ownDrawn
  split <;> rfl

@[simp] theorem powerView_joinLead (was n : Nat) : powerView (joinLead was n s) = powerView s := by
  simp [joinLead]

@[simp] theorem powerView_loadDrv : powerView (loadDrv s) = powerView s := by
  have hChannel : ∀ t n u, powerView (loadChannel t n u) = powerView u := fun t n u => by
    dsimp only [loadChannel]
    split <;> simp
  dsimp only [loadDrv]
  simp [↓powerView_record, hChannel]

@[simp] theorem powerView_setChain (k : Nat) (x : ChainSt) : powerView (setChain k x s) = powerView s := rfl

@[simp] theorem powerView_loadChn : powerView (loadChn s) = powerView s := by
  have hRise : ∀ k u, powerView (chnEnableRise k u) = powerView u := fun k u => by simp [chnEnableRise, chnReady]
  have hChain : ∀ t k u, powerView (loadChain t k u) = powerView u := fun t k u => by
    dsimp only [loadChain]
    split <;> simp [hRise]
  simp [loadChn, hChain]

@[simp] theorem powerView_chnFall (k : Nat) : powerView (chnFall k s) = powerView s := by
  simp [chnFall, chnActive, chnMeasuring]

@[simp] theorem powerView_fullScale : powerView (fullScale s) = powerView s := by
  dsimp only [fullScale]
  simp [↓powerView_record]

@[simp] theorem powerView_driveRise : powerView (driveRise s) = powerView s := by
  have hRise : ∀ n u, powerView (riseChannel n u) = powerView u := fun n u => by
    dsimp only [riseChannel]
    simp [↓powerView_record]
  dsimp only [driveRise]
  simp [↓powerView_record, hRise]

@[simp] theorem powerView_driveFall : powerView (driveFall s) = powerView s :=
  (powerView_fullScale _).trans (powerView_each _ fun _ _ => rfl)

@[simp] theorem powerView_mitreOut (n : Nat) (r : Ref) : powerView (mitreOut n r s) = powerView s := rfl

@[simp] theorem powerView_keepLatest (n : Nat) (r : Ref) : powerView (keepLatest n r s) = powerView s := rfl

@[simp] theorem powerView_mitreChoice (n : Nat) (twin fab : Option Ref) : powerView (mitreChoice n twin fab s) = powerView s := by
  have hWithhold : ∀ u, powerView (withhold n u) = powerView u := fun u => by simp [withhold, bump]
  unfold mitreChoice
  extract_lets +onlyGivenNames x u
  have hu : powerView u = powerView s := by
    unfold u
    clear_value x
    cases x <;> rfl
  clear_value u x
  split <;> simp [hWithhold, bump, hu]

@[simp] theorem powerView_emit (o : Output) : powerView (emit o s) = powerView s := rfl

@[simp] theorem powerView_enterLive : powerView (enterLive s) = powerView s := by
  have hPass : ∀ n u, powerView (passHeld n u) = powerView u := fun n u => by
    unfold passHeld
    split <;> simp
  have hWords : ∀ k u, powerView (issueWords k u) = powerView u := fun k u => by
    unfold issueWords
    split
    · exact powerView_each _ fun _ _ => rfl
    · rfl
  have hHeld : ∀ k u, powerView (issueHeld k u) = powerView u := fun k u =>
    powerView_each _ fun e t => by split <;> rfl
  simp [enterLive, hPass, hWords, hHeld]

/-! ### A domain's registers are loaded (R146) -/

@[simp] theorem powerView_loadDomain (d : Dom) : powerView (loadDomain d s) = powerView s := by
  have hSeal : ∀ b u, powerView (sealBlock b u) = powerView u := fun _ _ => rfl
  unfold loadDomain
  cases d <;> simp [hSeal]

/-! ### The fabric (R302) -/

@[simp] theorem powerView_fabFall : powerView (fabFall s) = powerView s := powerView_clearRegs _ rfl

@[simp] theorem powerView_fabRise : powerView (fabRise s) = powerView s := by
  have hInput : ∀ t i u, powerView (loadInput t i u) = powerView u := fun t i u => by
    unfold loadInput
    split <;> simp
  have hCell : ∀ t r u, powerView (loadCell t r u) = powerView u := fun t r u => by simp [loadCell]
  have hLevels : ∀ ns u, powerView (takeLevels ns u).2 = powerView u := fun ns u => by
    unfold takeLevels
    refine foldl_keeps (fun a : List RfxEvent × State => powerView a.2 = powerView u) (fun a n ha => ?_) rfl
    dsimp only
    split <;> exact ha
  have hRise : fabRise s = (takeLevels (List.range 32) (each (List.range 40) (loadInput (activeImg s))
    (each (records (activeImg s) 6) (loadCell (activeImg s)) (fabFall s)))).2 := rfl
  simp [hRise, hLevels, hInput, hCell]

/-! ### CTRL (R96, R109) -/

@[simp] theorem powerView_enterRun : powerView (enterRun s) = powerView s := powerView_airDrain _

/-! ### The firmware (R361, R577) -/

@[simp] theorem powerView_fwRecord (e : Nat × Option Nat) : powerView (fwRecord e s) = powerView s := by
  simp [fwRecord]

@[simp] theorem powerView_fwReject (e : Nat × Option Nat) : powerView (fwReject e s) = powerView s := by
  have hStaging : ∀ x, powerView (setStaging .firmware x s) = powerView s := fun _ => rfl
  simp [fwReject, hStaging]

@[simp] theorem powerView_fwNone : powerView (fwNone s) = powerView s := by simp [fwNone]

@[simp] theorem powerView_fwRun : powerView (fwRun s) = powerView s := by simp [fwRun]

@[simp] theorem powerView_freshTwins : powerView (freshTwins s) = powerView s := by
  dsimp only [freshTwins]
  simp [↓powerView_record]

@[simp] theorem powerView_holdOut : powerView (holdOut s) = powerView s := by
  have hReport : ∀ u, powerView (rewriteReport u) = powerView u := fun _ => rfl
  have hTwin : ∀ t x u, powerView (setTwin t x u) = powerView u := fun t x u => by cases t <;> rfl
  dsimp only [holdOut]
  simp [↓powerView_record, hReport, hTwin, failReg]

@[simp] theorem powerView_breakSeals : powerView (breakSeals s) = powerView s :=
  (powerView_setB (f := ⟨0x1C, 6, 1⟩) _ (by decide) false).trans (powerView_setB s (by decide) false)

@[simp] theorem powerView_trialPass : powerView (trialPass s) = powerView s := by
  dsimp only [trialPass]
  simp [↓powerView_record]

/-! ### The image (R116, R145) -/

@[simp] theorem powerView_childRegs : powerView (childRegs s) = powerView s := by
  have hMaps : ∀ ps ls u, powerView (each (List.range 4) (fun k s => setR (0x400020 + 4 * k) (mapWord ps k)
      (setR (0x400030 + 4 * k) (mapWord ls k) s)) u) = powerView u :=
    fun ps ls u => powerView_each u fun k t => by simp
  simp [childRegs, hMaps]

@[simp] theorem powerView_loadHier : powerView (loadHier s) = powerView s := by
  have hRecord : ∀ t r u, powerView (loadRecord t r u) = powerView u := fun t r u => by simp [loadRecord]
  have hChildren : ∀ t u, powerView (loadChildren t u) = powerView u := fun t u => by
    unfold loadChildren
    extract_lets c
    split
    · exact powerView_setF u (by decide) _
    · exact powerView_setF u (by decide) _
  have hDefaults : ∀ u, powerView (each [0x400008, 0x40000C, 0x400010] (fun off s => setR off (regDefault s off) s) u) = powerView u :=
    fun u => by simp [each]
  simp [loadHier, hRecord, hChildren, hDefaults]

@[simp] theorem powerView_loadPln : powerView (loadPln s) = powerView s := by
  have hTelem : ∀ t e r u, powerView (loadTelem t e r u) = powerView u := fun t e r u => by simp [loadTelem]
  simp [loadPln, hTelem]

@[simp] theorem powerView_loadWake : powerView (loadWake s) = powerView s := powerView_setR s (by decide) _

@[simp] theorem powerView_writeSafe (digest : List Byte) : powerView (writeSafe digest s) = powerView s := by
  unfold writeSafe
  extract_lets +onlyGivenNames t ps u same
  have hu : powerView u = powerView s := powerView_when s rfl
  clear_value u same
  split
  · exact hu
  · dsimp only
    split <;> simp [↓powerView_record, hu]

@[simp] theorem powerView_sealImage (full b : Bool) : powerView (sealImage full b s) = powerView s := by
  unfold sealImage
  extract_lets +onlyGivenNames s1 s2 s3 s4
  have h1 : powerView s1 = powerView s := by simp [s1]
  have h2 : powerView s2 = powerView s1 := by simp [s2]
  have h3 : powerView s3 = powerView s2 := by simp [s3]
  have h4 : powerView s4 = powerView s3 := by simp [s4]
  clear_value s1 s2 s3 s4
  simp [↓powerView_record, h1, h2, h3, h4]

@[simp] theorem powerView_imgReport (r : Nat × Option Nat) : powerView (imgReport r s) = powerView s := by
  simp [imgReport, stgResult]

@[simp] theorem powerView_verifyActive (full keep : Bool) : powerView (verifyActive full keep s).2 = powerView s := by
  have hDigest : ∀ xs u, powerView (each xs (fun (x : Word × Nat) s => setR (0x10020 + 4 * x.2) x.1 s) u) = powerView u :=
    fun xs u => powerView_each u fun x t => by simp
  dsimp only [verifyActive]
  split
  · simp
  · split <;> simp [hDigest]

@[simp] theorem powerView_stageLoad (full : Bool) : powerView (stageLoad full s).2 = powerView s := by
  dsimp only [stageLoad]
  split
  · split <;> simp [↓powerView_record]
  · simp

/-! ### The settings (R586) and the report of the hierarchy (R461) -/

/-- No setting is kept in SYS_PWR_STAT. -/
theorem ne_four_of_settingItems {e : Nat × List Nat} (he : e ∈ settingItems) {off : Nat} (h : off ∈ e.2) : off ≠ 4 := by
  have hAll : settingItems.all (fun e => e.2.all (fun off => decide (off ≠ 4))) = true := by decide +kernel
  simpa using List.all_eq_true.1 (List.all_eq_true.1 hAll e he) off h

theorem powerView_each_of_mem {α : Type} {xs : List α} {f : α → State → State}
    (h : ∀ x ∈ xs, ∀ t, powerView (f x t) = powerView t) : powerView (each xs f s) = powerView s := by
  induction xs generalizing s with
  | nil => rfl
  | cons x xs ih => exact (ih (f x s) fun y hy => h y (List.mem_cons_of_mem x hy)).trans (h x List.mem_cons_self s)

@[simp] theorem powerView_applyItems (p : Nat → Bool) (xs : List (Nat × List Word)) : powerView (applyItems p xs s) = powerView s := by
  refine powerView_each_of_mem s fun e he t => ?_
  split
  · next x _ =>
    refine powerView_each_of_mem t fun r hr u => ?_
    split
    · exact powerView_setR u (ne_four_of_settingItems he (List.of_mem_zip hr).1) _
    · rfl
  · rfl

@[simp] theorem powerView_loadSettings (p : Nat → Bool) : powerView (loadSettings p s) = powerView s := by
  have hCopy : ∀ v xs u, powerView (putCopy v xs u) = powerView u := fun v xs u => by
    dsimp only [putCopy]
    split <;> rfl
  dsimp only [loadSettings]
  split
  · simp
  · split <;> simp [hCopy]

@[simp] theorem powerView_stageFw (k : StartKind) : powerView (stageFw k s) = powerView s := by
  simp [stageFw, stageFld]

@[simp] theorem powerView_hierStat : powerView (hierStat s) = powerView s := by simp [hierStat]

@[simp] theorem powerView_planeStarts : powerView (planeStarts s) = powerView s := by
  dsimp only [planeStarts]
  simp [↓powerView_record, plnRunning]

end PowerView

end Sys2Proof.Machine
end

section
/-! SUPPORT. O11, the completion of a change (R87 to R89): a change of a powered CTRL or of another domain sets that domain's field
and no other; a rise of CTRL from OFF (R605) keeps CTRL powered and the link up through every stage of start-up, whatever they
end in; a timeout ends the command. -/

namespace Sys2Proof.Machine

/-! ### The fields of SYS_PWR_STAT -/

section Domains
variable {s t : State}

theorem statWord_of_powerView (h : powerView t = powerView s) : getR t 4 = getR s 4 := congrArg Prod.fst h

theorem getF_of_statWord (h : getR t 4 = getR s 4) {f : Fld} (hf : f.off = 4) : getF t f = getF s f := by
  rw [getF, hf, getF, hf, h]

theorem Dom.fld_off (d : Dom) : d.fld.off = 4 := by cases d <;> rfl

theorem domState_of_powerView (h : powerView t = powerView s) (d : Dom) : domState t d = domState s d :=
  getF_of_statWord (statWord_of_powerView h) d.fld_off

theorem todo_of_powerView (h : powerView t = powerView s) : t.sys.todo = s.sys.todo := congrArg (fun v => v.2.1) h

theorem link_of_powerView (h : powerView t = powerView s) : t.port.link = s.port.link := congrArg (fun v => v.2.2) h

theorem statWord_setF_congr (h : getR t 4 = getR s 4) {f : Fld} (hf : f.off = 4) (v : Nat) :
    getR (setF f v t) 4 = getR (setF f v s) 4 := by
  rw [setF, setF, hf, getR_setR_same, getR_setR_same, h]

theorem powerView_setF_congr (h : powerView t = powerView s) {f : Fld} (hf : f.off = 4) (v : Nat) :
    powerView (setF f v t) = powerView (setF f v s) := by
  have hRest : (powerView t).2 = (powerView s).2 := congrArg Prod.snd h
  exact Prod.ext (statWord_setF_congr (statWord_of_powerView h) hf v) hRest

theorem powerView_setDom_congr (h : powerView t = powerView s) (d : Dom) (n : Nat) :
    powerView (setDom d n t) = powerView (setDom d n s) :=
  powerView_setF_congr h d.fld_off n

theorem domState_setDom_same (d : Dom) {n : Nat} (h : n < 4) (s : State) : domState (setDom d n s) d = n := by
  have hSet := getF_setF_same (f := d.fld) n s (by cases d <;> decide)
  have hw : d.fld.w = 2 := by cases d <;> rfl
  rw [hw] at hSet
  exact hSet.trans (Nat.mod_eq_of_lt h)

theorem domState_setDom_ne {d e : Dom} (h : e ≠ d) (n : Nat) (s : State) : domState (setDom d n s) e = domState s e :=
  getF_setF_other n s (by cases d <;> decide) (by cases d <;> cases e <;> simp [Dom.fld] at h ⊢)

theorem flag_setDom_pwrBusy (d : Dom) (n : Nat) (s : State) : flag (setDom d n s) pwrBusy = flag s pwrBusy := by
  rw [flag, setDom, getF_setF_other n s (by cases d <;> decide) (by cases d <;> decide)]
  rfl

end Domains

/-! ### A change of a domain but the rise of CTRL -/

/-- The change is done: its domain has its state, and the others theirs; the executing command and its other changes stay. -/
structure ChangeDone (c : DomChange) (s t : State) : Prop where
  dest : domState t c.dom = c.dest
  other : ∀ d : Dom, d ≠ c.dom → domState t d = domState s d
  todo : t.sys.todo = s.sys.todo
  busy : flag t pwrBusy = flag s pwrBusy

theorem ChangeDone.of_statWord {c : DomChange} {s t : State} (hDest : c.dest < 4)
    (h : getR t 4 = getR (setDom c.dom c.dest s) 4) (hTodo : t.sys.todo = s.sys.todo) : ChangeDone c s t where
  dest := (getF_of_statWord h c.dom.fld_off).trans (domState_setDom_same _ hDest s)
  other d hd := (getF_of_statWord h d.fld_off).trans (domState_setDom_ne hd _ s)
  todo := hTodo
  busy := by
    rw [flag, getF_of_statWord h rfl]
    exact flag_setDom_pwrBusy c.dom c.dest s

theorem ChangeDone.of_powerView {c : DomChange} {s t : State} (hDest : c.dest < 4)
    (h : powerView t = powerView (setDom c.dom c.dest s)) : ChangeDone c s t :=
  .of_statWord hDest (statWord_of_powerView h) ((todo_of_powerView h).trans rfl)

/-- SAVE is beside what a change is about. -/
theorem ChangeDone.of_setB_pwrSave {c : DomChange} {b : Bool} {s t : State} (h : ChangeDone c (setB pwrSave b s) t) :
    ChangeDone c s t where
  dest := h.dest
  other d hd := (h.other d hd).trans (getF_setF_other _ s (by decide) (by cases d <;> decide))
  todo := h.todo
  busy := h.busy.trans (flag_setB_other (f := pwrSave) b s (by decide) (by decide))

theorem powerView_driveTo (n : Nat) (s : State) : powerView (driveTo n s) = powerView (setDom .drive n s) := by
  unfold driveTo
  extract_lets +onlyGivenNames was u
  change _ = powerView u
  clear_value u
  split
  · rfl
  · split
    · simp [↓powerView_record]
    · extract_lets +onlyGivenNames v
      have hv : powerView v = powerView u := by
        unfold v
        split <;> simp
      clear_value v
      split <;> simp [↓powerView_record, hv]

theorem powerView_mtrRise (s : State) : powerView (mtrRise s) = powerView s :=
  (powerView_startPulses _).trans (powerView_loadDomain _ .mtr)

theorem powerView_netRise (s : State) : powerView (netRise s) = powerView s := by
  unfold netRise
  extract_lets +onlyGivenNames u
  have hu : powerView u = powerView s := powerView_clearRegs s rfl
  clear_value u
  simp [hu]

/-- R79, R146, R302: DRIVE, MTR, NET, AIR and FAB: whatever a change does besides leaves SYS_PWR_STAT alone. -/
theorem powerView_applyChange {c : DomChange} (hDom : c.dom ≠ .ctrl) (hDest : c.dest < 2 ∨ c.dest = 2 ∧ (c.dom = .drive ∨ c.dom = .fab))
    (s : State) : powerView (applyChange c s) = powerView (setDom c.dom c.dest s) := by
  obtain ⟨d, n⟩ := c
  have hRise : d ≠ .drive → d ≠ .fab → n = 0 ∨ n = 1 := fun h1 h2 => by
    simp only [h1, h2, or_self, and_false, or_false] at hDest
    omega
  cases d with
  | ctrl => exact absurd rfl hDom
  | drive => exact powerView_driveTo n s
  | mtr =>
    dsimp only [applyChange]
    rcases hRise (by decide) (by decide) with rfl | rfl
    · rw [if_pos rfl]
    · rw [if_neg Nat.one_ne_zero, powerView_mtrRise]
  | net =>
    dsimp only [applyChange]
    rcases hRise (by decide) (by decide) with rfl | rfl
    · rw [if_pos rfl]
      exact powerView_setDom_congr (powerView_netFall s) .net 0
    · rw [if_neg Nat.one_ne_zero, powerView_netRise]
  | air =>
    dsimp only [applyChange]
    rcases hRise (by decide) (by decide) with rfl | rfl
    · rw [if_pos rfl, powerView_airFall]
    · rw [if_neg Nat.one_ne_zero, powerView_loadDomain, powerView_airRise]
  | fab =>
    dsimp only [applyChange]
    split <;> simp [clkRun]

/-- R109: CTRL's blocks are cleared: of SYS_PWR_STAT only SAVE can change. -/
theorem powerView_clearCtrl (s : State) : ∃ b, powerView (clearCtrl s) = powerView (setB pwrSave b s) := by
  unfold clearCtrl
  extract_lets +onlyGivenNames u v
  have hu : powerView u = powerView s := powerView_each s fun p t => powerView_dropOpen t p
  have hv : powerView v = powerView u := powerView_clearRegs u rfl
  clear_value v
  dsimp only
  refine ⟨_, (powerView_setB _ (by decide) _).trans (powerView_setF_congr ?_ rfl _)⟩
  rw [powerView_each _ fun k t => powerView_setChain t k _, powerView_each _ fun r t => powerView_setRadio t r _]
  exact hv.trans hu

theorem ctrlFall_stat (s : State) :
    ∃ b, getR (ctrlFall s) 4 = getR (setB pwrSave b s) 4 ∧ (ctrlFall s).sys.todo = s.sys.todo := by
  obtain ⟨b, hb⟩ := powerView_clearCtrl s
  unfold ctrlFall
  generalize clearCtrl s = u at hb ⊢
  have hWord := statWord_of_powerView hb
  have hTodo := todo_of_powerView hb
  exact ⟨b, hWord, hTodo⟩

/-- R80, R96: CTRL falls, or goes from one of its powered states to another. -/
theorem changeDone_applyChange_ctrl {n : Nat} (hDest : n < 4) {s : State} (hOn : domState s .ctrl ≠ 0) :
    ChangeDone ⟨.ctrl, n⟩ s (applyChange ⟨.ctrl, n⟩ s) := by
  dsimp only [applyChange]
  rw [if_neg hOn]
  split
  · next hFall =>
    subst hFall
    obtain ⟨b, hWord, hTodo⟩ := ctrlFall_stat s
    generalize ctrlFall s = u at hWord hTodo ⊢
    exact ChangeDone.of_setB_pwrSave (b := b) (.of_statWord hDest (statWord_setF_congr hWord rfl 0) hTodo)
  · split
    · next hRun =>
      subst hRun
      exact .of_powerView hDest (powerView_enterRun _)
    · exact .of_powerView hDest rfl

theorem changeDone_applyChange {c : DomChange} {s : State}
    (hDest : c.dest < 2 ∨ c.dest = 2 ∧ (c.dom = .ctrl ∨ c.dom = .drive ∨ c.dom = .fab))
    (hOn : c.dom ≠ .ctrl ∨ domState s .ctrl ≠ 0) : ChangeDone c s (applyChange c s) := by
  have hLt : c.dest < 4 := by omega
  by_cases hCtrl : c.dom = .ctrl
  · obtain ⟨d, n⟩ := c
    subst hCtrl
    exact changeDone_applyChange_ctrl hLt (hOn.resolve_left (not_not_intro rfl))
  · exact .of_powerView hLt (powerView_applyChange hCtrl (hDest.imp_right (And.imp_right fun h => h.resolve_left hCtrl)) s)

/-! ### The rise of CTRL (R605) -/

/-- CTRL's state, and the host's link. -/
def ctrlView (s : State) : Nat × Bool := (domState s .ctrl, s.port.link)

theorem ctrlView_of_powerView {s t : State} (h : powerView t = powerView s) : ctrlView t = ctrlView s :=
  Prod.ext (domState_of_powerView h .ctrl) (link_of_powerView h)

theorem ctrlView_pwrBegin (s : State) : ctrlView (pwrBegin s) = ctrlView s :=
  Prod.ext (domState_pwrBegin s .ctrl) (congrArg PortSt.link (pwrBegin_port s))

theorem ctrlView_pwrReport (c : Code) (tag : Nat) (wake : Bool) (cmdId issuer : Nat) (s : State) (w : Word) :
    ctrlView (pwrReport c tag wake cmdId issuer s w) = ctrlView s :=
  Prod.ext ((getF_congr (pwrReport_regs ..) _).trans (domState_pwrAnswer c tag wake cmdId issuer s .ctrl))
    (congrArg PortSt.link (pwrReport_port ..))

/-- R84 to R87: the answer and the begin of a command change no domain. -/
theorem ctrlView_pwrIssue (w : Word) (tag : Nat) (wake : Bool) (cmdId issuer : Nat) (s : State) :
    ctrlView (pwrIssue w tag wake cmdId issuer s) = ctrlView s := by
  cases hHeld : s.sys.held
  case true => rw [pwrIssue, if_pos hHeld]
  case false =>
    cases hBusy : flag s pwrBusy
    case true =>
      rw [pwrIssue_of_busy hHeld hBusy]
      exact Prod.ext (domState_pwrAnswer .busy tag wake cmdId issuer s .ctrl) (congrArg PortSt.link (pwrAnswer_port ..))
    case false =>
      cases hRef : pwrRefused s w
      case true =>
        rw [pwrIssue_of_refused hHeld hBusy hRef]
        exact ctrlView_pwrReport ..
      case false =>
        obtain ⟨t, hRegs, -, hPort, ht⟩ := pwrIssue_of_accepted (w := w) (tag := tag) (wake := wake) (cmdId := cmdId)
          (issuer := issuer) hHeld hBusy hRef
        have hReport : ctrlView t = ctrlView (pwrReport .ok tag wake cmdId issuer s w) :=
          Prod.ext (getF_congr hRegs _) (congrArg PortSt.link hPort)
        rw [ht, ctrlView_pwrBegin, hReport, ctrlView_pwrReport]

theorem ctrlView_enterRecovery (reason : Nat) (s : State) : ctrlView (enterRecovery reason s) = ctrlView s := by
  dsimp only [enterRecovery]
  rw [ctrlView_pwrIssue]
  apply ctrlView_of_powerView
  simp [stageFld, ↓powerView_record]

theorem ctrlView_fwSettle (s : State) : ctrlView (fwSettle s) = ctrlView s := by
  unfold fwSettle
  extract_lets +onlyGivenNames e u b
  have hu : powerView u = powerView s := powerView_fwRecord s e
  clear_value u
  split
  · exact ctrlView_of_powerView (powerView_fwRun s)
  · split
    · exact (ctrlView_enterRecovery 1 u).trans (ctrlView_of_powerView hu)
    · split
      · apply ctrlView_of_powerView
        simp [↓powerView_record, hu]
      · rw [ctrlView_enterRecovery]
        exact ctrlView_of_powerView ((powerView_fwRecord u b).trans hu)

theorem ctrlView_chooseFw (full : Bool) (s : State) : ctrlView (chooseFw full s) = ctrlView s := by
  dsimp only [chooseFw]
  split
  · rw [ctrlView_enterRecovery]
    exact ctrlView_of_powerView rfl
  · split
    · split
      · exact ctrlView_of_powerView (powerView_fwRun _)
      · rw [ctrlView_fwSettle]
        exact ctrlView_of_powerView (powerView_fwReject _ _)
    · split
      · split
        · exact ctrlView_of_powerView (powerView_fwRun _)
        · rw [ctrlView_fwSettle]
          exact ctrlView_of_powerView (powerView_fwReject _ _)
      · exact ctrlView_fwSettle s

theorem ctrlView_romStage (full : Bool) (s : State) : ctrlView (romStage full s) = ctrlView s := by
  unfold romStage
  rw [ctrlView_of_powerView (powerView_holdOut _), ctrlView_chooseFw]
  apply ctrlView_of_powerView
  simp [stageFld]

theorem ctrlView_stageRom (k : StartKind) (s : State) : ctrlView (stageRom k s) = ctrlView s := by
  unfold stageRom
  rw [ctrlView_of_powerView (powerView_startPulses _), ctrlView_of_powerView (powerView_mtrRestore _), ctrlView_romStage]
  exact ctrlView_of_powerView (powerView_breakSeals s)

theorem ctrlView_stageSafe (s : State) : ctrlView (stageSafe s) = ctrlView s := by
  have hDrive : ∀ u, ctrlView (driveTo 1 u) = ctrlView u := fun u =>
    (ctrlView_of_powerView (powerView_driveTo 1 u)).trans (Prod.ext (domState_setDom_ne (by decide) 1 u) rfl)
  unfold stageSafe
  extract_lets +onlyGivenNames u
  have hu : powerView u = powerView s := powerView_setF s (by decide) _
  have hValid : ∀ b, powerView (setB ⟨0x1C, 4, 1⟩ b u) = powerView s := fun b => (powerView_setB u (by decide) b).trans hu
  clear_value u
  split
  · unfold when
    split
    · rw [hDrive]
      exact ctrlView_of_powerView (hValid true)
    · exact ctrlView_of_powerView (hValid true)
  · exact ctrlView_of_powerView (hValid false)

theorem ctrlView_stageImg (k : StartKind) (s : State) : ctrlView (stageImg k s) = ctrlView s := by
  unfold stageImg
  extract_lets +onlyGivenNames r w
  have hr : powerView r.2 = powerView s := (powerView_stageLoad _ _).trans (powerView_setF s (by decide) _)
  clear_value r w
  split
  · rw [ctrlView_pwrIssue]
    exact ctrlView_of_powerView hr
  · exact ctrlView_of_powerView hr

theorem ctrlView_stageReady (k : StartKind) (s : State) : ctrlView (stageReady k s) = ctrlView s := by
  unfold stageReady
  split
  · unfold trialFail
    rw [ctrlView_romStage]
    exact ctrlView_of_powerView (powerView_breakSeals s)
  · extract_lets +onlyGivenNames u v live _ w
    have hu : powerView u = powerView s := powerView_when s (powerView_trialPass s)
    have hw : powerView w = powerView u := rfl
    clear_value w
    apply ctrlView_of_powerView
    simp [stageFld, hw, hu]

/-- CTRL is powered, and the link is as given. -/
structure CtrlUp (link : Bool) (s : State) : Prop where
  on : domState s .ctrl ≠ 0
  link : s.port.link = link

theorem CtrlUp.of_ctrlView {l : Bool} {s t : State} (h : CtrlUp l s) (hView : ctrlView t = ctrlView s) : CtrlUp l t where
  on hOff := h.on ((congrArg Prod.fst hView).symm.trans hOff)
  link := (congrArg Prod.snd hView).trans h.link

/-- R97: halted cores are powered. -/
theorem CtrlUp.haltCores {l : Bool} {s : State} (h : CtrlUp l s) : CtrlUp l (haltCores s) where
  on := by
    have hHalted : domState (Machine.haltCores s) .ctrl = 3 := domState_setDom_same .ctrl (by decide) _
    rw [hHalted]
    decide
  link := h.link

theorem CtrlUp.nextStage {l : Bool} {s : State} (h : CtrlUp l s) (k : StartKind) : CtrlUp l (nextStage k s) := by
  unfold Machine.nextStage
  split
  · exact h.of_ctrlView (ctrlView_of_powerView (powerView_setF s (by decide) _))
  · exact h.of_ctrlView (ctrlView_stageSafe s)
  · split
    · exact h.haltCores
    · split
      · exact h.of_ctrlView (ctrlView_stageRom k s)
      · exact h
  · split
    · exact h.of_ctrlView (ctrlView_stageImg k s)
    · exact h
  · split
    · exact h.of_ctrlView (ctrlView_of_powerView (powerView_stageFw s k))
    · exact h
  · split
    · exact h.of_ctrlView (ctrlView_stageReady k s)
    · exact h
  · exact h

theorem CtrlUp.runStages {l : Bool} {upto n : Nat} {s : State} (h : CtrlUp l s) : CtrlUp l (runStages upto n s) := by
  induction n generalizing s with
  | zero => exact h
  | succ n ih =>
    unfold Machine.runStages
    split
    · next k _ =>
      split
      · exact ih (h.nextStage k)
      · exact h
    · exact h

/-- R157, R605: a rise of CTRL powers it and trains the link, whatever its stages end in. -/
theorem ctrlUp_ctrlRaise (s : State) : CtrlUp (!s.port.perst) (ctrlRaise s) := by
  have hRaised : CtrlUp (!s.port.perst) (newEpochAtStart (setDom .ctrl 2 { s with port := { s.port with link := !s.port.perst } })) := by
    refine ⟨?_, rfl⟩
    have hRun := domState_setDom_same .ctrl (n := 2) (by decide) { s with port := { s.port with link := !s.port.perst } }
    exact fun hOff => absurd (hRun.symm.trans hOff) (by decide)
  exact ((hRaised.of_ctrlView (ctrlView_stageRom .raise _)).runStages (upto := 6) (n := 24)).of_ctrlView
    (ctrlView_of_powerView (powerView_enterRun _))

theorem applyChange_raise {n : Nat} {s : State} (hOff : domState s .ctrl = 0) (hDest : n = 1 ∨ n = 2) :
    CtrlUp (!s.port.perst) (applyChange ⟨.ctrl, n⟩ s) ∧
      (atReady (applyChange ⟨.ctrl, n⟩ s) = true → domState (applyChange ⟨.ctrl, n⟩ s) .ctrl = n) := by
  have hUp := ctrlUp_ctrlRaise s
  have hSet := domState_setDom_same .ctrl (n := n) (by omega) (ctrlRaise s)
  dsimp only [applyChange]
  rw [if_pos hOff]
  generalize ctrlRaise s = u at hUp hSet ⊢
  split
  · exact ⟨⟨by rw [hSet]; omega, hUp.link⟩, fun _ => hSet⟩
  · next hNotReady => exact ⟨hUp, fun h => absurd h hNotReady⟩

/-! ### The timeout of a rise (R89, R112) -/

/-- R89: the command ends with FAULT, and a rise of CTRL ends with its start. -/
def faulted (d : Dom) (s : State) : State :=
  raise 1 (setB pwrFault true (setB pwrBusy false
    { s with sys := { s.sys with todo := [], start := if d = .ctrl then none else s.sys.start } }))

section Faulted
variable (d : Dom) (s : State)

theorem statWord_faulted : getR (faulted d s) 4 = getR (setB pwrFault true (setB pwrBusy false s)) 4 :=
  getR_raise _ (by decide) (.inl (by decide))

theorem flag_pwrFault_faulted : flag (faulted d s) pwrFault = true := by
  rw [flag, getF_of_statWord (statWord_faulted d s) rfl]
  exact flag_setB_same (f := pwrFault) true _ (by decide) (by decide)

theorem flag_pwrBusy_faulted : flag (faulted d s) pwrBusy = false := by
  rw [flag, getF_of_statWord (statWord_faulted d s) rfl]
  exact (flag_setB_other (f := pwrFault) true _ (by decide) (by decide)).trans
    (flag_setB_same (f := pwrBusy) false s (by decide) (by decide))

theorem getF_faulted {f : Fld} (hOff : f.off = 4) (hPlace : f.lo + f.w ≤ 12 ∨ 15 ≤ f.lo) : getF (faulted d s) f = getF s f := by
  have hFault : ∀ t, getF (setB pwrFault true t) f = getF t f := fun t =>
    getF_setF_other _ t (by decide) (.inr (by dsimp only [pwrFault]; omega))
  have hBusy : getF (setB pwrBusy false s) f = getF s f :=
    getF_setF_other _ s (by decide) (.inr (by dsimp only [pwrBusy]; omega))
  exact (getF_of_statWord (statWord_faulted d s) hOff).trans ((hFault _).trans hBusy)

theorem faulted_todo : (faulted d s).sys.todo = [] := by rw [faulted, raise_regs_only]; rfl

end Faulted

/-! ### The statement -/

theorem exec_domainChangeDone {c : DomChange} {rest : List DomChange} {s : State} (h : s.sys.todo = c :: rest) :
    exec .domainChangeDone s = .next
      (let t := applyChange c { s with sys := { s.sys with todo := rest } }
       if flag t pwrBusy then pwrBegin t else t) := by
  show execDomainChangeDone s = _
  rw [execDomainChangeDone, h]

/-- R87, R88: a change but the rise of CTRL. -/
theorem change_completes {c : DomChange} {rest : List DomChange} {s : State} (hTodo : s.sys.todo = c :: rest)
    (hBusy : flag s pwrBusy = true) (hDest : c.dest < 2 ∨ c.dest = 2 ∧ (c.dom = .ctrl ∨ c.dom = .drive ∨ c.dom = .fab))
    (hOn : c.dom ≠ .ctrl ∨ domState s .ctrl ≠ 0) :
    Completes .domainChangeDone s fun t => domState t c.dom = c.dest ∧ t.sys.todo = rest ∧
      flag t pwrBusy = decide (rest ≠ []) ∧ ∀ d : Dom, d ≠ c.dom → domState t d = domState s d := by
  refine ⟨_, exec_domainChangeDone hTodo, ?_⟩
  obtain ⟨hNew, hOther, hRest, hStays⟩ := changeDone_applyChange (s := { s with sys := { s.sys with todo := rest } }) hDest hOn
  dsimp only
  generalize applyChange c _ = t at hNew hOther hRest hStays ⊢
  rw [if_pos (hStays.trans hBusy)]
  refine ⟨(domState_pwrBegin t _).trans hNew, (pwrBegin_todo t).trans hRest, ?_,
    fun d hd => (domState_pwrBegin t d).trans (hOther d hd)⟩
  rw [flag_pwrBusy_pwrBegin, hRest]

/-- R605: the rise of CTRL. -/
theorem raise_completes {n : Nat} {rest : List DomChange} {s : State} (hTodo : s.sys.todo = ⟨.ctrl, n⟩ :: rest)
    (hOff : domState s .ctrl = 0) (hDest : n = 1 ∨ n = 2) :
    Completes .domainChangeDone s fun t =>
      domState t .ctrl ≠ 0 ∧ (atReady t = true → domState t .ctrl = n) ∧ t.port.link = !s.port.perst := by
  refine ⟨_, exec_domainChangeDone hTodo, ?_⟩
  obtain ⟨⟨hOn, hLink⟩, hReady⟩ := applyChange_raise (s := { s with sys := { s.sys with todo := rest } }) hOff hDest
  dsimp only
  generalize applyChange _ _ = t at hOn hLink hReady ⊢
  split
  · have hStage : atReady (pwrBegin t) = atReady t := by
      rw [pwrBegin_of_ctrl_powered hOn, atReady, setB, getF_setF_other _ t (by decide) (by decide)]
      rfl
    rw [domState_pwrBegin, hStage, pwrBegin_port]
    exact ⟨hOn, hReady, hLink⟩
  · exact ⟨hOn, hReady, hLink⟩

theorem exec_powerGoodTimeout {c : DomChange} {rest : List DomChange} {s : State} (h : s.sys.todo = c :: rest) (d : Dom) :
    exec (.powerGoodTimeout d) s = .next (if c.dom = d ∧ domState s d = 0 ∧ c.dest ≠ 0 then faulted c.dom s else s) := by
  show execPowerGoodTimeout d s = _
  rw [execPowerGoodTimeout, h]
  rfl

/-- R89: the domain that rises. -/
theorem timeout_completes {c : DomChange} {rest : List DomChange} {s : State} (hTodo : s.sys.todo = c :: rest)
    (hOff : domState s c.dom = 0) (hDest : c.dest ≠ 0) :
    Completes (.powerGoodTimeout c.dom) s fun t => flag t pwrFault = true ∧ levelCond t 1 = true ∧ flag t pwrBusy = false ∧
      t.sys.todo = [] ∧ getF t pwrResult = getF s pwrResult ∧ ∀ d : Dom, domState t d = domState s d := by
  refine ⟨faulted c.dom s, ?_, flag_pwrFault_faulted .., flag_pwrFault_faulted .., flag_pwrBusy_faulted .., faulted_todo ..,
    getF_faulted _ _ rfl (by decide), fun d => getF_faulted _ _ d.fld_off (.inl (by cases d <;> decide))⟩
  rw [exec_powerGoodTimeout hTodo, if_pos ⟨rfl, hOff, hDest⟩]

/-- Settles O11: a change that is not CTRL's rise leaves all but its own field of SYS_PWR_STAT and SAVE alone; the stages of a rise
leave CTRL powered; a timeout ends the command of the domain that rises. -/
theorem domainChangeCompletes : Obligations.DomainChangeCompletes := by
  unfold Obligations.DomainChangeCompletes
  refine ⟨fun c rest s hTodo hBusy hDest hOn => change_completes hTodo hBusy hDest hOn,
    fun n rest s hTodo hOff hDest => raise_completes hTodo hOff hDest,
    fun c rest s hTodo hOff hDest => ⟨timeout_completes hTodo hOff hDest, fun d hd => ⟨s, ?_, rfl⟩⟩⟩
  rw [exec_powerGoodTimeout hTodo, if_neg fun h => hd h.1.symm]

end Sys2Proof.Machine
end

section
/-! SUPPORT. O41, the arithmetic of metering: rounding to U (R345), the residues of the two totals (R350), what keeps them over a
step and a retry, a point's record (R355), and the totals that a pulse point shows (R348). -/

namespace Sys2Proof.Machine

/-! ### Rounding to U (R345) -/

/-- The whole number nearest to a / d, the greater of two that are equally near. -/
def nearest (a d : Nat) : Nat := (2 * a + d) / (2 * d)

theorem nearest_bounds (a : Nat) {d : Nat} (hd : 0 < d) :
    2 * (nearest a d * d) ≤ 2 * a + d ∧ 2 * a < 2 * (nearest a d * d) + d := by
  have hLow : nearest a d * (2 * d) ≤ 2 * a + d := Nat.div_mul_le_self ..
  have hHigh : 2 * a + d < nearest a d * (2 * d) + 2 * d := Nat.lt_div_mul_add (by omega)
  rw [Nat.mul_left_comm] at hLow hHigh
  omega

theorem nearest_lt {a d n : Nat} (h : a + d < n * d) : nearest a d < n := by
  refine Nat.div_lt_of_lt_mul ?_
  rw [Nat.mul_assoc, Nat.mul_comm d n]
  omega

/-- A number that 64 bits hold with its sign reads back as it is. -/
theorem toInt_ofInt_of_natAbs_lt {i : Int} (h : i.natAbs < 2 ^ 63) : (BitVec.ofInt 64 i).toInt = i :=
  BitVec.toInt_ofInt_eq_self (by decide) (by omega) (by omega)

theorem roundU_natCast {a d : Nat} (hd : 0 < d) (h : a + d < 2 ^ 63 * d) : roundU (a, d) = nearest a d := by
  have hDiv : (2 * (a : Int) + d) / (2 * d) = (nearest a d : Int) := by simp [nearest]
  simp only [roundU, Nat.ne_of_gt hd, if_false, Int.natCast_nonneg, if_true, hDiv]
  exact toInt_ofInt_of_natAbs_lt (nearest_lt h)

theorem roundU_neg_natCast {a d : Nat} (hd : 0 < d) (h : a + d < 2 ^ 63 * d) : roundU (-a, d) = -nearest a d := by
  obtain rfl | ha := a.eq_zero_or_pos
  · have hZero : nearest 0 d = 0 := Nat.div_eq_of_lt (by omega)
    simpa [hZero] using roundU_natCast hd h
  · have hDiv : (2 * (a : Int) + d) / (2 * d) = (nearest a d : Int) := by simp [nearest]
    have hNeg : ¬ (0 : Int) ≤ -a := by omega
    have hFits : (-(nearest a d : Int)).natAbs < 2 ^ 63 := by
      rw [Int.natAbs_neg]
      exact nearest_lt h
    simp only [roundU, Nat.ne_of_gt hd, if_false, hNeg, Int.neg_neg, hDiv]
    exact toInt_ofInt_of_natAbs_lt hFits

/-- R345: an energy within 64 bits goes to the nearest U, ties away from zero. -/
theorem roundU_nearest {n : Int} {d : Nat} (hd : 0 < d) (h : n.natAbs + d < 2 ^ 63 * d) :
    2 * (roundU (n, d) * d - n).natAbs ≤ d ∧ roundU (-n, d) = -roundU (n, d) ∧
    (2 * (roundU (n, d) * d - n).natAbs = d → n.natAbs < (roundU (n, d)).natAbs * d) := by
  obtain ⟨a, rfl | rfl⟩ := n.eq_nat_or_neg
  all_goals
    simp only [Int.natAbs_neg, Int.natAbs_natCast] at h
    have hNear := nearest_bounds a hd
    simp only [roundU_natCast hd h, roundU_neg_natCast hd h, Int.neg_neg, Int.natAbs_neg, Int.natAbs_natCast, Int.neg_mul,
      ← Int.natCast_mul, true_and]
    omega

/-! ### The residues of a sum (R350) -/

/-- Modulo a number that leaves 1 of a division by 3, each carry out of a sum takes 1 from its residue. -/
theorem residueSum_mod {m : Nat} (hm : m % 3 = 1) (a b : Nat) :
    residueSum (residue a) (residue b) ((a + b) / m) = residue ((a + b) % m) := by
  have hSum := Nat.div_add_mod (a + b) m
  have hResidue : m * ((a + b) / m) % 3 = (a + b) / m % 3 := by simp [Nat.mul_mod, hm]
  unfold residueSum residue
  omega

theorem residueZ_of_nonneg {e : Int} (h : 0 ≤ e) : residueZ e = residue e.toNat := by
  unfold residueZ residue
  omega

theorem residueOk_iff {x : PointTot} :
    residueOk x = true ↔ x.rImp = residue x.imp ∧ x.rExp = residue x.exp ∧ x.rS0 = residue x.s0.toNat := by
  simp [residueOk, and_assoc]

/-! ### One sample (R346) -/

@[simp] theorem addSample_zero (x : PointTot) : addSample x 0 = x := rfl

theorem addSample_of_pos (x : PointTot) {e : Int} (h : 0 < e) : addSample x e = { x with
    imp := (x.imp + e.toNat) % 2 ^ 96
    rImp := residueSum x.rImp (residueZ e) ((x.imp + e.toNat) / 2 ^ 96) } := if_pos h

theorem addSample_of_neg (x : PointTot) {e : Int} (h : e < 0) : addSample x e = { x with
    exp := (x.exp + (-e).toNat) % 2 ^ 96
    rExp := residueSum x.rExp (residueZ (-e)) ((x.exp + (-e).toNat) / 2 ^ 96) } :=
  (if_neg (by omega)).trans (if_pos h)

theorem residueOk_addSample {x : PointTot} (h : residueOk x = true) (e : Int) : residueOk (addSample x e) = true := by
  obtain ⟨hImp, hExp, hS0⟩ := residueOk_iff.1 h
  rw [residueOk_iff]
  obtain hNeg | rfl | hPos := Int.lt_trichotomy e 0
  · rw [addSample_of_neg x hNeg]
    refine ⟨hImp, ?_, hS0⟩
    dsimp only
    rw [hExp, residueZ_of_nonneg (by omega), residueSum_mod (by decide)]
  · exact ⟨hImp, hExp, hS0⟩
  · rw [addSample_of_pos x hPos]
    refine ⟨?_, hExp, hS0⟩
    dsimp only
    rw [hImp, residueZ_of_nonneg (Int.le_of_lt hPos), residueSum_mod (by decide)]

/-! ### The entries of a table -/

section Table
variable {α : Type} {e : Nat × α} {t : Tab α} {k : Nat} {v : α}

theorem mem_of_mem_tabErase (h : e ∈ tabErase t k) : e ∈ t := by
  induction t with
  | nil => exact h
  | cons x t ih =>
    obtain ⟨j, u⟩ := x
    unfold tabErase at h
    split at h
    · exact List.mem_cons_of_mem _ (ih h)
    · exact (List.mem_cons.1 h).elim (fun hHead => hHead ▸ List.mem_cons_self) fun hTail => List.mem_cons_of_mem _ (ih hTail)

theorem mem_of_mem_tabInsert (h : e ∈ tabInsert t k v) : e = (k, v) ∨ e ∈ t := by
  induction t with
  | nil => exact .inl (List.mem_singleton.1 h)
  | cons x t ih =>
    obtain ⟨j, u⟩ := x
    unfold tabInsert at h
    split at h
    · exact List.mem_cons.1 h
    · exact (List.mem_cons.1 h).elim (fun hHead => .inr (hHead ▸ List.mem_cons_self)) fun hTail =>
        (ih hTail).imp_right (List.mem_cons_of_mem _)

theorem mem_of_mem_tabSet [DecidableEq α] {d : Nat → α} (h : e ∈ tabSet d t k v) : e = (k, v) ∨ e ∈ t := by
  unfold tabSet at h
  split at h
  · exact .inr (mem_of_mem_tabErase h)
  · exact (mem_of_mem_tabInsert h).imp_right mem_of_mem_tabErase

/-- A write keeps what holds of every entry's value. -/
theorem all_tabSet [DecidableEq α] {q : α → Bool} {d : Nat → α} (ht : t.all (fun e => q e.2) = true) (hv : q v = true)
    (k : Nat) : (tabSet d t k v).all (fun e => q e.2) = true :=
  List.all_eq_true.2 fun _ he => (mem_of_mem_tabSet he).elim (fun h => h ▸ hv) (List.all_eq_true.1 ht _)

end Table

/-! ### What leaves the metering alone -/

section MeterFrame
variable (s : State)

@[simp] theorem raise_mtr (n : Nat) : (raise n s).mtr = s.mtr := by rw [raise_regs_only]

@[simp] theorem capture_mtr (x : SplitIn) : (capture x s).mtr = s.mtr := by
  unfold capture
  split <;> rfl

theorem each_mtr {α : Type} {xs : List α} {f : α → State → State} (h : ∀ x t, (f x t).mtr = t.mtr) :
    (each xs f s).mtr = s.mtr :=
  each_frame State.mtr h

@[simp] theorem setTwin_mtr (t : Twin) (x : TwinState) : (setTwin t x s).mtr = s.mtr := by cases t <;> rfl

@[simp] theorem histBump_mtr (t : Twin) : (histBump t s).mtr = s.mtr := by cases t <;> rfl

@[simp] theorem strike_mtr (t : Twin) : (strike t s).mtr = s.mtr := by cases t <;> rfl

@[simp] theorem rewriteReport_mtr : (rewriteReport s).mtr = s.mtr := rfl

@[simp] theorem divergence_mtr : (divergence s).mtr = s.mtr := by
  unfold divergence
  split <;> simp

@[simp] theorem declareFailed_mtr (t : Twin) (cause : Nat) : (declareFailed t cause s).mtr = s.mtr := by
  dsimp only [declareFailed, when]
  simp [apply_ite State.mtr]

@[simp] theorem tstApply_mtr (kind target : Nat) : (tstApply kind target s).2.mtr = s.mtr := by
  dsimp only [tstApply]
  split
  · rfl
  · simp [apply_ite Prod.snd, apply_ite State.mtr]

@[simp] theorem residueForced_mtr : (residueForced s).2.2.mtr = s.mtr := by
  have hTry : ∀ (c : Bool) (n : Nat) (t : State), (if c then tstApply 16 n t else (none, t)).2.mtr = t.mtr := fun c n t => by
    cases c
    · rfl
    · exact tstApply_mtr t 16 n
  unfold residueForced
  extract_lets other a b
  have hb : b.2.mtr = s.mtr := (hTry _ 1 a.2).trans (hTry _ 0 s)
  split
  · split
    · rfl
    · exact hb
  · exact hb

@[simp] theorem shadowRes_mtr (res : Twin → Bool × MeterRes) : (shadowRes res s).mtr = s.mtr := by
  unfold shadowRes
  split
  · split <;> simp
  · rfl

@[simp] theorem mtrFault_mtr (i : Nat) : (mtrFault i s).mtr = s.mtr := by
  dsimp only [mtrFault]
  split <;> simp

@[simp] theorem clipChans_mtr (cs : List Nat) : (clipChans cs s).mtr = s.mtr := by
  unfold clipChans
  split
  · rfl
  · exact (mtrFault_mtr _ 2).trans (each_mtr s fun p t => setF_mtr t _ _)

@[simp] theorem writeMean_mtr (p : Nat) : (writeMean p s).mtr = s.mtr := by
  dsimp only [writeMean]
  split <;> simp

end MeterFrame

/-! ### What leaves the kept totals and the sums of the second alone -/

section Kept
variable {s t : State}

theorem residuesAgree_of_mtr (h : t.mtr = s.mtr) : residuesAgree t = residuesAgree s := by
  rw [residuesAgree, h, residuesAgree]

theorem residuesAgree_dropStep : residuesAgree (dropStep s) = residuesAgree s := residuesAgree_of_mtr (bump_mtr s _)

theorem residuesAgree_toRetry (p : Nat) (w : MeterWork) : residuesAgree (toRetry p w s) = residuesAgree s := rfl

theorem residuesAgree_feedFeeders (xs : List Int) : residuesAgree (feedFeeders xs s) = residuesAgree s := rfl

theorem residuesAgree_writeGap : residuesAgree (writeGap s) = residuesAgree s := by
  have hReg : ∀ v t, residuesAgree (setR 0x12004C v t) = residuesAgree t := fun v t => residuesAgree_of_mtr (setR_mtr t _ v)
  dsimp only [writeGap]
  split
  · rfl
  · split
    · exact hReg _ _
    · split <;> exact hReg _ _

theorem residuesAgree_startPulse (k : Nat) : residuesAgree (startPulse k s) = residuesAgree s := by
  unfold startPulse setPulse
  split <;> rfl

theorem residuesAgree_startPulses : residuesAgree (startPulses s) = residuesAgree s :=
  each_frame residuesAgree fun k _ => residuesAgree_startPulse k

/-! ### What is kept of a step or a retry carries its own residues (R350 to R353) -/

theorem residuesAgree_setTot {x : PointTot} (hs : residuesAgree s = true) (hx : residueOk x = true) (p : Nat) :
    residuesAgree (setTot p x s) = true := by
  obtain ⟨hPts, hSecond⟩ := Bool.and_eq_true_iff.1 hs
  exact Bool.and_eq_true_iff.2 ⟨all_tabSet (d := fun _ => ({} : PointTot)) hPts hx p, hSecond⟩

theorem residuesAgree_setSecond {y : MeterSecond} (hs : residuesAgree s = true) (hy : secondOk y = true) (p : Nat) :
    residuesAgree { s with mtr := { s.mtr with second := tabSet (fun _ => {}) s.mtr.second p y } } = true := by
  obtain ⟨hPts, hSecond⟩ := Bool.and_eq_true_iff.1 hs
  exact Bool.and_eq_true_iff.2 ⟨hPts, all_tabSet (d := fun _ => ({} : MeterSecond)) hSecond hy p⟩

theorem residuesAgree_keepTot {x : MeterRes} (hs : residuesAgree s = true) (hTot : residueOk x.tot = true)
    (hSec : secondOk x.sec = true) (p : Nat) : residuesAgree (keepTot p x s) = true := by
  have hSet := residuesAgree_setTot (residuesAgree_setSecond hs hSec p) hTot p
  dsimp only [keepTot]
  split
  · exact hSet
  · exact (residuesAgree_of_mtr (capture_mtr _ _)).trans hSet

/-- A datapath that passes shows its residues to be those of its results. -/
theorem datapath_residues {us : List MeterUpset} {forced : Bool} {t : Twin} {p : Nat} {w : MeterWork}
    (h : (datapath s us forced t p w).1 = true) :
    residueOk (datapath s us forced t p w).2.tot = true ∧ secondOk (datapath s us forced t p w).2.sec = true := by
  simp only [datapath, Bool.and_eq_true] at h ⊢
  obtain ⟨⟨⟨_, hTot⟩, hSec⟩, _⟩ := h
  exact ⟨hTot, hSec⟩

theorem residuesAgree_keepPoint {again : Bool} {us : List MeterUpset} {forced : Twin → Bool} {p : Nat} {w : MeterWork}
    (hs : residuesAgree s = true) : residuesAgree (keepPoint again us forced p w s) = true := by
  unfold keepPoint
  extract_lets res fails fallback
  have hKeep : ∀ t u, (res t).1 = true → residuesAgree u = true → residuesAgree (keepTot p (res t).2 u) = true :=
    fun t u hPass hu => residuesAgree_keepTot hu (datapath_residues hPass).1 (datapath_residues hPass).2 p
  have hFails : residuesAgree (fails s) = true := by
    unfold fails
    split
    · exact residuesAgree_dropStep.trans hs
    · exact (residuesAgree_toRetry p w).trans hs
  have hFallback : ∀ t, (res t).1 = true → residuesAgree (fallback t s) = true := fun t hPass =>
    (residuesAgree_of_mtr (strike_mtr _ _)).trans
      (hKeep t _ hPass ((residuesAgree_of_mtr ((raise_mtr _ _).trans (bump_mtr s _))).trans hs))
  clear_value fails fallback
  split
  · split
    case h_1 hA hB =>
      split
      · exact hKeep .a s hA hs
      · have hSrc : (res s.twn.readSrc).1 = true := by cases s.twn.readSrc <;> assumption
        exact (residuesAgree_of_mtr (divergence_mtr _)).trans
          (hKeep _ _ hSrc ((residuesAgree_of_mtr (bump_mtr s _)).trans hs))
    case h_2 hA _ => exact hFallback .a hA
    case h_3 _ hB => exact hFallback .b hB
    case h_4 => exact (residuesAgree_of_mtr ((strike_mtr _ _).trans (strike_mtr _ _))).trans hFails
  · split
    · next t _ =>
      refine (residuesAgree_of_mtr (shadowRes_mtr _ _)).trans ?_
      split
      · next hPass => exact hKeep t s hPass hs
      · exact (residuesAgree_of_mtr (strike_mtr _ _)).trans hFails
    · exact hs

/-! ### A step of every point -/

/-- What every application keeps of the residues, the repetition keeps. -/
theorem residuesAgree_each {α : Type} {xs : List α} {f : α → State → State}
    (h : ∀ x t, residuesAgree t = true → residuesAgree (f x t) = true) (hs : residuesAgree s = true) :
    residuesAgree (each xs f s) = true :=
  foldl_keeps (fun t => residuesAgree t = true) (fun t x => h x t) hs

theorem residuesAgree_applyZeros (step : Nat) (hs : residuesAgree s = true) : residuesAgree (applyZeros step s) = true := by
  dsimp only [applyZeros]
  split
  · exact hs
  · refine residuesAgree_startPulses.trans (residuesAgree_each (fun z t ht => ?_) hs)
    exact (residuesAgree_of_mtr (setF_mtr _ _ _)).trans (residuesAgree_setTot ht (residueOk_iff.2 ⟨rfl, rfl, rfl⟩) z.1)

theorem residuesAgree_accumulate {m : MeterIn} {forced : Nat → Twin → Bool} (hs : residuesAgree s = true) :
    residuesAgree (accumulate m forced s) = true := by
  unfold accumulate
  extract_lets u live v work kept
  have hu : residuesAgree u = true := by
    unfold u
    split
    · exact (residuesAgree_feedFeeders _).trans hs
    · exact hs
  have hv : residuesAgree v = true := by
    unfold v
    split
    · exact hu
    · exact residuesAgree_writeGap.trans hu
  have hKept : residuesAgree kept = true := residuesAgree_each (fun _ _ => residuesAgree_keepPoint) hv
  split <;> exact hKept

theorem residuesAgree_writeMeans (hs : residuesAgree s = true) : residuesAgree (writeMeans s) = true := by
  have hMeans := (residuesAgree_of_mtr (each_mtr (xs := points.filter (ptSampled s)) s fun p t => writeMean_mtr t p)).trans hs
  exact Bool.and_eq_true_iff.2 ⟨(Bool.and_eq_true_iff.1 hMeans).1, rfl⟩

theorem residuesAgree_runMeter (m : MeterIn) (hs : residuesAgree s = true) : residuesAgree (runMeter m s) = true := by
  have hForced : residuesAgree (residueForced s).2.2 = true := (residuesAgree_of_mtr (residueForced_mtr s)).trans hs
  dsimp only [runMeter]
  have hRun := fun forced => residuesAgree_applyZeros m.step (residuesAgree_accumulate (m := m) (forced := forced) hForced)
  split
  · exact residuesAgree_writeMeans (hRun _)
  · exact hRun _

/-! ### The commands -/

theorem meterStep_residuesAgree (x : MeterStep) (hs : residuesAgree s = true) :
    Completes (.meterStep x) s fun t => residuesAgree t = true := by
  refine ⟨_, rfl, ?_⟩
  split
  · exact hs
  · extract_lets m _ u
    have hu : residuesAgree u = true := (residuesAgree_of_mtr (clipChans_mtr _ _)).trans hs
    split
    · exact hu
    · exact residuesAgree_runMeter m hu

theorem meterRetry_residuesAgree (p : Fin 128) (us : List MeterUpset) (hs : residuesAgree s = true) :
    Completes (.meterRetry p us) s fun t => residuesAgree t = true := by
  refine ⟨_, rfl, ?_⟩
  split
  · exact residuesAgree_keepPoint hs
  · exact hs

end Kept

/-! ### A point's record, and what a pulse point shows (R348, R355) -/

@[simp] theorem length_leBytes (n v : Nat) : (leBytes n v).length = n := by
  induction n generalizing v with
  | zero => rfl
  | succ n ih => rw [leBytes, List.length_cons, ih]

theorem recBytes_s0 (x : PointTot) : ((recBytes x).drop 24).take 4 = wordBytes x.s0 := by
  have hTotals : (leBytes 12 x.imp ++ leBytes 12 x.exp).length = 24 := by simp
  have hCount : (wordBytes x.s0).length = 4 := length_leBytes 4 _
  simp only [recBytes, List.append_assoc]
  rw [← List.append_assoc, List.drop_left' hTotals, List.take_left' hCount]

/-- The energy of c pulses: whole mWh, and the rest scaled to 2^32. -/
theorem s0Energy_parts (c : Nat) {ratio : Nat} (h : ratio ≠ 0) :
    s0Energy c ratio / 2 ^ 32 = c * 10 ^ 9 / ratio ∧ s0Energy c ratio % 2 ^ 32 = c * 10 ^ 9 % ratio * 2 ^ 32 / ratio := by
  have hFrac : c * 10 ^ 9 % ratio * 2 ^ 32 / ratio < 2 ^ 32 :=
    Nat.div_lt_of_lt_mul (Nat.mul_lt_mul_of_pos_right (Nat.mod_lt _ (Nat.pos_of_ne_zero h)) (by decide))
  have hEnergy : s0Energy c ratio = c * 10 ^ 9 / ratio * 2 ^ 32 + c * 10 ^ 9 % ratio * 2 ^ 32 / ratio := rfl
  rw [hEnergy, Nat.mul_comm _ (2 ^ 32)]
  constructor
  · rw [Nat.mul_add_div (by decide), Nat.div_eq_of_lt hFrac, Nat.add_zero]
  · rw [Nat.mul_add_mod, Nat.mod_eq_of_lt hFrac]

theorem ptShown_pulse {s : State} {p : Nat} (hValid : ptValid s p = true) (hKind : ptKind s p = 4) (hRatio : ptRatio s p ≠ 0)
    (hFit : s.fitS0 = true) : ptShown s p = { ptTot s p with imp := s0Energy (ptTot s p).s0.toNat (ptRatio s p), exp := 0 } := by
  simp [ptShown, hValid, hKind, hFit, hRatio]

theorem ptNet_of_exp_zero {x : PointTot} (h : x.exp = 0) : ptNet x = x.imp := by simp [ptNet, h]

theorem ptAbs_of_exp_zero {x : PointTot} (h : x.exp = 0) : ptAbs x = x.imp := by simp [ptAbs, h]

/-! ### The statement -/

/-- Settles O41: 2^96 leaves 1 of a division by 3, so a carry takes 1 from a residue; what a step or a retry keeps has passed the
check of its residues, and a ZERO leaves zeros. -/
theorem meterArithmetic : Obligations.MeterArithmetic := by
  unfold Obligations.MeterArithmetic
  refine ⟨fun n d hd h => roundU_nearest hd h,
    fun x e => ⟨addSample_zero x, fun h => ?_, fun h => ?_, fun h => residueOk_addSample h e⟩,
    fun x p us s hs => ⟨meterStep_residuesAgree x hs, meterRetry_residuesAgree p us hs⟩,
    recBytes_s0, fun s p hValid hKind hRatio hFit => ?_⟩
  · rw [addSample_of_pos x h]
    exact ⟨rfl, rfl, rfl⟩
  · rw [addSample_of_neg x h]
    exact ⟨rfl, rfl, rfl⟩
  · rw [ptShown_pulse hValid hKind hRatio hFit]
    obtain ⟨hWhole, hFrac⟩ := s0Energy_parts (ptTot s p).s0.toNat hRatio
    exact ⟨hWhole, hFrac, rfl, ptNet_of_exp_zero rfl, ptAbs_of_exp_zero rfl⟩

end Sys2Proof.Machine
end
